-- ==== Sys2Proof/Word.lean ====
section
/-! DEFINITION. The plain types the model is written in: the byte, the part time, the ring slot and the table
of a fixed number of like things. -/

namespace Sys2Proof

/-- One byte of a ring slot (R174). -/
abbrev Byte := BitVec 8

/-- Part time: ms, 32 bits, free-running (Table 4, R2). Also any other quantity that wraps modulo 2^32. -/
abbrev PartTime := BitVec 32

/-- A table of exactly `n` like things: the webs, the channels, the lanes. Plain data: a list and the fact of
its length. -/
structure Tab (α : Type) (n : Nat) where
  /-- The entries, in index order. -/
  items : List α
  /-- There are `n` of them. -/
  size : items.length = n
  deriving DecidableEq, Repr

/-- Entry `i`. -/
def Tab.get {α : Type} {n : Nat} (t : Tab α n) (i : Fin n) : α :=
  t.items.get (i.cast t.size.symm)

/-- The table with entry `i` replaced. -/
def Tab.set {α : Type} {n : Nat} (t : Tab α n) (i : Fin n) (x : α) : Tab α n :=
  ⟨t.items.set i.val x, by rw [List.length_set]; exact t.size⟩

/-- The table with entry `i` changed by `f`. -/
def Tab.modify {α : Type} {n : Nat} (t : Tab α n) (i : Fin n) (f : α → α) : Tab α n :=
  t.set i (f (t.get i))

/-- The table whose entry `i` is `f i`. -/
def Tab.ofFn {α : Type} {n : Nat} (f : Fin n → α) : Tab α n :=
  ⟨List.ofFn f, List.length_ofFn⟩

/-- The table with `x` everywhere. -/
def Tab.replicate {α : Type} (n : Nat) (x : α) : Tab α n :=
  ⟨List.replicate n x, List.length_replicate⟩

/-- One slot of the line ring: 32 bytes (R174). -/
abbrev Slot := Tab Byte 32

/-- The slot whose bytes are the listed ones, padded with 0 (R174, Table 11-1). -/
def slotOfBytes (bs : List Byte) : Slot :=
  Tab.ofFn fun i => bs.getD i.val 0

/-- Output lanes: one value for a single-lane channel, eight for a DAMP channel (R131). -/
abbrev Lanes := List Nat

end Sys2Proof
end

