-- ==== Sys2Proof/Config.lean ====
section
/-! DEFINITION. What is fixed for one DC420: the sizes and constants of the manual, and the one thing outside
the part that the model must name, the straps of the power-on reset that `State.reset` stands after. -/

namespace Sys2Proof.Config

/-- The strap levels latched by the power-on reset of `State.reset` (R179). DESIGN CHOICE (log entry 1): the
manual gives no strap value; 12 is the node address of its worked example (section 11.7), an address in
service. -/
def resetStraps : Byte := 12

/-- Records a segment queue holds at most (R13). -/
def queueRecords : Nat := 64

/-- Entries the notice queue holds at most (R171). -/
def noticeEntries : Nat := 16

/-- Slot-boundary timeout, ms of part time (R178). -/
def ringTimeout : Nat := 5

/-- Highest output value, output units (Table 4). -/
def outputMax : Nat := 10000

/-- Cap of a record's solvent load, mg/m² (R14). -/
def loadMax : Nat := 4000

/-- Highest web speed, mm/s (Table 4). -/
def speedMax : Nat := 20000

/-- Distance of target and speed at or below which a speed plan is cleared, mm/s (R39, R40). -/
def planSlack : Nat := 50

/-- Ramp memory words (R148). -/
def rampWords : Nat := 1024

/-- Largest count a notice entry reaches (R171). -/
def countMax : Nat := 255

/-- Largest pass count reported (R158), and shown: DESIGN CHOICE (log entry 34). -/
def passMax : Nat := 65535

end Sys2Proof.Config
end

