-- ==== Sys2Proof/Syntax.lean ====
section
/-! DEFINITION. The commands of the DC420: one constructor of `Instr` per row of the table of operations and
events, with the types its operands need. A row that is a request carries what stood in its REQUEST slot
(tag and argument bytes); a row that is a slot carries the slot; a row that is a signal or a timer expiry
names the web, housing, zone, channel or slot it reaches. -/

namespace Sys2Proof

/-- Web modes, in the order of R28 (the order is the encoding, R174). -/
inductive Mode where
  | idle | standby | crawl | run | brk
  deriving DecidableEq, Repr

/-- The two profile banks of a housing (R61). -/
inductive Bank where
  | p | q
  deriving DecidableEq, Repr

/-- The two coverage banks of a web (R6). -/
inductive CovBank where
  | a | b
  deriving DecidableEq, Repr

/-- Marker kinds (Table 1-4); `note k` is NOTE(k+1). -/
inductive MarkerKind where
  | splice | jobcut | wash
  | note (k : Fin 7)
  deriving DecidableEq, Repr

/-- Where a marker came from (Table 1-4). -/
inductive MarkerSource where
  | request | program
  deriving DecidableEq, Repr

/-- Authority levels in ascending order of precedence (R134). -/
inductive Level where
  | schedule | operator | limit | brk | trip
  deriving DecidableEq, Repr

/-- Trip causes, in the order of R119. -/
inductive TripCause where
  | lelHigh
  | zone (z : Fin 4)
  | exhHigh
  | lelStale
  deriving DecidableEq, Repr

/-- The party on whose behalf an entry above SCHEDULE stands (Table 8-3). The party decides the level: the
operator OPERATOR, the LEL input LIMIT, a web BREAK, a trip cause TRIP. -/
inductive Party where
  | operator
  | lel
  | web (w : Fin 4)
  | cause (c : TripCause)
  deriving DecidableEq, Repr

/-- The bank indicators (R66). -/
inductive Indicator where
  | zone (h : Fin 2) (z : Fin 4)
  | damper (w : Fin 4)
  | chill (w : Fin 4)
  deriving DecidableEq, Repr

/-- The two water circuits of a chill stand. -/
inductive Circuit where
  | a | b
  deriving DecidableEq, Repr

/-- The windows Web Finishing judges (Table 10-1). -/
inductive Window where
  | dry (w : Fin 4)
  | chillExit (w : Fin 4)
  | waterReturn (w : Fin 4) (c : Circuit)
  deriving DecidableEq, Repr

/-- The 24 ramp targets (Table 9-1). -/
inductive RampTarget where
  | zoneSp (h : Fin 2) (z : Fin 4)
  | fan (h : Fin 2) (z : Fin 4)
  | chillTarget (w : Fin 4)
  | dampBase (w : Fin 4)
  deriving DecidableEq, Repr

/-- A signal that may be a slot's trigger (R161). -/
inductive TriggerSignal where
  | mode (w : Fin 4) (m : Mode)
  | marker (w : Fin 4) (k : MarkerKind) (station : Fin 7)
  | chain (slot : Fin 8)
  deriving DecidableEq, Repr

/-- What a ramp signal tells the loop of a zone: the ramp values of ZONE_SP and FAN after the write or release (R95). -/
structure ZoneRamp where
  zone : Fin 4
  setPoint : Option Nat
  fan : Option Nat
  deriving DecidableEq, Repr

/-- What a ramp signal tells Web Finishing of a web: the ramp value of the target after the write or release (R104,
R113). -/
structure WebRamp where
  web : Fin 4
  value : Option Nat
  deriving DecidableEq, Repr

/-- End actions of a ramp program (Table 9-2). -/
inductive EndAction where
  | release | hold | repeatPass
  deriving DecidableEq, Repr

/-- Why an indicator switched (Table 4-5): a marker, with the seq of its record, or a discard. -/
inductive SwitchCause where
  | marker (seq : BitVec 16)
  | discard
  deriving DecidableEq, Repr

/-- Why a bank was freed (Table 4-5). -/
inductive FreeCause where
  | switch | dark
  deriving DecidableEq, Repr

/-- A notice as its raising rule gives it: kind, subject and detail (Tables 10-1 and 11-9). A break cause set
is a mask over ENTRY, DRYER_IN, CHILL_IN, CHILL_OUT, STALE (R28), a trip cause set one over R119's list. -/
inductive Notice where
  | modeChange (w : Fin 4) (old new : Mode)
  | brk (w : Fin 4) (causes : BitVec 5)
  | trackGap (w : Fin 4) (delta : Int)
  | markerPassed (w : Fin 4) (k : MarkerKind) (station : Fin 7) (seq : BitVec 16)
  | markerDropped (w : Fin 4) (k : MarkerKind) (source : MarkerSource)
  | inputStale (ch : Fin 32) (mask : BitVec 8)
  | inputRestored (ch : Fin 32) (mask : BitVec 8)
  | profileSwitched (ind : Indicator) (bank : Bank) (cause : SwitchCause)
  | bankFree (h : Fin 2) (bank : Bank) (cause : FreeCause)
  | limitOn (h : Fin 2) (lel : Nat)
  | limitOff (h : Fin 2) (lel : Nat)
  | trip (h : Fin 2) (causes : BitVec 7) (reading : Option Int)
  | tripCleared (h : Fin 2) (causes : BitVec 7)
  | programDone (slot : Fin 8) (action : EndAction) (passes : Nat)
  | programBlocked (slot : Fin 8) (target : RampTarget) (owner : Fin 8) (kind : Fin 4)
  | outOfWindow (win : Window) (value bound : Int)
  | windowRestored (win : Window) (value bound : Int)
  | ringRestored (downAt : PartTime)
  deriving DecidableEq, Repr

/-- What Sample Intake is given of a SAMPLE slot (R176, R50): lanes at or beyond `laneCount`, and lanes not in
`validity`, carry no reading. -/
structure Sample where
  /-- Source sensor node. -/
  node : Byte
  /-- Sample set id. -/
  setId : Byte
  /-- Physical lanes reported, limited by the payload. -/
  laneCount : Nat
  /-- Bit i set: physical lane i is valid. -/
  validity : BitVec 8
  /-- The lane values, signed 16-bit. -/
  lanes : Tab Int 8
  deriving DecidableEq, Repr

/-- A REQUEST addressed to the part: the tag of its slot and the argument bytes its row reads. -/
structure Request where
  /-- Slot byte 2, returned in the reply. -/
  tag : Byte
  /-- The payload bytes from the row's first argument on, up to the payload length. -/
  args : List Byte
  deriving DecidableEq, Repr

/-- The commands: one constructor per row of spec/opcode_table.json. The comment on a request says from which
payload byte `args` runs. -/
inductive Instr where
  /-- Release of the reset pin with these strap levels (R179). -/
  | powerOnReset (straps : Byte)
  /-- A slot not taken by the part (R175). -/
  | slotForward (slot : Slot)
  /-- A good SAMPLE slot (R176). -/
  | sampleSlot (slot : Slot)
  /-- A good VACANT slot (R177). -/
  | vacantSlot (slot : Slot)
  /-- Expiry of the slot-boundary timer (R178). -/
  | ringDown
  /-- A request the Decoder answers itself; `args` is the whole payload, from byte 4 (R180). -/
  | unknownRequest (rq : Request)
  /-- READ; `args` from byte 5. -/
  | read (rq : Request)
  /-- WRITE to an object with no write rule of its own; `args` from byte 5. -/
  | write (rq : Request)
  /-- WRITE SUBSCRIPTION; this and the next ten: `args` from byte 6. -/
  | writeSubscription (rq : Request)
  | writeBinding (rq : Request)
  | writeStations (rq : Request)
  | writeCoverage (rq : Request)
  | writeProfile (rq : Request)
  | writeLoop (rq : Request)
  | writeWebParam (rq : Request)
  | writeHousingParam (rq : Request)
  | writeProtection (rq : Request)
  | writeRampMemory (rq : Request)
  | writeRampDescriptor (rq : Request)
  /-- VALIDATE of COVERAGE, then of PROFILE; `args` from byte 6. -/
  | validateCoverage (rq : Request)
  | validateProfile (rq : Request)
  /-- Requests with `args` from byte 5. -/
  | webEnable (rq : Request)
  | webDisable (rq : Request)
  | speedPlan (rq : Request)
  | mark (rq : Request)
  | clearBreak (rq : Request)
  | clearTrip (rq : Request)
  | overrideValue (rq : Request)
  | release (rq : Request)
  /-- RAMP, by operation; `args` from byte 6. -/
  | arm (rq : Request)
  | disarm (rq : Request)
  | start (rq : Request)
  | pause (rq : Request)
  | resume (rq : Request)
  | stop (rq : Request)
  /-- Requests with `args` from byte 5. -/
  | noticeMask (rq : Request)
  | restart (rq : Request)
  /-- A sample reaching an input channel (R49, R53). -/
  | intakeSample (ch : Fin 32) (sample : Sample)
  | ageTimerExpiry (ch : Fin 32)
  /-- Web Tracker (R12, R9, R24). -/
  | advance (w : Fin 4)
  | trackingStart (w : Fin 4)
  | queueEmptying (w : Fin 4)
  /-- Web Mode Control (R30, R33, R38). -/
  | encSpeed (w : Fin 4)
  | brkSample (w : Fin 4)
  | encStaleSignal (w : Fin 4)
  | brkStaleSignal (w : Fin 4)
  /-- Profile Store (R69, R71, R72, R73). -/
  | housingDarkSignal (h : Fin 2)
  | zoneSwitchSignal (h : Fin 2) (z : Fin 4) (incoming : Bank) (seq : BitVec 16)
  | damperSwitchSignal (h : Fin 2) (incoming : Bank) (seq : BitVec 16)
  | chillSwitchSignal (h : Fin 2) (incoming : Bank) (seq : BitVec 16)
  | completionSignal (h : Fin 2) (incoming : Bank)
  /-- Zone Loops (Table 5-2). -/
  | fullUpdate (h : Fin 2) (z : Fin 4)
  | feedforwardRefresh (h : Fin 2) (z : Fin 4)
  | zairStale (h : Fin 2) (z : Fin 4)
  | zoneRampSignal (h : Fin 2) (told : ZoneRamp)
  | operatorReturn (h : Fin 2) (z : Fin 4) (value : Nat)
  | protectiveReturn (h : Fin 2) (z : Fin 4) (left : Level)
  /-- Web Finishing (Table 6-2). -/
  | dexitArrival (w : Fin 4)
  | cexitArrival (w : Fin 4)
  | cwretArrival (w : Fin 4)
  | finishingEncArrival (w : Fin 4)
  | dexitStale (w : Fin 4)
  | cexitStale (w : Fin 4)
  | dampBaseRampSignal (told : WebRamp)
  | chillTargetRampSignal (told : WebRamp)
  /-- Solvent Monitor (Table 7-2). -/
  | lelArrival (h : Fin 2)
  | monitorEncArrival (h : Fin 2)
  | zairTripCheck (h : Fin 2) (z : Fin 4)
  | exhtArrival (h : Fin 2)
  | lelStale (h : Fin 2)
  | purgeClaimSignal (h : Fin 2)
  | purgeTimerExpiry (h : Fin 2)
  /-- Authority Arbiter (R136 to R143); `values` is read for an OPERATOR claim alone. -/
  | claim (ch : Fin 30) (party : Party) (values : Lanes)
  | holderRelease (ch : Fin 30) (party : Party)
  | dwellEnd (h : Fin 2)
  | dwellTimerExpiry (ch : Fin 30)
  | scheduleValue (ch : Fin 30) (values : Lanes)
  | activitySignal (w : Fin 4)
  | movementTimerExpiry (ch : Fin 30)
  /-- Emission Arbiter (R166 to R171). -/
  | channelActive (ch : Fin 30)
  | channelInactive (ch : Fin 30)
  | topChange (ch : Fin 30)
  | outputChange (ch : Fin 30)
  | refreshTimerExpiry (ch : Fin 30)
  | noticeRaised (n : Notice)
  /-- Ramp Engine (R154, R162, R163). -/
  | paceTimerExpiry (slot : Fin 8)
  | trigger (slot : Fin 8) (sig : TriggerSignal)
  | breakStop (slot : Fin 8) (w : Fin 4)
  /-- 32 bytes arriving while the reset pin is held active (R179). -/
  | resetHeldActive (slot : Slot)
  deriving DecidableEq, Repr

end Sys2Proof
end

