-- ==== Sys2Proof/Machine/Channels.lean ====
section
/-! DEFINITION. The fixed roles and numbers of webs, housings, input channels and output channels
(R45 and Table 3-1, R131 and Table 8-1), and the power-on protection table (Table 8-4). -/

namespace Sys2Proof.Machine

/-! ## Webs and housings -/

/-- The housing that carries web `w` (press arrangement: H0 carries W0, W1; H1 carries W2, W3). -/
def housingOf (w : Fin 4) : Fin 2 := ⟨w.val / 2, by omega⟩

/-- The housing's first web. -/
def firstWeb (h : Fin 2) : Fin 4 := ⟨2 * h.val, by omega⟩

/-- The housing's second web. -/
def secondWeb (h : Fin 2) : Fin 4 := ⟨2 * h.val + 1, by omega⟩

/-- The other web of web `w`'s housing. -/
def otherWeb (w : Fin 4) : Fin 4 :=
  if w.val % 2 = 0 then ⟨w.val / 2 * 2 + 1, by omega⟩ else ⟨w.val / 2 * 2, by omega⟩

/-- The place of web `w` among its housing's two: 0 first, 1 second. -/
def webPlace (w : Fin 4) : Fin 2 := ⟨w.val % 2, by omega⟩

/-! ## Input channels (Table 3-1) -/

/-- The role and subject of an input channel. -/
inductive InRole where
  | zair (h : Fin 2) (z : Fin 4)
  | lel (h : Fin 2)
  | exht (h : Fin 2)
  | dexit (w : Fin 4)
  | cexit (w : Fin 4)
  | cwret (w : Fin 4)
  | enc (w : Fin 4)
  | brk (w : Fin 4)
  deriving DecidableEq, Repr

def zairCh (h : Fin 2) (z : Fin 4) : Fin 32 := ⟨6 * h.val + z.val, by omega⟩
def lelCh (h : Fin 2) : Fin 32 := ⟨6 * h.val + 4, by omega⟩
def exhtCh (h : Fin 2) : Fin 32 := ⟨6 * h.val + 5, by omega⟩
def dexitCh (w : Fin 4) : Fin 32 := ⟨12 + 5 * w.val, by omega⟩
def cexitCh (w : Fin 4) : Fin 32 := ⟨13 + 5 * w.val, by omega⟩
def cwretCh (w : Fin 4) : Fin 32 := ⟨14 + 5 * w.val, by omega⟩
def encCh (w : Fin 4) : Fin 32 := ⟨15 + 5 * w.val, by omega⟩
def brkCh (w : Fin 4) : Fin 32 := ⟨16 + 5 * w.val, by omega⟩

/-- The role of input channel `ch` (Table 3-1). -/
def inRole (ch : Fin 32) : InRole :=
  if ch.val < 12 then
    let h : Fin 2 := Fin.ofNat 2 (ch.val / 6)
    if ch.val % 6 < 4 then .zair h (Fin.ofNat 4 (ch.val % 6))
    else if ch.val % 6 = 4 then .lel h else .exht h
  else
    let w : Fin 4 := Fin.ofNat 4 ((ch.val - 12) / 5)
    if (ch.val - 12) % 5 = 0 then .dexit w
    else if (ch.val - 12) % 5 = 1 then .cexit w
    else if (ch.val - 12) % 5 = 2 then .cwret w
    else if (ch.val - 12) % 5 = 3 then .enc w else .brk w

/-- Logical lanes a role uses (Table 3-1). -/
def InRole.lanes : InRole → Nat
  | .zair _ _ => 1
  | .lel _ => 1
  | .exht _ => 1
  | .dexit _ => 8
  | .cexit _ => 8
  | .cwret _ => 2
  | .enc _ => 3
  | .brk _ => 4

/-- Whether a role's offset and scale are held at 0 (Table 3-1, R47). -/
def InRole.fixedLanes : InRole → Bool
  | .enc _ => true
  | .brk _ => true
  | _ => false

/-! ## Output channels (Table 8-1) -/

/-- The role of an output channel. -/
inductive OutRole where
  | heat (h : Fin 2) (z : Fin 4)
  | fan (h : Fin 2) (z : Fin 4)
  | exh (h : Fin 2)
  | damp (w : Fin 4)
  | chillA (w : Fin 4)
  | chillB (w : Fin 4)
  deriving DecidableEq, Repr

def heatOut (h : Fin 2) (z : Fin 4) : Fin 30 := ⟨9 * h.val + z.val, by omega⟩
def fanOut (h : Fin 2) (z : Fin 4) : Fin 30 := ⟨9 * h.val + 4 + z.val, by omega⟩
def exhOut (h : Fin 2) : Fin 30 := ⟨9 * h.val + 8, by omega⟩
def dampOut (w : Fin 4) : Fin 30 := ⟨18 + w.val, by omega⟩
def chillAOut (w : Fin 4) : Fin 30 := ⟨22 + 2 * w.val, by omega⟩
def chillBOut (w : Fin 4) : Fin 30 := ⟨23 + 2 * w.val, by omega⟩

/-- The role of output channel `ch` (Table 8-1). -/
def outRole (ch : Fin 30) : OutRole :=
  if ch.val < 18 then
    let h : Fin 2 := Fin.ofNat 2 (ch.val / 9)
    if ch.val % 9 < 4 then .heat h (Fin.ofNat 4 (ch.val % 9))
    else if ch.val % 9 < 8 then .fan h (Fin.ofNat 4 (ch.val % 9 - 4)) else .exh h
  else if ch.val < 22 then .damp (Fin.ofNat 4 (ch.val - 18))
  else
    let w : Fin 4 := Fin.ofNat 4 ((ch.val - 22) / 2)
    if (ch.val - 22) % 2 = 0 then .chillA w else .chillB w

/-- Lanes of an output channel: eight for DAMP, one for every other (R131). -/
def laneCount (ch : Fin 30) : Nat :=
  if 18 ≤ ch.val ∧ ch.val < 22 then 8 else 1

/-- Whether the channel is one of the nine of a housing. -/
def isHousingChannel (ch : Fin 30) : Bool := decide (ch.val < 18)

/-- The housing of the channel's owner: the housing itself, or the housing of the owning web. -/
def channelHousing (ch : Fin 30) : Fin 2 :=
  match outRole ch with
  | .heat h _ => h
  | .fan h _ => h
  | .exh h => h
  | .damp w => housingOf w
  | .chillA w => housingOf w
  | .chillB w => housingOf w

/-- The nine housing channels of `h`, HEAT0..3, FAN0..3, EXH. -/
def housingChannels (h : Fin 2) : List (Fin 30) :=
  [heatOut h 0, heatOut h 1, heatOut h 2, heatOut h 3, fanOut h 0, fanOut h 1, fanOut h 2, fanOut h 3, exhOut h]

/-- The DAMP and CHILL channels of web `w`. -/
def webChannels (w : Fin 4) : List (Fin 30) := [dampOut w, chillAOut w, chillBOut w]

/-- The twelve channels a break of web `w` claims (R34). -/
def breakChannels (w : Fin 4) : List (Fin 30) := housingChannels (housingOf w) ++ webChannels w

/-- The protection table after power-on reset (Table 8-4): HEAT parks at 0, EXH at 10000, every other channel
holds; the same at LIMIT, BREAK and TRIP. -/
def protectionDefault (ch : Fin 30) : Option Nat :=
  match outRole ch with
  | .heat _ _ => some 0
  | .exh _ => some 10000
  | _ => none

/-- Index of zone loop (h, z). -/
def loopIx (h : Fin 2) (z : Fin 4) : Fin 8 := ⟨4 * h.val + z.val, by omega⟩

end Sys2Proof.Machine
end

