-- ==== Sys2Proof/Machine/State.lean ====
section
/-! DEFINITION. The state of the DC420, block by block as Figure 1 and Table 1 give it, plus the two things a
model of a block needs: the commands waiting (`pending`) and the signals sent between blocks and not yet taken
(`signals`). All plain data. `State.reset` is the part right after a power-on reset. -/

namespace Sys2Proof.Machine

/-- The reasons a step can stop with a fault. There is none: no rule of the manual stops the part, so no
meaning raises one (safe: nothing is hidden behind a stop). -/
inductive Fault where
  deriving DecidableEq, Repr

/-- The reasons a step can be refused. -/
inductive Refusal where
  /-- An arm of exec whose command has no meaning yet. Raised by exec's rejected arms only; none is left. Safe. -/
  | notModelled (mnemonic : String)
  deriving DecidableEq, Repr

/-! ## Line Ring Port (chapter 11) -/

/-- UP or DOWN (R178). -/
inductive RingState where
  | up | down
  deriving DecidableEq, Repr

/-- The Ring Port and the ring pins. -/
structure RingPort where
  /-- The reset pin is held active (R179). -/
  resetHeld : Bool
  /-- The latched node address (R179). -/
  node : Byte
  /-- The ring state (R178). -/
  ring : RingState
  /-- Part time of the expiry that made the ring DOWN (R178). -/
  downAt : PartTime
  /-- The slot-boundary timer: its expiry, or stopped (R178). -/
  boundary : Option PartTime
  /-- The slot last put out at RING OUT. -/
  ringOut : Slot
  deriving DecidableEq, Repr

/-! ## Web Tracker (chapter 1) -/

/-- States of a coverage bank (Table 1-2). -/
inductive CovState where
  | invalid | valid | active
  deriving DecidableEq, Repr

/-- One run of a coverage bank (R6); the program marker is none or a NOTE kind. -/
structure CoverageRun where
  length : Nat
  load : Nat
  marker : Option (Fin 7)
  deriving DecidableEq, Repr

/-- A coverage bank (R6). -/
structure CoverageBank where
  repeatLength : Nat
  runCount : Nat
  runs : Tab CoverageRun 32
  state : CovState
  deriving DecidableEq, Repr

/-- The marker of a segment record (Table 1-4). -/
structure Marker where
  kind : MarkerKind
  source : MarkerSource
  /-- Index of the next station to fire, 7 when all have fired. -/
  next : Nat
  /-- Whether it is a lead-web marker, a JOBCUT placed while its web was the lead web, which it stays until it leaves the
  queue (R18). -/
  lead : Bool
  deriving DecidableEq, Repr

/-- A segment record (Table 1-4). -/
structure Segment where
  seq : BitVec 16
  head : BitVec 32
  length : Nat
  load : Nat
  marker : Option Marker
  deriving DecidableEq, Repr

/-- What the Web Tracker holds of one web. -/
structure TrackWeb where
  /-- Station distances (R4). -/
  stations : Tab Nat 7
  /-- Station notice mask, bit i for station i (R4). -/
  mask : BitVec 7
  /-- The table's set flag (R4). -/
  stationsSet : Bool
  bankA : CoverageBank
  bankB : CoverageBank
  /-- Cursor: run index and length remaining (R8). -/
  cursorRun : Fin 32
  cursorLeft : Nat
  /-- Path counter (R10). -/
  path : BitVec 32
  /-- Encoder reference (R10). -/
  encRef : Option (BitVec 32)
  /-- Segment queue, oldest record first; the last record is the open record (R13). -/
  queue : List Segment
  /-- Sequence counter (R13). -/
  seqCounter : BitVec 16
  /-- Wash window, remaining length (R17). -/
  wash : Nat
  deriving DecidableEq, Repr

/-- The Web Tracker. -/
structure Tracker where
  webs : Tab TrackWeb 4
  /-- Per housing, the pending job switch with its incoming bank (R20, R23). -/
  jobs : Tab (Option Bank) 2
  deriving DecidableEq, Repr

/-! ## Web Mode Control (chapter 2) -/

/-- A trim authority: 0, ½, 1, 2 (Table 2-1). -/
inductive Trim where
  | zero | half | one | two
  deriving DecidableEq, Repr

/-- Web parameters (Table 2-1). -/
structure WebParams where
  width : Nat
  grammage : Nat
  vMove : Nat
  vRun : Nat
  hysteresis : Nat
  maxJump : Nat
  washLoad : Nat
  washLength : Nat
  trimStandby : Trim
  trimCrawl : Trim
  trimRun : Trim
  chillMin : Nat
  deriving DecidableEq, Repr

/-- A speed plan (R28). -/
structure Plan where
  target : Nat
  rate : Nat
  deriving DecidableEq, Repr

/-- What Web Mode Control holds of one web (R28). -/
structure WebControl where
  mode : Mode
  /-- Last speed. -/
  v : Nat
  plan : Option Plan
  /-- Break cause set: bit 0 ENTRY, 1 DRYER_IN, 2 CHILL_IN, 3 CHILL_OUT, 4 STALE. -/
  causes : BitVec 5
  params : WebParams
  deriving DecidableEq, Repr

/-! ## Sample Intake (chapter 3) -/

/-- A subscription record (Table 3-2). -/
structure Subscription where
  enabled : Bool
  node : Nat
  setId : Nat
  laneMap : Tab Nat 8
  offset : Int
  scale : Int
  maxAge : Nat
  deriving DecidableEq, Repr

/-- A channel record (R53, R55): a lane is present when it holds a value. -/
structure InputRecord where
  /-- FRESH (true) or STALE. -/
  fresh : Bool
  lanes : Tab (Option Int) 8
  arrival : PartTime
  /-- Whether the age timer runs. -/
  ageRunning : Bool
  deriving DecidableEq, Repr

/-- An input channel. -/
structure InputChannel where
  sub : Subscription
  record : InputRecord
  deriving DecidableEq, Repr

/-! ## Profile Store (chapter 4) -/

/-- States of a profile bank (Table 4-2). -/
inductive ProfState where
  | invalid | valid | inUse
  deriving DecidableEq, Repr

/-- The fields of a profile bank (Table 4-1). Grid cell [i][j], zone z, stands at (i × 6 + j) × 4 + z (R181). -/
structure Profile where
  n : Nat
  speeds : Tab Nat 8
  m : Nat
  loads : Tab Nat 6
  grid : Tab Nat 192
  share : Tab Nat 4
  kEvap : Tab Nat 4
  bWeb : Tab Nat 4
  fanRun : Tab Nat 4
  fanStandby : Tab Nat 4
  dryTarget : Nat
  dryWindow : Nat
  chillTarget : Nat
  chillWindow : Nat
  shareA : Nat
  kc : Nat
  dampBase : Nat
  dampMin : Nat
  dampMax : Nat
  dampDeadband : Nat
  dampShift : Nat
  deriving DecidableEq, Repr

/-- A profile bank: its fields and its state. -/
structure ProfileBank where
  fields : Profile
  state : ProfState
  deriving DecidableEq, Repr

/-- What the Profile Store holds of one housing (R61, R66, R67). -/
structure ProfileHousing where
  bankP : ProfileBank
  bankQ : ProfileBank
  /-- ZONE indicators. -/
  zones : Tab (Option Bank) 4
  /-- DAMPER indicators of the housing's first and second web. -/
  dampers : Tab (Option Bank) 2
  /-- CHILL indicators of the housing's first and second web. -/
  chills : Tab (Option Bank) 2
  /-- Switch record: the incoming bank; the outgoing bank is its counterpart (R67). -/
  switch : Option Bank
  deriving DecidableEq, Repr

/-! ## Zone Loops (chapter 5) and Web Finishing (chapter 6) -/

/-- Where a set point, chill target or damper base came from (Tables 5-1 and 6-1). -/
inductive Source where
  | p | q | ramp
  deriving DecidableEq, Repr

/-- One zone loop (Table 5-1). -/
structure ZoneLoop where
  kp : Nat
  ki : Nat
  iLimit : Nat
  setPoint : Nat
  source : Source
  iAcc : Int
  lastE : Int
  lastP : Int
  lastTrim : Int
  ffEvap : Nat
  ffWeb : Nat
  ff : Nat
  heat : Nat
  fan : Nat
  factor : Trim
  deriving DecidableEq, Repr

/-- Finishing state of one web (Table 6-1); a window holds true for OUT. -/
structure Finishing where
  dampers : Tab Nat 8
  dampBase : Nat
  dampSource : Source
  runSeen : Bool
  dryOut : Bool
  chillOut : Bool
  returnAOut : Bool
  returnBOut : Bool
  kp : Nat
  ki : Nat
  iLimit : Nat
  target : Nat
  targetSource : Source
  deltaT : Nat
  ff : Nat
  iAcc : Int
  lastE : Int
  lastP : Int
  lastTrim : Int
  factor : Trim
  chillA : Nat
  chillB : Nat
  deriving DecidableEq, Repr

/-! ## Solvent Monitor (chapter 7) -/

/-- Which web leads: FIRST or SECOND of the housing (Table 7-1). -/
inductive LeadWeb where
  | first | second
  deriving DecidableEq, Repr

/-- Housing parameters (Table 7-1). -/
structure HousingParams where
  lelTarget : Nat
  lelClear : Nat
  lelLimit : Nat
  lelTrip : Nat
  zoneTrip : Nat
  exhTrip : Nat
  purgeDwell : Nat
  eBase : Nat
  kExh : Nat
  kLel : Nat
  tLead : Nat
  returnLimit : Nat
  lead : LeadWeb
  deriving DecidableEq, Repr

/-- The exhaust record of the last exhaust computation (R119). -/
structure ExhaustRecord where
  total : Nat
  lel : Option Nat
  lelTerm : Nat
  exh : Nat
  deriving DecidableEq, Repr

/-- The Solvent Monitor of one housing (R119). -/
structure Monitor where
  params : HousingParams
  /-- LIMIT state: true is ON. -/
  limitOn : Bool
  /-- Trip latch: true is set. -/
  latch : Bool
  /-- Cause set: bit 0 LEL_HIGH, 1..4 ZONE_Z0..Z3, 5 EXH_HIGH, 6 LEL_STALE. -/
  causes : BitVec 7
  /-- Purge timer: its expiry, or stopped. -/
  purge : Option PartTime
  exhaust : ExhaustRecord
  deriving DecidableEq, Repr

/-! ## Output Authority (chapter 8) -/

/-- A binding record (Table 8-2). -/
structure Binding where
  bound : Bool
  node : Nat
  tag : Nat
  deadband : Nat
  refresh : Nat
  slew : Nat
  deriving DecidableEq, Repr

/-- Where an entry's value comes from (Table 8-3). -/
inductive ValueSource where
  | computed | stored | park | held
  deriving DecidableEq, Repr

/-- A stack entry above SCHEDULE (Table 8-3). The dwell end is kept by its timer (R134). -/
structure Entry where
  /-- Holder set: bit 0 OPERATOR or LEL; for BREAK bit w for web w; for TRIP a mask over R119's list. -/
  holders : BitVec 8
  source : ValueSource
  value : Lanes
  claimTime : PartTime
  releasePending : Bool
  deriving DecidableEq, Repr

/-- One output channel with its authority stack and its row of the protection table. -/
structure OutputChannel where
  binding : Binding
  /-- Activity as last judged (R133). -/
  active : Bool
  /-- Value of the SCHEDULE entry. -/
  schedule : Lanes
  /-- The entries of OPERATOR, LIMIT, BREAK, TRIP, in that order. -/
  entries : Tab (Option Entry) 4
  /-- Movement origin (R140). -/
  originValue : Lanes
  originTime : PartTime
  /-- Return hold and its value (R142). -/
  returnHold : Option Nat
  /-- Movement timer (R141). -/
  moveTimer : Option PartTime
  /-- Dwell timer of a DAMP or CHILL channel (R134). -/
  dwell : Option PartTime
  /-- Protection table: LIMIT, BREAK, TRIP; a park value, or none for HOLD (R135). -/
  protection : Tab (Option Nat) 3
  deriving DecidableEq, Repr

/-! ## Ramp Engine (chapter 9) -/

/-- A word of ramp memory at its address. -/
abbrev RampCell := Nat × BitVec 16

/-- Ramp memory: the words that are not 0, at strictly rising addresses; an unlisted word reads 0 (R148). -/
abbrev RampMemory := List RampCell

/-- Descriptor modes (Table 9-2). -/
inductive RampMode where
  | one | two | three
  deriving DecidableEq, Repr

/-- Descriptor transfers (Table 9-2). -/
inductive Transfer where
  | step | line
  deriving DecidableEq, Repr

/-- Base ticks (Table 9-2). -/
inductive Tick where
  | ms10 | ms100 | s1 | s10
  deriving DecidableEq, Repr

/-- Descriptor triggers (Table 9-2). -/
inductive Trigger where
  | console
  | on (sig : TriggerSignal)
  deriving DecidableEq, Repr

/-- A descriptor: each field absent or present (Table 9-2). -/
structure RampDescriptor where
  base : Option Nat
  mode : Option RampMode
  transfer : Option Transfer
  targets : Option (List RampTarget)
  n : Option Nat
  l : Option Nat
  bk : Option Nat
  off1 : Option Int
  off2 : Option Int
  reload : Option Nat
  tick : Option Tick
  trigger : Option Trigger
  endAction : Option EndAction
  rearm : Option Bool
  deriving DecidableEq, Repr

/-- Slot states (Table 9-3). -/
inductive SlotState where
  | empty | loaded | armed | running | pausing | paused | holding
  deriving DecidableEq, Repr

/-- A program slot. -/
structure RampSlot where
  desc : RampDescriptor
  state : SlotState
  pointer : Nat
  n : Nat
  l : Nat
  b : Nat
  /-- Pace timer: its expiry, or stopped. -/
  timer : Option PartTime
  /-- Remaining pace time saved by a pause. -/
  saved : Option PartTime
  passes : Nat
  deriving DecidableEq, Repr

/-- An entry of the ownership table (R149). -/
structure Ownership where
  owner : Option (Fin 8)
  value : Option Nat
  deriving DecidableEq, Repr

/-- The Ramp Engine; ownership entries stand at the target's code (R174). -/
structure RampEngine where
  memory : RampMemory
  slots : Tab RampSlot 8
  owners : Tab Ownership 24
  deriving DecidableEq, Repr

/-! ## Emission Arbiter (chapter 10) -/

/-- An emission record (R166). -/
structure EmissionRecord where
  lastSent : Option Lanes
  /-- Refresh timer: its expiry, or stopped. -/
  refresh : Option PartTime
  /-- Member of the emission set. -/
  pending : Bool
  deriving DecidableEq, Repr

/-- A notice queue entry (R171). -/
structure NoticeEntry where
  notice : Notice
  count : Nat
  time : PartTime
  overflow : Bool
  deriving DecidableEq, Repr

/-- The kind of the previous grant (R169). -/
inductive GrantKind where
  | command | notice
  deriving DecidableEq, Repr

/-- The Emission Arbiter. -/
structure Emission where
  records : Tab EmissionRecord 30
  /-- Round-robin pointers, SCHEDULE to TRIP (R169). -/
  pointers : Tab (Fin 30) 5
  previous : GrantKind
  /-- Notice queue, oldest first (R171). -/
  queue : List NoticeEntry
  /-- Notice mask, bit i for the kind numbered i (R172). -/
  mask : BitVec 18
  deriving DecidableEq, Repr

/-! ## The whole part -/

/-- The state of the part. -/
structure State where
  /-- Commands waiting, first in, first out. -/
  pending : List Instr
  /-- Slots waiting at RING IN (the model's own, log entry 3). -/
  ringIn : List Slot
  /-- Signals sent by a block and not yet taken by another, oldest first (the model's own, log entry 2). -/
  signals : List Instr
  /-- Part time (Table 4, R2). -/
  now : PartTime
  ring : RingPort
  tracker : Tracker
  webs : Tab WebControl 4
  inputs : Tab InputChannel 32
  profiles : Tab ProfileHousing 2
  /-- Zone loops, (h, z) at 4h + z. -/
  loops : Tab ZoneLoop 8
  finishing : Tab Finishing 4
  monitors : Tab Monitor 2
  outputs : Tab OutputChannel 30
  ramp : RampEngine
  emission : Emission
  deriving DecidableEq, Repr

/-! ## Power-on reset values -/

def RingPort.reset : RingPort :=
  { resetHeld := false, node := Config.resetStraps, ring := .down, downAt := 0, boundary := none,
    ringOut := Tab.replicate 32 0 }

def CoverageBank.reset : CoverageBank :=
  { repeatLength := 0, runCount := 0, runs := Tab.replicate 32 ⟨0, 0, none⟩, state := .invalid }

/-- Table 1-6. -/
def TrackWeb.reset : TrackWeb :=
  { stations := Tab.replicate 7 0, mask := 0, stationsSet := false, bankA := CoverageBank.reset,
    bankB := CoverageBank.reset, cursorRun := 0, cursorLeft := 0, path := 0, encRef := none, queue := [],
    seqCounter := 0, wash := 0 }

def Tracker.reset : Tracker :=
  { webs := Tab.replicate 4 TrackWeb.reset, jobs := Tab.replicate 2 none }

def WebParams.reset : WebParams :=
  { width := 0, grammage := 0, vMove := 0, vRun := 0, hysteresis := 0, maxJump := 0, washLoad := 0,
    washLength := 0, trimStandby := .zero, trimCrawl := .zero, trimRun := .zero, chillMin := 0 }

/-- Table 2-4. -/
def WebControl.reset : WebControl :=
  { mode := .idle, v := 0, plan := none, causes := 0, params := WebParams.reset }

/-- Table 3-2. -/
def Subscription.reset : Subscription :=
  { enabled := false, node := 0, setId := 0, laneMap := Tab.ofFn (fun i => i.val), offset := 0, scale := 0,
    maxAge := 0 }

/-- Table 3-7. -/
def InputRecord.reset : InputRecord :=
  { fresh := false, lanes := Tab.replicate 8 none, arrival := 0, ageRunning := false }

def InputChannel.reset : InputChannel :=
  { sub := Subscription.reset, record := InputRecord.reset }

def Profile.reset : Profile :=
  { n := 0, speeds := Tab.replicate 8 0, m := 0, loads := Tab.replicate 6 0, grid := Tab.replicate 192 0,
    share := Tab.replicate 4 0, kEvap := Tab.replicate 4 0, bWeb := Tab.replicate 4 0,
    fanRun := Tab.replicate 4 0, fanStandby := Tab.replicate 4 0, dryTarget := 0, dryWindow := 0,
    chillTarget := 0, chillWindow := 0, shareA := 0, kc := 0, dampBase := 0, dampMin := 0, dampMax := 0,
    dampDeadband := 0, dampShift := 0 }

/-- Table 4-8. -/
def ProfileHousing.reset : ProfileHousing :=
  { bankP := ⟨Profile.reset, .invalid⟩, bankQ := ⟨Profile.reset, .invalid⟩, zones := Tab.replicate 4 none,
    dampers := Tab.replicate 2 none, chills := Tab.replicate 2 none, switch := none }

/-- Table 5-4. -/
def ZoneLoop.reset : ZoneLoop :=
  { kp := 0, ki := 0, iLimit := 0, setPoint := 0, source := .p, iAcc := 0, lastE := 0, lastP := 0, lastTrim := 0,
    ffEvap := 0, ffWeb := 0, ff := 0, heat := 0, fan := 0, factor := .zero }

/-- Table 6-3. -/
def Finishing.reset : Finishing :=
  { dampers := Tab.replicate 8 0, dampBase := 0, dampSource := .p, runSeen := false, dryOut := false,
    chillOut := false, returnAOut := false, returnBOut := false, kp := 0, ki := 0, iLimit := 0, target := 0,
    targetSource := .p, deltaT := 0, ff := 0, iAcc := 0, lastE := 0, lastP := 0, lastTrim := 0,
    factor := .zero, chillA := 0, chillB := 0 }

/-- Table 7-1, last column. -/
def HousingParams.reset : HousingParams :=
  { lelTarget := 0, lelClear := 0, lelLimit := 0, lelTrip := 0, zoneTrip := 0, exhTrip := 0, purgeDwell := 0,
    eBase := 0, kExh := 0, kLel := 0, tLead := 0, returnLimit := 0, lead := .first }

def ExhaustRecord.reset : ExhaustRecord :=
  { total := 0, lel := none, lelTerm := 0, exh := 0 }

/-- Table 7-3. -/
def Monitor.reset : Monitor :=
  { params := HousingParams.reset, limitOn := false, latch := false, causes := 0, purge := none,
    exhaust := ExhaustRecord.reset }

/-- Table 8-2. -/
def Binding.reset : Binding :=
  { bound := false, node := 0, tag := 0, deadband := 0, refresh := 0, slew := 0 }

/-- Table 8-6. -/
def OutputChannel.reset (ch : Fin 30) : OutputChannel :=
  { binding := Binding.reset, active := false, schedule := List.replicate (laneCount ch) 0,
    entries := Tab.replicate 4 none, originValue := List.replicate (laneCount ch) 0, originTime := 0,
    returnHold := none, moveTimer := none, dwell := none, protection := Tab.replicate 3 (protectionDefault ch) }

def RampDescriptor.reset : RampDescriptor :=
  { base := none, mode := none, transfer := none, targets := none, n := none, l := none, bk := none,
    off1 := none, off2 := none, reload := none, tick := none, trigger := none, endAction := none,
    rearm := none }

def RampSlot.reset : RampSlot :=
  { desc := RampDescriptor.reset, state := .empty, pointer := 0, n := 0, l := 0, b := 0, timer := none,
    saved := none, passes := 0 }

/-- Table 9-6. -/
def RampEngine.reset : RampEngine :=
  { memory := [], slots := Tab.replicate 8 RampSlot.reset, owners := Tab.replicate 24 ⟨none, none⟩ }

/-- R173. -/
def Emission.reset : Emission :=
  { records := Tab.replicate 30 ⟨none, none, false⟩, pointers := Tab.replicate 5 29, previous := .command,
    queue := [], mask := BitVec.allOnes 18 }

/-- The part right after a power-on reset with the straps of `Config.resetStraps`: every block at its
power-on values, nothing waiting. -/
def State.reset : State :=
  { pending := [], ringIn := [], signals := [], now := 0, ring := RingPort.reset, tracker := Tracker.reset,
    webs := Tab.replicate 4 WebControl.reset, inputs := Tab.replicate 32 InputChannel.reset,
    profiles := Tab.replicate 2 ProfileHousing.reset, loops := Tab.replicate 8 ZoneLoop.reset,
    finishing := Tab.replicate 4 Finishing.reset, monitors := Tab.replicate 2 Monitor.reset,
    outputs := Tab.ofFn OutputChannel.reset, ramp := RampEngine.reset, emission := Emission.reset }

end Sys2Proof.Machine
end

