-- ==== Sys2Proof/Machine/Operands.lean ====
section
/-! DEFINITION. The arithmetic conventions (R3), the lane operations (R51, R52, R57, R58), part-time intervals
(R2), and the encodings of values as words and bytes (R174) with the reading of argument bytes. -/

namespace Sys2Proof.Machine

/-! ## Arithmetic (R3): integer division by a positive number is the floor -/

/-- Clamp(x, a, b). -/
def clampInt (x a b : Int) : Int := max a (min x b)

/-- Clamp for quantities that are never negative. -/
def clampNat (x a b : Nat) : Nat := max a (min x b)

/-- Saturate16. -/
def saturate16 (x : Int) : Int := clampInt x (-32768) 32767

/-- An arithmetic right shift by `k`: floor division by 2^k. -/
def shiftRight (x : Int) (k : Nat) : Int := x / (2 ^ k : Nat)

/-! ## Part time (R2) -/

/-- The interval from `t` to `now`, modulo 2^32. -/
def elapsed (now t : PartTime) : Nat := (now - t).toNat

/-- Whether `now` has reached the expiry time `t`: the difference modulo 2^32 lies in the half range at or
after it. DEDUCED (log entry 7): every interval of the part is far below 2^31 ms. -/
def reached (now t : PartTime) : Bool := decide ((now - t).toNat < 2 ^ 31)

/-- The part time `d` ms after `t`. -/
def after (t : PartTime) (d : Nat) : PartTime := t + BitVec.ofNat 32 d

/-! ## Lane operations -/

/-- OFFSET (R52). -/
def offsetLane (offset x : Int) : Int := saturate16 (x + offset)

/-- SCALE (R52). -/
def scaleLane (s x : Int) : Int :=
  if 0 ≤ s then saturate16 (x * (2 ^ s.toNat : Nat)) else shiftRight x (-s).toNat

/-- SELECT of logical lane `i` with map entry `p` (R50, R51): the value of physical lane `p`, or absent. -/
def selectLane (sample : Sample) (p : Nat) : Option Int :=
  if h : p < 8 then
    if p < min sample.laneCount 8 ∧ sample.validity.getLsbD p = true then some (sample.lanes.get ⟨p, h⟩) else none
  else none

/-- The intake path of logical lane `i` (R51, R52), absent beyond the `k` lanes of the role. -/
def intakeLane (sub : Subscription) (k : Nat) (sample : Sample) (i : Fin 8) : Option Int :=
  if i.val < k then
    (selectLane sample (sub.laneMap.get i)).map fun x => scaleLane sub.scale (offsetLane sub.offset x)
  else none

/-- The values of the present lanes, in lane order. -/
def presentLanes (lanes : Tab (Option Int) 8) : List Int := lanes.items.filterMap id

/-- The mean of a list of values: floor of sum over count; none of an empty list (R57). -/
def meanOf (xs : List Int) : Option Int :=
  if xs = [] then none else some (xs.sum / (xs.length : Nat))

/-- MEAN of a channel record (R57). -/
def InputRecord.mean (r : InputRecord) : Option Int := meanOf (presentLanes r.lanes)

/-- Logical lane 0 of a record. -/
def InputRecord.lane0 (r : InputRecord) : Option Int := r.lanes.get 0

/-- The present mask of a record. -/
def presentMask (lanes : Tab (Option Int) 8) : BitVec 8 :=
  (List.finRange 8).foldl (fun m i => if (lanes.get i).isSome then m ||| BitVec.ofNat 8 (2 ^ i.val) else m) 0

/-- DEADBAND(d) (R58). -/
def deadbandLane (d : Nat) (x : Int) : Int := if x.natAbs ≤ d then 0 else x

/-- SHIFT(x, c) (R58). -/
def shiftLane (x : Int) (c : Nat) : Int :=
  if 15 < c then (if x < 0 then -1 else 0) else shiftRight x c

/-- Output lanes forced to the channel's lane count and to 0..10000 (R131): every value handed in the manual has
that form already. -/
def fitLanes (k : Nat) (vs : Lanes) : Lanes :=
  (List.range k).map fun i => min (vs.getD i 0) Config.outputMax

/-! ## Words and bytes (R174): high byte first, two's complement -/

/-- A signed or unsigned value as a 16-bit word. -/
def toWord (x : Int) : Nat := (x % 65536).toNat

/-- A 16-bit word read as a signed value. -/
def signedWord (w : Nat) : Int := if w % 65536 < 32768 then (w % 65536 : Nat) else (w % 65536 : Nat) - 65536

/-- The two words of a 32-bit value, high word first. -/
def words32 (x : Int) : List Nat := [(x / 65536 % 65536).toNat, (x % 65536).toNat]

/-- The two bytes of a word, high byte first. -/
def wordBytes (w : Nat) : List Byte := [BitVec.ofNat 8 (w / 256), BitVec.ofNat 8 w]

/-- The four bytes of a 32-bit value, high byte first. -/
def longBytes (x : BitVec 32) : List Byte :=
  [BitVec.ofNat 8 (x.toNat / 16777216), BitVec.ofNat 8 (x.toNat / 65536), BitVec.ofNat 8 (x.toNat / 256),
    BitVec.ofNat 8 x.toNat]

/-- The bytes of a list of words. -/
def bytesOfWords (ws : List Nat) : List Byte := ws.flatMap wordBytes

/-- The words of a list of bytes; an odd last byte is left out. -/
def wordsOfBytes : List Byte → List Nat
  | hi :: lo :: rest => (hi.toNat * 256 + lo.toNat) :: wordsOfBytes rest
  | _ => []

/-- A boolean as a word. -/
def boolWord (b : Bool) : Nat := if b then 1 else 0

/-- Byte `i` of a list, as a number; 0 beyond its end. -/
def byteAt (bs : List Byte) (i : Nat) : Nat := (bs.getD i 0).toNat

/-- The unsigned 16-bit number at byte `i` of a list, high byte first. -/
def wordAt (bs : List Byte) (i : Nat) : Nat := byteAt bs i * 256 + byteAt bs (i + 1)

/-- The unsigned 32-bit number at byte `i` of a list. -/
def longAt (bs : List Byte) (i : Nat) : Nat := wordAt bs i * 65536 + wordAt bs (i + 2)

/-- The index `i` as one of `n`, or none when it is out of range. -/
def asFin (n i : Nat) : Option (Fin n) := if h : i < n then some ⟨i, h⟩ else none

/-- The words of `image` from word `at` on replaced by `vs`. -/
def splice (image : List Nat) (start : Nat) (vs : List Nat) : List Nat :=
  image.take start ++ vs ++ image.drop (start + vs.length)

end Sys2Proof.Machine
end

