-- ==== Sys2Proof/Machine/Flags.lean ====
section
/-! DEFINITION. Codes of enumerated values (R174), the members of sets held as masks, the kind, subject and
detail of notices (Tables 10-1, 11-6, 11-9), and the statuses of replies (Table 11-5). -/

namespace Sys2Proof.Machine

/-! ## Codes (R174): the position in the list that defines the value -/

def modeCode : Mode → Nat
  | .idle => 0 | .standby => 1 | .crawl => 2 | .run => 3 | .brk => 4

def modeOfCode : Nat → Option Mode
  | 0 => some .idle | 1 => some .standby | 2 => some .crawl | 3 => some .run | 4 => some .brk | _ => none

def bankCode : Bank → Nat
  | .p => 0 | .q => 1

def otherBank : Bank → Bank
  | .p => .q | .q => .p

def otherCovBank : CovBank → CovBank
  | .a => .b | .b => .a

def markerCode : MarkerKind → Nat
  | .splice => 0 | .jobcut => 1 | .wash => 2 | .note k => 3 + k.val

/-- The marker kind of a code 0..9 (R18 check 1). -/
def markerOfCode (c : Nat) : Option MarkerKind :=
  if c = 0 then some .splice else if c = 1 then some .jobcut else if c = 2 then some .wash
  else (asFin 7 (c - 3)).map .note

/-- A coverage run's program marker as its word: 0 none, 1..7 NOTE1..NOTE7 (R6; log entry 12). -/
def runMarkerWord : Option (Fin 7) → Nat
  | none => 0
  | some k => k.val + 1

def runMarkerOfWord (w : Nat) : Option (Fin 7) := if w = 0 then none else asFin 7 (w - 1)

def sourceCode : MarkerSource → Nat
  | .request => 0 | .program => 1

def levelCode : Level → Nat
  | .schedule => 0 | .operator => 1 | .limit => 2 | .brk => 3 | .trip => 4

def covStateCode : CovState → Nat
  | .invalid => 0 | .valid => 1 | .active => 2

def profStateCode : ProfState → Nat
  | .invalid => 0 | .valid => 1 | .inUse => 2

def trimCode : Trim → Nat
  | .zero => 0 | .half => 1 | .one => 2 | .two => 3

def trimOfCode (c : Nat) : Trim :=
  if c = 0 then .zero else if c = 1 then .half else if c = 2 then .one else .two

def loopSourceCode : Source → Nat
  | .p => 0 | .q => 1 | .ramp => 2

/-- The order of Table 6-1's damper base source and of Table 5-1 is the same: P, Q, RAMP. -/
def sourceOfBank : Bank → Source
  | .p => .p | .q => .q

def leadCode : LeadWeb → Nat
  | .first => 0 | .second => 1

def leadOfCode (c : Nat) : LeadWeb := if c = 0 then .first else .second

def valueSourceCode : ValueSource → Nat
  | .computed => 0 | .stored => 1 | .park => 2 | .held => 3

def slotStateCode : SlotState → Nat
  | .empty => 0 | .loaded => 1 | .armed => 2 | .running => 3 | .pausing => 4 | .paused => 5 | .holding => 6

def rampModeCode : RampMode → Nat
  | .one => 0 | .two => 1 | .three => 2

def rampModeOfCode : Nat → Option RampMode
  | 0 => some .one | 1 => some .two | 2 => some .three | _ => none

def transferCode : Transfer → Nat
  | .step => 0 | .line => 1

def transferOfCode : Nat → Option Transfer
  | 0 => some .step | 1 => some .line | _ => none

def tickCode : Tick → Nat
  | .ms10 => 0 | .ms100 => 1 | .s1 => 2 | .s10 => 3

def tickOfCode : Nat → Option Tick
  | 0 => some .ms10 | 1 => some .ms100 | 2 => some .s1 | 3 => some .s10 | _ => none

/-- A base tick in ms (Table 9-2). -/
def tickMs : Tick → Nat
  | .ms10 => 10 | .ms100 => 100 | .s1 => 1000 | .s10 => 10000

def endCode : EndAction → Nat
  | .release => 0 | .hold => 1 | .repeatPass => 2

def endOfCode : Nat → Option EndAction
  | 0 => some .release | 1 => some .hold | 2 => some .repeatPass | _ => none

/-- Trigger kinds: CONSOLE 0, MODE 1, MARKER 2, CHAIN 3 (Table 9-2). -/
def signalKind : TriggerSignal → Fin 4
  | .mode _ _ => 1 | .marker _ _ _ => 2 | .chain _ => 3

/-- Code of a ramp target (R174), also its place in the ownership table. -/
def targetIx : RampTarget → Fin 24
  | .zoneSp h z => ⟨4 * h.val + z.val, by omega⟩
  | .fan h z => ⟨8 + 4 * h.val + z.val, by omega⟩
  | .chillTarget w => ⟨16 + w.val, by omega⟩
  | .dampBase w => ⟨20 + w.val, by omega⟩

/-- The ramp target of a code 0..23 (R174). -/
def targetOfCode (c : Nat) : Option RampTarget :=
  if c < 8 then some (.zoneSp (Fin.ofNat 2 (c / 4)) (Fin.ofNat 4 (c % 4)))
  else if c < 16 then some (.fan (Fin.ofNat 2 ((c - 8) / 4)) (Fin.ofNat 4 (c % 4)))
  else if c < 20 then some (.chillTarget (Fin.ofNat 4 (c - 16)))
  else if c < 24 then some (.dampBase (Fin.ofNat 4 (c - 20))) else none

/-- Highest value of a ramp target's range; every range starts at 0 (Table 9-1). -/
def targetMax : RampTarget → Nat
  | .zoneSp _ _ => 4800
  | .fan _ _ => 10000
  | .chillTarget _ => 1600
  | .dampBase _ => 10000

/-! ## Sets held as masks -/

def causeIx : TripCause → Nat
  | .lelHigh => 0 | .zone z => 1 + z.val | .exhHigh => 5 | .lelStale => 6

/-- The trip cause set of one cause. -/
def causeBit (c : TripCause) : BitVec 7 := BitVec.ofNat 7 (2 ^ causeIx c)

/-- The trip causes in the order of R119. -/
def allCauses : List TripCause := [.lelHigh, .zone 0, .zone 1, .zone 2, .zone 3, .exhHigh, .lelStale]

/-- The members of a cause set. -/
def causesOf (s : BitVec 7) : List TripCause := allCauses.filter fun c => s &&& causeBit c != 0

/-- The break cause set {STALE} (R33). -/
def staleCause : BitVec 5 := 16

/-- A party's bit in its entry's holder set; a web's is that of its number: DESIGN CHOICE (log entry 13). -/
def partyBit : Party → BitVec 8
  | .operator => 1
  | .lel => 1
  | .web w => BitVec.ofNat 8 (2 ^ w.val)
  | .cause c => BitVec.ofNat 8 (2 ^ causeIx c)

/-- The level a party claims at (Table 8-3). -/
def partyLevel : Party → Level
  | .operator => .operator
  | .lel => .limit
  | .web _ => .brk
  | .cause _ => .trip

/-- The place of a party's entry in the stack: OPERATOR 0, LIMIT 1, BREAK 2, TRIP 3. -/
def partyIx : Party → Fin 4
  | .operator => 0
  | .lel => 1
  | .web _ => 2
  | .cause _ => 3

/-! ## Notices -/

/-- Kind, numbered in the order of Table 10-1 (Table 11-6). -/
def noticeKind : Notice → Fin 18
  | .modeChange _ _ _ => 0
  | .brk _ _ => 1
  | .trackGap _ _ => 2
  | .markerPassed _ _ _ _ => 3
  | .markerDropped _ _ _ => 4
  | .inputStale _ _ => 5
  | .inputRestored _ _ => 6
  | .profileSwitched _ _ _ => 7
  | .bankFree _ _ _ => 8
  | .limitOn _ _ => 9
  | .limitOff _ _ => 10
  | .trip _ _ _ => 11
  | .tripCleared _ _ => 12
  | .programDone _ _ _ => 13
  | .programBlocked _ _ _ _ => 14
  | .outOfWindow _ _ _ => 15
  | .windowRestored _ _ _ => 16
  | .ringRestored _ => 17

def indicatorNumber : Indicator → Nat
  | .zone h z => 8 * h.val + z.val
  | .damper w => 8 * (housingOf w).val + 4 + 2 * (webPlace w).val
  | .chill w => 8 * (housingOf w).val + 5 + 2 * (webPlace w).val

def windowNumber : Window → Nat
  | .dry w => 4 * w.val
  | .chillExit w => 4 * w.val + 1
  | .waterReturn w .a => 4 * w.val + 2
  | .waterReturn w .b => 4 * w.val + 3

/-- Subject class: 0 web, 1 housing, 2 input channel, 3 indicator, 4 window, 5 program slot, 6 ring (Table 11-6). -/
def subjectClass (n : Notice) : Nat :=
  if (noticeKind n).val < 5 then 0
  else if (noticeKind n).val < 7 then 2
  else if (noticeKind n).val = 7 then 3
  else if (noticeKind n).val < 13 then 1
  else if (noticeKind n).val < 15 then 5
  else if (noticeKind n).val < 17 then 4 else 6

/-- Subject number within its class (R174). -/
def subjectNumber : Notice → Nat
  | .modeChange w _ _ => w.val
  | .brk w _ => w.val
  | .trackGap w _ => w.val
  | .markerPassed w _ _ _ => w.val
  | .markerDropped w _ _ => w.val
  | .inputStale ch _ => ch.val
  | .inputRestored ch _ => ch.val
  | .profileSwitched i _ _ => indicatorNumber i
  | .bankFree h _ _ => h.val
  | .limitOn h _ => h.val
  | .limitOff h _ => h.val
  | .trip h _ _ => h.val
  | .tripCleared h _ => h.val
  | .programDone slot _ _ => slot.val
  | .programBlocked slot _ _ _ => slot.val
  | .outOfWindow win _ _ => windowNumber win
  | .windowRestored win _ _ => windowNumber win
  | .ringRestored _ => 0

def byteOf (n : Nat) : Byte := BitVec.ofNat 8 n

/-- The detail bytes of a notice (Table 11-9). -/
def noticeDetail : Notice → List Byte
  | .modeChange _ o n => [byteOf (modeCode o), byteOf (modeCode n)]
  | .brk _ s => [byteOf s.toNat]
  | .trackGap _ d => wordBytes (toWord d)
  | .markerPassed _ k st seq => [byteOf (markerCode k), byteOf st.val] ++ wordBytes seq.toNat
  | .markerDropped _ k src => [byteOf (markerCode k), byteOf (sourceCode src)]
  | .inputStale _ m => [m]
  | .inputRestored _ m => [m]
  | .profileSwitched _ b (.marker seq) => [byteOf (bankCode b), 0] ++ wordBytes seq.toNat
  | .profileSwitched _ b .discard => [byteOf (bankCode b), 1, 0, 0]
  | .bankFree _ b .switch => [byteOf (bankCode b), 0]
  | .bankFree _ b .dark => [byteOf (bankCode b), 1]
  | .limitOn _ v => wordBytes v
  | .limitOff _ v => wordBytes v
  | .trip _ s none => [byteOf s.toNat, 0, 0, 0]
  | .trip _ s (some r) => [byteOf s.toNat, 1] ++ wordBytes (toWord r)
  | .tripCleared _ s => [byteOf s.toNat]
  | .programDone _ e p => [byteOf (endCode e)] ++ wordBytes p
  | .programBlocked _ t o k => [byteOf (targetIx t).val, byteOf o.val, byteOf k.val]
  | .outOfWindow _ v b => wordBytes (toWord v) ++ wordBytes (toWord b)
  | .windowRestored _ v b => wordBytes (toWord v) ++ wordBytes (toWord b)
  | .ringRestored t => longBytes t

/-- Whether two notices share kind and subject (R171). -/
def sameReport (a b : Notice) : Bool :=
  decide (noticeKind a = noticeKind b ∧ subjectNumber a = subjectNumber b)

/-! ## Replies -/

/-- Reply statuses (Table 11-5). -/
inductive Status where
  | done | busy | range | state | check | unknown | deferred
  deriving DecidableEq, Repr

def statusCode : Status → Nat
  | .done => 0 | .busy => 1 | .range => 2 | .state => 3 | .check => 4 | .unknown => 5 | .deferred => 6

/-- The Decoder's answer to a request: status, CLAMPED flag, data, and the part's state after it. -/
structure Answer where
  status : Status
  clamped : Bool
  data : List Byte
  state : State

/-- A refusal: it changes nothing. -/
def refuse (st : Status) (s : State) : Answer := ⟨st, false, [], s⟩

/-- A refusal that its owner's rule qualifies with data (R182). -/
def refuseWith (st : Status) (data : List Byte) (s : State) : Answer := ⟨st, false, data, s⟩

/-- DONE with the state it leaves. -/
def done (s : State) : Answer := ⟨.done, false, [], s⟩

end Sys2Proof.Machine
end

