-- ==== Sys2Proof/Machine/Ops.lean ====
section
/-! DEFINITION. The operations every family shares: sending signals, what one block reads of another (modes,
dark and lit housings, governing web, demand speed, input records, ramp values), ramp memory, the ring frame
with its check and the slot boundary, and the two shapes of a meaning, an event and an answered request. -/

namespace Sys2Proof.Machine

/-! ## Signals -/

/-- The state with `cs` sent: appended to the signals not yet taken, in the order sent. -/
def State.send (s : State) (cs : List Instr) : State := { s with signals := s.signals ++ cs }

/-- The trigger signals of `sig` to the eight slots (R161): each slot judges its own. -/
def triggerAll (sig : TriggerSignal) : List Instr := (List.finRange 8).map fun j => Instr.trigger j sig

/-- Raising a notice: an event of the Emission Arbiter (R171). -/
def raise (n : Notice) : List Instr := [.noticeRaised n]

/-! ## Modes and housings -/

def State.mode (s : State) (w : Fin 4) : Mode := (s.webs.get w).mode

/-- Whether a mode is one of the three motion modes. -/
def inMotion : Mode → Bool
  | .standby => true | .crawl => true | .run => true | _ => false

/-- Whether a mode is CRAWL or RUN. -/
def moving : Mode → Bool
  | .crawl => true | .run => true | _ => false

/-- A housing whose two webs are both IDLE is dark. -/
def State.dark (s : State) (h : Fin 2) : Bool :=
  decide (s.mode (firstWeb h) = .idle) && decide (s.mode (secondWeb h) = .idle)

def State.lit (s : State) (h : Fin 2) : Bool := !s.dark h

/-- Housing parameters as they stand. -/
def State.housing (s : State) (h : Fin 2) : HousingParams := (s.monitors.get h).params

def State.params (s : State) (w : Fin 4) : WebParams := (s.webs.get w).params

/-- The lead web of a housing (Table 7-1). -/
def State.leadWeb (s : State) (h : Fin 2) : Fin 4 :=
  match (s.housing h).lead with
  | .first => firstWeb h
  | .second => secondWeb h

/-- Whether `w` is the lead web of its housing. -/
def State.isLead (s : State) (w : Fin 4) : Bool := decide (s.leadWeb (housingOf w) = w)

/-- The governing web (R42). -/
def State.governing (s : State) (h : Fin 2) : Option (Fin 4) :=
  if s.mode (s.leadWeb h) ≠ .idle then some (s.leadWeb h)
  else if s.mode (otherWeb (s.leadWeb h)) ≠ .idle then some (otherWeb (s.leadWeb h)) else none

/-- The demand speed of web `w` (R41, Table 2-3). -/
def State.demandSpeed (s : State) (w : Fin 4) : Nat :=
  let c := s.webs.get w
  let reach := (s.housing (housingOf w)).tLead
  if inMotion c.mode then
    match c.plan with
    | none => c.v
    | some p =>
      if c.v < p.target then min p.target (c.v + p.rate * reach)
      else max p.target (c.v - p.rate * reach)
  else 0

/-- A web's trim authority for a mode: its parameter for STANDBY, CRAWL or RUN, and 0 in BREAK (R42). -/
def trimFor (p : WebParams) : Mode → Trim
  | .standby => p.trimStandby
  | .crawl => p.trimCrawl
  | .run => p.trimRun
  | _ => .zero

/-- Trim authority scaling (Table 5-3). -/
def scaleTrim (f : Trim) (trim : Int) : Int :=
  match f with
  | .zero => 0
  | .half => shiftRight trim 1
  | .one => trim
  | .two => clampInt (2 * trim) (-10000) 10000

/-! ## Input records -/

def State.record (s : State) (ch : Fin 32) : InputRecord := (s.inputs.get ch).record

/-! ## Profile banks as read by other blocks (Table 4-4) -/

def ProfileHousing.bank (p : ProfileHousing) : Bank → ProfileBank
  | .p => p.bankP
  | .q => p.bankQ

/-- The fields an indicator selects. An indicator that refers to no bank selects none; its housing is then dark
and nothing reads it (R66), and the blank fields stand for that case. -/
def State.profile (s : State) (h : Fin 2) (b : Option Bank) : Profile :=
  match b with
  | some b => ((s.profiles.get h).bank b).fields
  | none => Profile.reset

/-- Where a profile value came from. -/
def sourceOf (b : Option Bank) : Source :=
  match b with
  | some b => sourceOfBank b
  | none => .p

/-! ## Ramp values as read by other blocks (R149) -/

/-- The ramp value a table gives the reader of a target: that of a target with an owner and a ramp value (R149). -/
def ownedValue (o : Tab Ownership 24) (t : RampTarget) : Option Nat :=
  let e := o.get (targetIx t)
  if e.owner.isSome then e.value else none

/-- The ramp value of a target, read at the reader's own event (R149). -/
def State.rampValue (s : State) (t : RampTarget) : Option Nat := ownedValue s.ramp.owners t

/-- The part as a ramp signal tells it to the reader of target `t`: with `v` for its ramp value (R95, R157). A signal
carries the value that stood after the write or release it tells, so that the last values of a pass reach their readers
although RELEASE has freed the targets by then: DEDUCED (log entry 27). -/
def State.told (s : State) (t : RampTarget) (v : Option Nat) : State :=
  { s with ramp := { s.ramp with owners := s.ramp.owners.set (targetIx t) ⟨some 0, v⟩ } }

/-! ## Ramp memory (R148) -/

/-- The word at address `a`; a word not listed holds 0. -/
def RampMemory.read (m : RampMemory) (a : Nat) : BitVec 16 :=
  match m with
  | [] => 0
  | (b, x) :: rest => if a = b then x else RampMemory.read rest a

/-- The memory with word `a` replaced by `v`, in canonical form. -/
def RampMemory.write (m : RampMemory) (a : Nat) (v : BitVec 16) : RampMemory :=
  match m with
  | [] => if v = 0 then [] else [(a, v)]
  | (b, x) :: rest =>
    if a < b then (if v = 0 then (b, x) :: rest else (a, v) :: (b, x) :: rest)
    else if a = b then (if v = 0 then rest else (a, v) :: rest)
    else (b, x) :: RampMemory.write rest a v

/-- The words from address `a` on replaced by `vs`. -/
def RampMemory.writeAll (m : RampMemory) (a : Nat) (vs : List (BitVec 16)) : RampMemory :=
  match vs with
  | [] => m
  | v :: rest => RampMemory.writeAll (RampMemory.write m a v) (a + 1) rest

/-- Every listed address is above `lo`, addresses rise strictly, stay below 1024, and no listed word is 0. -/
def RampMemory.wfAbove (m : RampMemory) (lo : Nat) : Bool :=
  match m with
  | [] => true
  | (b, x) :: rest =>
    decide (lo ≤ b) && decide (b < Config.rampWords) && decide (x ≠ 0) && RampMemory.wfAbove rest (b + 1)

/-- The canonical form of ramp memory. -/
def RampMemory.wf (m : RampMemory) : Bool := RampMemory.wfAbove m 0

/-! ## Ring frames (R174, R175) -/

/-- One bit into the check register; generator 04C11DB7. -/
def crcBit (r : BitVec 32) (b : Bool) : BitVec 32 :=
  if r.msb != b then (r <<< 1) ^^^ 0x04C11DB7#32 else r <<< 1

/-- One byte into the check register, least significant bit first. -/
def crcByte (r : BitVec 32) (b : Byte) : BitVec 32 :=
  (List.range 8).foldl (fun r i => crcBit r (b.getLsbD i)) r

/-- The check of a list of bytes: register from all ones, the final register bit-reversed and complemented. -/
def crc (bs : List Byte) : BitVec 32 := ~~~ (bs.foldl crcByte (BitVec.allOnes 32)).reverse

/-- A slot as its 32 bytes with a fresh check: `bs` is padded with 0 to 28 bytes. -/
def frame (bs : List Byte) : Slot :=
  let body := (List.range 28).map fun i => bs.getD i 0
  slotOfBytes (body ++ longBytes (crc body))

def slotByte (slot : Slot) (i : Nat) : Nat := byteAt slot.items i

/-- A slot the Ring Port acts on: its check is good, its payload length is at most 24 and its kind at most 5
(R175). -/
def goodSlot (slot : Slot) : Bool :=
  decide (longAt slot.items 28 = (crc (slot.items.take 28)).toNat) && decide (slotByte slot 3 ≤ 24) &&
    decide (slotByte slot 0 ≤ 5)

/-- The payload bytes of a slot, up to its payload length. -/
def payload (slot : Slot) : List Byte := (slot.items.drop 4).take (slotByte slot 3)

/-- The part is in service: its reset pin is released and its node address is 1..254 (R179). -/
def RingPort.inService (r : RingPort) : Bool :=
  !r.resetHeld && decide (r.node ≠ 0) && decide (r.node ≠ 255)

/-- A slot boundary (R178): the timer restarts; a good slot taken in DOWN makes the ring UP and raises
RING_RESTORED. -/
def State.boundary (s : State) (good : Bool) : State :=
  let up := good && decide (s.ring.ring = .down)
  { s with
    ring := { s.ring with
      boundary := some (after s.now Config.ringTimeout)
      ring := if up then .up else s.ring.ring }
    signals := s.signals ++ (if up then raise (.ringRestored s.ring.downAt) else []) }

/-- The slot put out at RING OUT. -/
def State.putOut (s : State) (slot : Slot) : State := { s with ring := { s.ring with ringOut := slot } }

/-- A REPLY frame of the part (R180, Table 11-5). -/
def replyFrame (s : State) (rq : Request) (code : Nat) (a : Answer) : Slot :=
  frame ([4, s.ring.node, rq.tag, byteOf (3 + a.data.length), byteOf code, byteOf (statusCode a.status),
    byteOf (boolWord a.clamped)] ++ a.data)

/-! ## The two shapes of a meaning -/

/-- An event of a block: a part whose reset pin is held does not act (R179). -/
def event (f : State → State) (s : State) : Host.Outcome State Fault Refusal :=
  .next (if s.ring.resetHeld then s else f s)

/-- A request with code `code` that the part answers (R180): one good slot boundary, the owner's judgement on the
state as it stands, and the REPLY put out. Out of service nothing is answered. -/
def request (code : Nat) (rq : Request) (owner : List Byte → State → Answer) (s : State) :
    Host.Outcome State Fault Refusal :=
  .next (if s.ring.inService then
      let a := owner rq.args (s.boundary true)
      a.state.putOut (replyFrame a.state rq code a)
    else s)

/-- A request whose first argument byte names one of `n` things; a missing or out-of-range argument answers
RANGE (R180 step 2). -/
def indexed (n : Nat) (f : Fin n → List Byte → State → Answer) (args : List Byte) (s : State) : Answer :=
  match args with
  | [] => refuse .range s
  | b :: rest =>
    match asFin n b.toNat with
    | none => refuse .range s
    | some i => f i rest s

end Sys2Proof.Machine
end

