-- ==== Sys2Proof/Machine/Spans.lean ====
section
/-! DEFINITION. The span of a WRITE (R181): its checks, the words it carries, and which fields it covers. -/

namespace Sys2Proof.Machine

/-- The words a WRITE carries: the first word of its span and the values. -/
structure Span where
  start : Nat
  vals : List Nat
  deriving DecidableEq, Repr

/-- A span read from the bytes after the index: offset (two bytes), count, data; `words` is the length of the
object's image. A span too short, of a count outside 1..16 or passing the end of the image is refused with RANGE
(R180 step 2, R181); one that begins or ends inside a word with CHECK. -/
def readSpan (words : Nat) (bs : List Byte) : Except Status Span :=
  let off := wordAt bs 0
  let count := byteAt bs 2
  if bs.length < 3 ∨ count = 0 ∨ 16 < count ∨ bs.length < 3 + count ∨ 2 * words < off + count then .error .range
  else if off % 2 = 1 ∨ count % 2 = 1 then .error .check
  else .ok ⟨off / 2, wordsOfBytes ((bs.drop 3).take count)⟩

/-- Whether the span covers word `i`. -/
def Span.covers (sp : Span) (i : Nat) : Bool := decide (sp.start ≤ i) && decide (i < sp.start + sp.vals.length)

/-- Whether the span covers some word from `i` on of `k` words. -/
def Span.touches (sp : Span) (i k : Nat) : Bool :=
  decide (sp.start < i + k) && decide (i < sp.start + sp.vals.length)

/-- Whether the span covers all of the `k` words from `i` on. -/
def Span.holds (sp : Span) (i k : Nat) : Bool :=
  decide (sp.start ≤ i) && decide (i + k ≤ sp.start + sp.vals.length)

/-- The value the span carries for word `i`. -/
def Span.val (sp : Span) (i : Nat) : Nat := sp.vals.getD (i - sp.start) 0

/-- Whether every carried word lies in the range its field allows. -/
def carriedOk (ok : Nat → Nat → Bool) : Nat → List Nat → Bool
  | _, [] => true
  | i, v :: rest => ok i v && carriedOk ok (i + 1) rest

/-- Whether every word the span carries is in range. -/
def Span.inRange (sp : Span) (ok : Nat → Nat → Bool) : Bool := carriedOk ok sp.start sp.vals

/-- The object's image with the carried words in place. -/
def Span.apply (sp : Span) (image : List Nat) : List Nat := splice image sp.start sp.vals

/-- A WRITE to one of `n` objects whose image has `words` words: Decoder's checks, then the owner's. -/
def writeObject (n words : Nat) (owner : Fin n → Span → State → Answer) (args : List Byte) (s : State) : Answer :=
  indexed n (fun i rest s =>
    match readSpan words rest with
    | .error st => refuse st s
    | .ok sp => owner i sp s) args s

/-- Whether a number lies in a range. -/
def within (a b v : Nat) : Bool := decide (a ≤ v) && decide (v ≤ b)

end Sys2Proof.Machine
end

