-- ==== Sys2Proof/Machine/Profiles.lean ====
section
/-! DEFINITION. The Profile Store (chapter 4): profile banks and their validation, the bank indicators, lighting
and darkening a housing, the switches of a job change, and set-point interpolation. -/

namespace Sys2Proof.Machine

/-! ## Banks and indicators (R62, R66, R67) -/

/-- The eight indicators of a housing. -/
def ProfileHousing.indicators (p : ProfileHousing) : List (Option Bank) :=
  p.zones.items ++ p.dampers.items ++ p.chills.items

/-- Whether some indicator refers to bank `b`. -/
def ProfileHousing.refersTo (p : ProfileHousing) (b : Bank) : Bool :=
  p.indicators.any fun i => decide (i = some b)

/-- Whether some indicator refers to a bank. -/
def ProfileHousing.inUse (p : ProfileHousing) : Bool := p.indicators.any Option.isSome

/-- A bank's state after its indicators moved: IN_USE while one refers to it, VALID when the last has left (R62). -/
def settleBank (p : ProfileHousing) (b : Bank) : ProfileBank :=
  if p.refersTo b then { p.bank b with state := .inUse }
  else if (p.bank b).state = .inUse then { p.bank b with state := .valid } else p.bank b

/-- The housing with both banks' states settled on its indicators. -/
def ProfileHousing.settled (p : ProfileHousing) : ProfileHousing :=
  { p with bankP := settleBank p .p, bankQ := settleBank p .q }

def ProfileHousing.setBank (p : ProfileHousing) (b : Bank) (x : ProfileBank) : ProfileHousing :=
  match b with
  | .p => { p with bankP := x }
  | .q => { p with bankQ := x }

/-- All eight indicators made to refer to `i`. -/
def ProfileHousing.pointAll (p : ProfileHousing) (i : Option Bank) : ProfileHousing :=
  { p with zones := Tab.replicate 4 i, dampers := Tab.replicate 2 i, chills := Tab.replicate 2 i }

/-- BANK_FREE of a bank that is IN_USE (R69, R72). -/
def freeNotice (h : Fin 2) (p : ProfileHousing) (b : Bank) (cause : FreeCause) : List Instr :=
  if (p.bank b).state = .inUse then raise (.bankFree h b cause) else []

/-- Steps 1 to 3 of R69: indicators released, switch record emptied. -/
def ProfileHousing.released (p : ProfileHousing) : ProfileHousing := ({ p with switch := none }.pointAll none).settled

/-- The notices of steps 1 to 3 of R69. Both banks freed at once, P's is raised first: DESIGN CHOICE (log entry 24). -/
def darkNotices (h : Fin 2) (p : ProfileHousing) : List Instr := freeNotice h p .p .dark ++ freeNotice h p .q .dark

/-- The housing with a question of R68 answered: the bank pointed at, or none when no bank is VALID. A housing-dark
signal not yet taken is done first. -/
def lightHousing (p : ProfileHousing) : Option ProfileHousing :=
  let p' := if p.inUse then p.released else p
  if p'.bankP.state = .valid then some (p'.pointAll (some .p)).settled
  else if p'.bankQ.state = .valid then some (p'.pointAll (some .q)).settled else none

/-- The notices of a lighting: those of the darkening done first (R68). -/
def lightNotices (h : Fin 2) (p : ProfileHousing) : List Instr := if p.inUse then darkNotices h p else []

/-- The state with housing `h`'s profile record replaced and signals sent. -/
def State.putProfiles (s : State) (h : Fin 2) (p : ProfileHousing) (cs : List Instr) : State :=
  { s with profiles := s.profiles.set h p, signals := s.signals ++ cs }

/-- HOUSING_DARK_SIGNAL (R69). -/
def execHousingDarkSignal (h : Fin 2) (s : State) : Host.Outcome State Fault Refusal :=
  event (fun s =>
    let p := s.profiles.get h
    if s.dark h && p.inUse then s.putProfiles h p.released (darkNotices h p) else s) s

/-! ## Job change (R71 to R73) -/

/-- Whether the switch record is filled with `inc` as its incoming bank. -/
def ProfileHousing.switching (p : ProfileHousing) (inc : Bank) : Bool := decide (p.switch = some inc)

/-- One indicator switched: from the outgoing bank to the incoming one; any other value stays (R71). -/
def switchOne (inc : Bank) (i : Option Bank) : Option Bank := if i = some (otherBank inc) then some inc else i

/-- PROFILE_SWITCHED of an indicator that moves. -/
def switchNotice (inc : Bank) (cause : SwitchCause) (ind : Indicator) (i : Option Bank) : List Instr :=
  if i = some (otherBank inc) then raise (.profileSwitched ind inc cause) else []

/-- A table of indicators switched. -/
def switchTab {n : Nat} (inc : Bank) (t : Tab (Option Bank) n) : Tab (Option Bank) n :=
  Tab.ofFn fun i => switchOne inc (t.get i)

/-- The outgoing bank freed when no indicator refers to it any longer (R72, steps 1 to 3). -/
def freeOutgoing (h : Fin 2) (inc : Bank) (p : ProfileHousing) : ProfileHousing × List Instr :=
  if p.refersTo (otherBank inc) then (p.settled, [])
  else ({ p with switch := none }.settled, freeNotice h p (otherBank inc) .switch)

/-- Zone `z`'s indicator switched (R71). -/
def switchZone (z : Fin 4) (inc : Bank) (p : ProfileHousing) : ProfileHousing :=
  { p with zones := p.zones.set z (switchOne inc (p.zones.get z)) }.settled

/-- ZONE_SWITCH_SIGNAL (R71). -/
def execZoneSwitchSignal (h : Fin 2) (z : Fin 4) (incoming : Bank) (seq : BitVec 16) (s : State) :
    Host.Outcome State Fault Refusal :=
  event (fun s =>
    let p := s.profiles.get h
    if p.switching incoming then
      s.putProfiles h (switchZone z incoming p)
        (switchNotice incoming (.marker seq) (.zone h z) (p.zones.get z))
    else s) s

/-- DAMPER_SWITCH_SIGNAL (R72); the first web's notice goes before the second's: DESIGN CHOICE (log entry 33). -/
def execDamperSwitchSignal (h : Fin 2) (incoming : Bank) (seq : BitVec 16) (s : State) :
    Host.Outcome State Fault Refusal :=
  event (fun s =>
    let p := s.profiles.get h
    if p.switching incoming then
      let r := freeOutgoing h incoming { p with dampers := switchTab incoming p.dampers }
      s.putProfiles h r.1
        (switchNotice incoming (.marker seq) (.damper (firstWeb h)) (p.dampers.get 0) ++
          switchNotice incoming (.marker seq) (.damper (secondWeb h)) (p.dampers.get 1) ++ r.2)
    else s) s

/-- CHILL_SWITCH_SIGNAL (R72); the first web's notice goes before the second's: DESIGN CHOICE (log entry 33). -/
def execChillSwitchSignal (h : Fin 2) (incoming : Bank) (seq : BitVec 16) (s : State) :
    Host.Outcome State Fault Refusal :=
  event (fun s =>
    let p := s.profiles.get h
    if p.switching incoming then
      let r := freeOutgoing h incoming { p with chills := switchTab incoming p.chills }
      s.putProfiles h r.1
        (switchNotice incoming (.marker seq) (.chill (firstWeb h)) (p.chills.get 0) ++
          switchNotice incoming (.marker seq) (.chill (secondWeb h)) (p.chills.get 1) ++ r.2)
    else s) s

/-- Every indicator that refers to the outgoing bank moved to the incoming one (R73). -/
def switchAll (inc : Bank) (p : ProfileHousing) : ProfileHousing :=
  { p with zones := switchTab inc p.zones, dampers := switchTab inc p.dampers, chills := switchTab inc p.chills }

/-- The PROFILE_SWITCHED notices of a completion (R73), zones first, then dampers, then chills: DESIGN CHOICE (log entry
33). -/
def completionNotices (h : Fin 2) (inc : Bank) (p : ProfileHousing) : List Instr :=
  (List.finRange 4).flatMap (fun z => switchNotice inc .discard (.zone h z) (p.zones.get z)) ++
    switchNotice inc .discard (.damper (firstWeb h)) (p.dampers.get 0) ++
    switchNotice inc .discard (.damper (secondWeb h)) (p.dampers.get 1) ++
    switchNotice inc .discard (.chill (firstWeb h)) (p.chills.get 0) ++
    switchNotice inc .discard (.chill (secondWeb h)) (p.chills.get 1)

/-- COMPLETION_SIGNAL (R73). -/
def execCompletionSignal (h : Fin 2) (incoming : Bank) (s : State) : Host.Outcome State Fault Refusal :=
  event (fun s =>
    let p := s.profiles.get h
    if p.switching incoming then
      let r := freeOutgoing h incoming (switchAll incoming p)
      s.putProfiles h r.1 (completionNotices h incoming p ++ r.2)
    else s) s

/-! ## WRITE and VALIDATE of a profile bank (R61, R63, R64) -/

/-- The field image of a profile bank (Table 4-1, R181). -/
def Profile.words (p : Profile) : List Nat :=
  [p.n] ++ p.speeds.items ++ [p.m] ++ p.loads.items ++ p.grid.items ++ p.share.items ++ p.kEvap.items ++
    p.bWeb.items ++ p.fanRun.items ++ p.fanStandby.items ++
    [p.dryTarget, p.dryWindow, p.chillTarget, p.chillWindow, p.shareA, p.kc, p.dampBase, p.dampMin, p.dampMax,
      p.dampDeadband, p.dampShift]

def Profile.ofWords (ws : List Nat) : Profile :=
  let part (n start : Nat) : Tab Nat n := Tab.ofFn fun i => ws.getD (start + i.val) 0
  { n := ws.getD 0 0, speeds := part 8 1, m := ws.getD 9 0, loads := part 6 10, grid := part 192 16,
    share := part 4 208, kEvap := part 4 212, bWeb := part 4 216, fanRun := part 4 220,
    fanStandby := part 4 224, dryTarget := ws.getD 228 0, dryWindow := ws.getD 229 0,
    chillTarget := ws.getD 230 0, chillWindow := ws.getD 231 0, shareA := ws.getD 232 0, kc := ws.getD 233 0,
    dampBase := ws.getD 234 0, dampMin := ws.getD 235 0, dampMax := ws.getD 236 0,
    dampDeadband := ws.getD 237 0, dampShift := ws.getD 238 0 }

/-- Ranges of Table 4-1, by word. -/
def profileWordOk (i v : Nat) : Bool :=
  if i = 0 then within 2 8 v
  else if i < 9 then within 0 20000 v
  else if i = 9 then within 2 6 v
  else if i < 16 then within 0 4000 v
  else if i < 208 then within 0 4800 v
  else if i < 212 then within 0 256 v
  else if i < 220 then within 0 2000 v
  else if i < 228 then within 0 10000 v
  else if i < 230 then within 0 4800 v
  else if i < 232 then within 0 1600 v
  else if i = 232 then within 0 256 v
  else if i = 233 then within 0 65535 v
  else if i < 237 then within 0 10000 v
  else if i = 237 then within 0 800 v
  else within 0 31 v

/-- The housing and the bank of a PROFILE index 2h + bank (Table 11-7). -/
def profileHousingOf (i : Fin 4) : Fin 2 := ⟨i.val / 2, by omega⟩
def profileBankOf (i : Fin 4) : Bank := if i.val % 2 = 0 then .p else .q

/-- The owner's judgement of a PROFILE write (R63). -/
def writeProfile (i : Fin 4) (sp : Span) (s : State) : Answer :=
  let h := profileHousingOf i
  let p := s.profiles.get h
  let b := p.bank (profileBankOf i)
  if b.state = .inUse then refuse .busy s
  else if p.switching (profileBankOf i) then refuse .busy s
  else if !sp.inRange profileWordOk then refuse .range s
  else done (s.putProfiles h
    (p.setBank (profileBankOf i) ⟨Profile.ofWords (sp.apply b.fields.words), .invalid⟩) [])

/-- WRITE_PROFILE (R63). -/
def execWriteProfile (rq : Request) (s : State) : Host.Outcome State Fault Refusal :=
  request 2 rq (writeObject 4 239 writeProfile) s

/-- Whether a list rises strictly. -/
def rising : List Nat → Bool
  | a :: b :: rest => decide (a < b) && rising (b :: rest)
  | _ => true

/-- Number of the first condition of Table 4-3 that a bank fails. -/
def profileFailure (p : Profile) : Option Nat :=
  if !within 2 8 p.n then some 1
  else if !within 2 6 p.m then some 2
  else if !(decide (p.speeds.get 0 = 0) && rising (p.speeds.items.take p.n)) then some 3
  else if !(decide (p.loads.get 0 = 0) && rising (p.loads.items.take p.m)) then some 4
  else if 256 < p.share.items.sum then some 5
  else if !(decide (p.dampMin ≤ p.dampBase) && decide (p.dampBase ≤ p.dampMax)) then some 6 else none

/-- VALIDATE of a profile bank (R64). -/
def validateProfile (i : Fin 4) (_ : List Byte) (s : State) : Answer :=
  let h := profileHousingOf i
  let p := s.profiles.get h
  let b := p.bank (profileBankOf i)
  if b.state ≠ .invalid then done s
  else
    match profileFailure b.fields with
    | some n => refuseWith .check [byteOf n] s
    | none => done (s.putProfiles h (p.setBank (profileBankOf i) { b with state := .valid }) [])

/-- VALIDATE_PROFILE (R64). -/
def execValidateProfile (rq : Request) (s : State) : Host.Outcome State Fault Refusal :=
  request 3 rq (indexed 4 validateProfile) s

/-! ## Set-point interpolation (R75, R76) -/

/-- Row and fraction of `x` on breakpoints, counting rows from `i`: the fraction is 256 at and above the top
breakpoint (R75). -/
def bracketFrom : List Nat → Nat → Nat → Nat × Nat
  | a :: b :: rest, i, x =>
    if x < b then (i, (x - a) * 256 / (b - a))
    else if rest = [] then (i, 256) else bracketFrom (b :: rest) (i + 1) x
  | _, i, _ => (i, 0)

/-- `a` moved toward `b` by the fraction `f` of 256, rounded down (R76). -/
def lerp (a b : Int) (f : Nat) : Int := a + (b - a) * f / 256

/-- The zone-z value of grid cell [i][j]. -/
def gridCell (p : Profile) (i j : Nat) (z : Fin 4) : Int := (p.grid.items.getD ((i * 6 + j) * 4 + z.val) 0 : Nat)

/-- The profile set point of zone `z` at speed `speed` and load `load` (R75, R76). -/
def interpolate (p : Profile) (z : Fin 4) (speed load : Nat) : Nat :=
  let r := bracketFrom (p.speeds.items.take p.n) 0 speed
  let c := bracketFrom (p.loads.items.take p.m) 0 load
  let a := lerp (gridCell p r.1 c.1 z) (gridCell p r.1 (c.1 + 1) z) c.2
  let b := lerp (gridCell p (r.1 + 1) c.1 z) (gridCell p (r.1 + 1) (c.1 + 1) z) c.2
  (lerp a b r.2).toNat

end Sys2Proof.Machine
end

