-- ==== Sys2Proof/Machine/Trim.lean ====
section
/-! DEFINITION. The proportional-integral law that zone loops (R90, R91) and circuit B loops (R110) share. -/

namespace Sys2Proof.Machine

/-- The accumulator clamped to the integrator limit, in 1/4096 output unit (R81, R91). -/
def boundAcc (limit : Nat) (acc : Int) : Int := clampInt acc (-(limit * 4096 : Nat)) (limit * 4096 : Nat)

/-- The integral term: the accumulator shifted right by 12. -/
def integralTerm (acc : Int) : Int := shiftRight acc 12

/-- The proportional term: the exact product shifted right by 4 (R90). -/
def proportional (kp : Nat) (e : Int) : Int := shiftRight (e * kp) 4

/-- One integration with its skip (R91, R110): `low` is the low end of the schedule's range, `prev` the schedule
recorded before. -/
def integrate (ki limit low prev : Nat) (e acc : Int) : Int :=
  if (prev = 10000 ∧ 0 < e) ∨ (prev = low ∧ e < 0) then acc else boundAcc limit (acc + e * ki)

/-- A schedule from feedforward and scaled trim, within `low`..10000 (R92, R109). -/
def schedule (low : Nat) (ff trim : Int) : Nat := (clampInt (ff + trim) low 10000).toNat

end Sys2Proof.Machine
end

