-- ==== Sys2Proof/Machine/Finishing.lean ====
section
/-! DEFINITION. Web Finishing (chapter 6): the damper bank, the exit windows and the return limit, the chill
feedforward with its circuit split, and the circuit B loop. -/

namespace Sys2Proof.Machine

/-! ## What Web Finishing reads -/

/-- The bank DAMPER(w) names, and its fields. -/
def State.damperBank (s : State) (w : Fin 4) : Option Bank := (s.profiles.get (housingOf w)).dampers.get (webPlace w)
def State.damperProfile (s : State) (w : Fin 4) : Profile := s.profile (housingOf w) (s.damperBank w)

/-- The bank CHILL(w) names, and its fields. -/
def State.chillBank (s : State) (w : Fin 4) : Option Bank := (s.profiles.get (housingOf w)).chills.get (webPlace w)
def State.chillProfile (s : State) (w : Fin 4) : Profile := s.profile (housingOf w) (s.chillBank w)

/-- The damper base and its source (R104). -/
def damperBase (s : State) (w : Fin 4) : Nat × Source :=
  match s.rampValue (.dampBase w) with
  | some v => (v, .ramp)
  | none => ((s.damperProfile w).dampBase, sourceOf (s.damperBank w))

/-- The chill target and its source (R108). -/
def chillTarget (s : State) (w : Fin 4) : Nat × Source :=
  match s.rampValue (.chillTarget w) with
  | some v => (v, .ramp)
  | none => ((s.chillProfile w).chillTarget, sourceOf (s.chillBank w))

/-! ## The damper bank (R102, R103) -/

/-- Alignment of the bank to the web's mode, with the base recorded (R102, R104). -/
def alignDampers (s : State) (w : Fin 4) (f : Finishing) : Finishing :=
  let base := damperBase s w
  let run := decide (s.mode w = .run)
  { f with
    dampers := if run && f.runSeen then f.dampers else Tab.replicate 8 base.1
    dampBase := base.1
    dampSource := base.2
    runSeen := run }

/-- The step of a lane that reads `x` against the mean (R103 steps 2 to 4). -/
def damperStep (p : Profile) (mean x : Int) : Int :=
  shiftLane (deadbandLane p.dampDeadband (saturate16 (x - mean))) p.dampShift

/-- Step 5 of R103 on the present lanes. -/
def steppedLanes (p : Profile) (mean : Int) (lanes : Tab (Option Int) 8) (d : Tab Nat 8) : Tab (Option Int) 8 :=
  Tab.ofFn fun i => (lanes.get i).map fun x => clampInt (d.get i - damperStep p mean x) p.dampMin p.dampMax

/-- Step 7 of R103 with the correction `c`; absent lanes keep their values. -/
def recentredLanes (p : Profile) (c : Int) (stepped : Tab (Option Int) 8) (d : Tab Nat 8) : Tab Nat 8 :=
  Tab.ofFn fun i =>
    match stepped.get i with
    | some x => (clampInt (x - c) p.dampMin p.dampMax).toNat
    | none => d.get i

/-- The update of the damper bank by a DEXIT record (R103); without a mean it is skipped (R57). -/
def updateDampers (s : State) (w : Fin 4) (f : Finishing) : Finishing :=
  let p := s.damperProfile w
  let r := s.record (dexitCh w)
  match r.mean with
  | none => f
  | some m =>
    let stepped := steppedLanes p m r.lanes f.dampers
    match meanOf (presentLanes stepped) with
    | none => f
    | some m' => { f with dampers := recentredLanes p (m' - f.dampBase) stepped f.dampers }

/-- DAMP(w) with its eight lanes to the Authority Arbiter. -/
def handDampers (w : Fin 4) (f : Finishing) : List Instr := [.scheduleValue (dampOut w) f.dampers.items]

/-! ## Windows (R105 to R107) -/

/-- The notice of a window that was OUT as `old` says and is OUT as `new` says. -/
def windowNotice (win : Window) (old new : Bool) (value bound : Int) : List Instr :=
  if new && !old then raise (.outOfWindow win value bound)
  else if old && !new then raise (.windowRestored win value bound) else []

/-- The dry window judged at a DEXIT arrival (R105). -/
def judgeDry (s : State) (w : Fin 4) (f : Finishing) : Finishing × List Instr :=
  let p := s.damperProfile w
  let r := s.record (dexitCh w)
  let bound : Int := p.dryTarget - p.dryWindow
  match r.mean, decide (s.mode w = .run) && r.fresh with
  | some m, true =>
    ({ f with dryOut := decide (m < bound) }, windowNotice (.dry w) f.dryOut (decide (m < bound)) m bound)
  | _, _ => (f, [])

/-- The chill window judged at a CEXIT arrival (R106). -/
def judgeChillExit (s : State) (w : Fin 4) (f : Finishing) : Finishing × List Instr :=
  let r := s.record (cexitCh w)
  let bound : Int := (chillTarget s w).1 + (s.chillProfile w).chillWindow
  match r.mean, decide (s.mode w = .run) && r.fresh with
  | some m, true =>
    ({ f with chillOut := decide (bound < m) }, windowNotice (.chillExit w) f.chillOut (decide (bound < m)) m bound)
  | _, _ => (f, [])

/-- A return window judged on its lane (R107): its new state and its notice. -/
def judgeReturn (w : Fin 4) (c : Circuit) (limit : Nat) (lane : Option Int) (old : Bool) : Bool × List Instr :=
  match lane with
  | some x => (decide ((limit : Int) < x), windowNotice (.waterReturn w c) old (decide ((limit : Int) < x)) x limit)
  | none => (old, [])

/-! ## Chill feedforward and schedules (R108, R109, R111) -/

/-- Target, temperature drop and feedforward recorded (R108). -/
def formChill (s : State) (w : Fin 4) (f : Finishing) : Finishing :=
  let t := chillTarget s w
  let drop : Nat :=
    match (s.record (dexitCh w)).mean with
    | some m => (m - t.1).toNat
    | none => 0
  let p := s.params w
  { f with
    target := t.1
    targetSource := t.2
    deltaT := drop
    ff := (s.webs.get w).v * p.width * p.grammage * drop * (s.chillProfile w).kc / 1000000000000 }

/-- The circuit A part of the feedforward (R109). -/
def chillPartA (s : State) (w : Fin 4) (f : Finishing) : Nat := f.ff * (s.chillProfile w).shareA / 256

/-- The schedules by the web's mode, recorded (R109, R111). -/
def scheduleChill (s : State) (w : Fin 4) (f : Finishing) : Finishing :=
  let p := s.params w
  let a := chillPartA s w f
  if moving (s.mode w) then
    let k := trimFor p (s.mode w)
    { f with
      factor := k
      chillA := min 10000 (max p.chillMin a)
      chillB := schedule p.chillMin ((f.ff - a : Nat) : Int) (scaleTrim k f.lastTrim) }
  else if s.mode w = .brk then
    { f with factor := .zero, chillA := p.chillMin, chillB := p.chillMin, iAcc := 0, lastP := 0, lastTrim := 0 }
  else { f with factor := .zero, chillA := p.chillMin, chillB := p.chillMin }

/-- CHILL A(w) and CHILL B(w) to the Authority Arbiter. -/
def handChill (w : Fin 4) (f : Finishing) : List Instr :=
  [.scheduleValue (chillAOut w) [f.chillA], .scheduleValue (chillBOut w) [f.chillB]]

/-- The trim without its proportional term (R110 step 3, R112). -/
def dropChillProportional (f : Finishing) : Finishing := { f with lastP := 0, lastTrim := integralTerm f.iAcc }

/-- Error, proportional term and integration at mean `m` of the CEXIT record (R110 steps 2 and 4). -/
def updateChillTrim (s : State) (w : Fin 4) (m : Int) (f : Finishing) : Finishing :=
  let e := saturate16 (m - f.target)
  let p := proportional f.kp e
  let acc := integrate f.ki f.iLimit (s.params w).chillMin f.chillB e f.iAcc
  { f with lastE := e, lastP := p, iAcc := acc, lastTrim := p + integralTerm acc }

/-- The trim of a full update (R110 steps 2 to 4): held outside CRAWL and RUN. -/
def fullChillTrim (s : State) (w : Fin 4) (f : Finishing) : Finishing :=
  let r := s.record (cexitCh w)
  if moving (s.mode w) then
    match r.fresh, r.mean with
    | true, some m => updateChillTrim s w m f
    | _, _ => dropChillProportional f
  else f

/-- A chill full update (R110). -/
def fullChill (s : State) (w : Fin 4) (f : Finishing) : Finishing :=
  scheduleChill s w (fullChillTrim s w (formChill s w f))

/-- A chill refresh (R112). -/
def refreshChill (s : State) (w : Fin 4) (f : Finishing) : Finishing :=
  let f' := formChill s w f
  scheduleChill s w
    (if moving (s.mode w) && !(s.record (cexitCh w)).fresh then dropChillProportional f' else f')

/-! ## Events (Table 6-2) -/

/-- An event of Web Finishing of web `w`: an IDLE web's does nothing (R101). -/
def finishingEvent (w : Fin 4) (f : State → Finishing → Finishing × List Instr) (s : State) : State :=
  if s.mode w = .idle then s
  else
    let r := f s (s.finishing.get w)
    { s with finishing := s.finishing.set w r.1, signals := s.signals ++ r.2 }

/-- The parts of a DEXIT arrival: damper bank, dry window, chill full update. -/
def takeDexit (w : Fin 4) (s : State) (f : Finishing) : Finishing × List Instr :=
  let f1 := alignDampers s w f
  let f2 := if s.mode w = .run then updateDampers s w f1 else f1
  let d := judgeDry s w f2
  let f3 := fullChill s w d.1
  (f3, handDampers w f3 ++ d.2 ++ handChill w f3)

/-- DEXIT_ARRIVAL (R103). -/
def execDexitArrival (w : Fin 4) (s : State) : Host.Outcome State Fault Refusal :=
  event (finishingEvent w (takeDexit w)) s

/-- The parts of a CEXIT arrival: chill window, chill full update. -/
def takeCexit (w : Fin 4) (s : State) (f : Finishing) : Finishing × List Instr :=
  let d := judgeChillExit s w f
  let f1 := fullChill s w d.1
  (f1, d.2 ++ handChill w f1)

/-- CEXIT_ARRIVAL (R110). -/
def execCexitArrival (w : Fin 4) (s : State) : Host.Outcome State Fault Refusal :=
  event (finishingEvent w (takeCexit w)) s

/-- The return windows at a CWRET arrival (R107); circuit A's notice goes before circuit B's: DESIGN CHOICE (log entry
31). -/
def takeCwret (w : Fin 4) (s : State) (f : Finishing) : Finishing × List Instr :=
  let r := s.record (cwretCh w)
  let limit := (s.housing (housingOf w)).returnLimit
  if r.fresh then
    let a := judgeReturn w .a limit (r.lanes.get 0) f.returnAOut
    let b := judgeReturn w .b limit (r.lanes.get 1) f.returnBOut
    ({ f with returnAOut := a.1, returnBOut := b.1 }, a.2 ++ b.2)
  else (f, [])

/-- CWRET_ARRIVAL (R107). -/
def execCwretArrival (w : Fin 4) (s : State) : Host.Outcome State Fault Refusal :=
  event (finishingEvent w (takeCwret w)) s

/-- Alignment of the damper bank with a chill refresh. -/
def alignAndRefresh (w : Fin 4) (s : State) (f : Finishing) : Finishing × List Instr :=
  let f1 := refreshChill s w (alignDampers s w f)
  (f1, handDampers w f1 ++ handChill w f1)

/-- FINISHING_ENC_ARRIVAL (R112). -/
def execFinishingEncArrival (w : Fin 4) (s : State) : Host.Outcome State Fault Refusal :=
  event (finishingEvent w (alignAndRefresh w)) s

/-- DEXIT_STALE (R104, R112). -/
def execDexitStale (w : Fin 4) (s : State) : Host.Outcome State Fault Refusal :=
  event (finishingEvent w (alignAndRefresh w)) s

/-- The CEXIT record has become STALE (R112). -/
def takeCexitStale (w : Fin 4) (s : State) (f : Finishing) : Finishing × List Instr :=
  let f1 := scheduleChill s w (formChill s w (dropChillProportional f))
  (f1, handChill w f1)

/-- CEXIT_STALE (R112). -/
def execCexitStale (w : Fin 4) (s : State) : Host.Outcome State Fault Refusal :=
  event (finishingEvent w (takeCexitStale w)) s

/-- A damper event that is an alignment alone (R104). -/
def takeDampBase (w : Fin 4) (s : State) (f : Finishing) : Finishing × List Instr :=
  let f1 := alignDampers s w f
  (f1, handDampers w f1)

/-- DAMP_BASE_RAMP_SIGNAL (R104), with the ramp value of DAMP_BASE as it stands after the signal. -/
def execDampBaseRampSignal (told : WebRamp) (s : State) : Host.Outcome State Fault Refusal :=
  let w := told.web
  event (finishingEvent w fun s => takeDampBase w (s.told (.dampBase w) told.value)) s

/-- A chill refresh alone (R113). -/
def takeChillTarget (w : Fin 4) (s : State) (f : Finishing) : Finishing × List Instr :=
  let f1 := refreshChill s w f
  (f1, handChill w f1)

/-- CHILL_TARGET_RAMP_SIGNAL (R113), with the ramp value of CHILL_TARGET as it stands after the signal. -/
def execChillTargetRampSignal (told : WebRamp) (s : State) : Host.Outcome State Fault Refusal :=
  let w := told.web
  event (finishingEvent w fun s => takeChillTarget w (s.told (.chillTarget w) told.value)) s

end Sys2Proof.Machine
end

