-- ==== Sys2Proof/Machine/Ramp.lean ====
section
/-! DEFINITION. The Ramp Engine (chapter 9): starts, steps and transfers, completion, pauses and stops, triggers, the
stop by BREAK, and the WRITE of ramp memory. -/

namespace Sys2Proof.Machine

/-! ## The engine while an event of one slot runs -/

/-- One slot with the ownership table and the signals given, while an event of the slot runs. -/
structure RampRun where
  slot : RampSlot
  owners : Tab Ownership 24
  out : List Instr
  /-- The transfer has taken the last step of a pass. -/
  completed : Bool

/-- The run of an event at slot `j` before it has done anything. -/
def State.rampRun (s : State) (j : Fin 8) : RampRun :=
  { slot := s.ramp.slots.get j, owners := s.ramp.owners, out := [], completed := false }

/-- The state after an event at slot `j`. -/
def State.putRun (s : State) (j : Fin 8) (r : RampRun) : State :=
  { s with
    ramp := { s.ramp with slots := s.ramp.slots.set j r.slot, owners := r.owners }
    signals := s.signals ++ r.out }

/-- The targets of a slot's list. -/
def RampSlot.targetList (x : RampSlot) : List RampTarget := x.desc.targets.getD []

/-- The preload of the line counter: used in modes TWO and THREE (R153). -/
def lineLoad (d : RampDescriptor) : Nat :=
  if d.mode = some .two ∨ d.mode = some .three then d.l.getD 0 else 0

/-- The preload of the block counter: used in mode THREE (R153). -/
def blockLoad (d : RampDescriptor) : Nat := if d.mode = some .three then d.bk.getD 0 else 0

/-- Counters loaded from their preloads and the pointer set to base (R153 step 3). An absent field counts as 0, as in
an EMPTY slot at RESTART (R165): DESIGN CHOICE (log entry 28). -/
def RampSlot.reloaded (x : RampSlot) : RampSlot :=
  { x with pointer := x.desc.base.getD 0, n := x.desc.n.getD 0, l := lineLoad x.desc, b := blockLoad x.desc }

/-- The pace period in ms: (R + 1) times the base tick. -/
def pacePeriod (d : RampDescriptor) : Nat := (d.reload.getD 0 + 1) * tickMs (d.tick.getD .ms10)

/-- The signal to a target's reader (Table 9-1), which carries the ramp values of the reader's targets as table `o`, the
one after the write or release it tells, gives them: DEDUCED (log entry 27). -/
def readerSignal (o : Tab Ownership 24) : RampTarget → Instr
  | .zoneSp h z => .zoneRampSignal h ⟨z, ownedValue o (.zoneSp h z), ownedValue o (.fan h z)⟩
  | .fan h z => .zoneRampSignal h ⟨z, ownedValue o (.zoneSp h z), ownedValue o (.fan h z)⟩
  | .chillTarget w => .chillTargetRampSignal ⟨w, ownedValue o (.chillTarget w)⟩
  | .dampBase w => .dampBaseRampSignal ⟨w, ownedValue o (.dampBase w)⟩

/-! ## Ownership (R149) -/

/-- The table with one target released. -/
def releaseOne (o : Tab Ownership 24) (t : RampTarget) : Tab Ownership 24 := o.set (targetIx t) ⟨none, none⟩

/-- The table with every target of a list released. -/
def releaseTargets (o : Tab Ownership 24) (ts : List RampTarget) : Tab Ownership 24 := ts.foldl releaseOne o

/-- The signals of a release of targets `ts` of table `o`: to the readers of those that held a ramp value. -/
def releaseSignals (o : Tab Ownership 24) (ts : List RampTarget) : List Instr :=
  (ts.filter fun t => (o.get (targetIx t)).value.isSome).map (readerSignal (releaseTargets o ts))

/-- The table with slot `j` made the owner of every target of a list, with no ramp value (R153 step 2). -/
def claimTargets (j : Fin 8) (o : Tab Ownership 24) (ts : List RampTarget) : Tab Ownership 24 :=
  ts.foldl (fun o t => o.set (targetIx t) ⟨some j, none⟩) o

/-- The first target of a list that has an owner, with that owner (R153 step 1). -/
def firstConflict (o : Tab Ownership 24) : List RampTarget → Option (RampTarget × Fin 8)
  | [] => none
  | t :: rest =>
    match (o.get (targetIx t)).owner with
    | some k => some (t, k)
    | none => firstConflict o rest

/-- A run with the slot's targets released (R149). -/
def RampRun.release (r : RampRun) : RampRun :=
  { r with
    owners := releaseTargets r.owners r.slot.targetList
    out := r.out ++ releaseSignals r.owners r.slot.targetList }

/-! ## Steps and transfers (R155, R156) -/

/-- A pointer moved by an offset, modulo 1024. -/
def movePointer (p : Nat) (off : Int) : Nat := (((p : Int) + off) % (Config.rampWords : Nat)).toNat

/-- Pointer and counters after a step, and whether it was the last of the pass (Table 9-5). -/
def advanceSlot (x : RampSlot) : RampSlot × Bool :=
  let d := x.desc
  if 0 < x.n then ({ x with pointer := movePointer x.pointer 1, n := x.n - 1 }, false)
  else if 0 < x.l then
    ({ x with pointer := movePointer x.pointer (d.off1.getD 0), l := x.l - 1, n := d.n.getD 0 }, false)
  else if 0 < x.b then
    ({ x with pointer := movePointer x.pointer (d.off2.getD 0), b := x.b - 1, l := lineLoad d, n := d.n.getD 0 },
      false)
  else (x.reloaded, true)

/-- The value a step reads for target `t`: the memory word clamped to the target's range. -/
def stepValue (m : RampMemory) (x : RampSlot) (t : RampTarget) : Nat :=
  (clampInt (RampMemory.read m x.pointer).toInt 0 (targetMax t)).toNat

/-- The target of the next step: at step index N − n. -/
def RampSlot.nextTarget (x : RampSlot) : Option RampTarget := x.targetList[x.desc.n.getD 0 - x.n]?

/-- One step (R155). -/
def takeStep (m : RampMemory) (r : RampRun) : RampRun :=
  let a := advanceSlot r.slot
  match r.slot.nextTarget with
  | some t =>
    let owners := r.owners.modify (targetIx t) fun e => { e with value := some (stepValue m r.slot t) }
    { slot := a.1, owners := owners, out := r.out ++ [readerSignal owners t], completed := a.2 }
  | none => { r with slot := a.1, completed := a.2 }

/-- Steps to the end of a line: at most `fuel`. -/
def takeLine (m : RampMemory) : Nat → RampRun → RampRun
  | 0, r => r
  | fuel + 1, r => if r.slot.n = 0 then takeStep m r else takeLine m fuel (takeStep m r)

/-- The steps of one transfer (R156). -/
def transferSteps (m : RampMemory) (r : RampRun) : RampRun :=
  if r.slot.desc.transfer = some .line then takeLine m 8 r else takeStep m r

/-! ## Completion (R157, R158) -/

/-- What the end action does (R157). A RELEASE signals the return to profile after the transfer's own writes, so that the
readers take a write followed at once by a release. -/
def endAction (r : RampRun) : RampRun :=
  match r.slot.desc.endAction with
  | some .hold => { r with slot := { r.slot with timer := none, saved := none, state := .holding } }
  | some .repeatPass => r
  | _ =>
    let x := { r.slot with
      timer := none
      saved := none
      state := if r.slot.desc.rearm = some true then .armed else .loaded }
    { r.release with slot := x }

/-- PROGRAM_DONE and the chain signal to the other seven slots (R158). -/
def doneSignals (j : Fin 8) (d : RampDescriptor) (passes : Nat) : List Instr :=
  raise (.programDone j (d.endAction.getD .release) passes) ++
    ((List.finRange 8).filter fun k => decide (k ≠ j)).map fun k => Instr.trigger k (.chain j)

/-- Completion after the last step of a pass (R157, R158). The count that R164 shows saturates with the notice's detail:
DESIGN CHOICE (log entry 34). -/
def completePass (j : Fin 8) (r : RampRun) : RampRun :=
  let passes := min (r.slot.passes + 1) Config.passMax
  let e := endAction { r with slot := { r.slot with passes := passes } }
  { e with out := e.out ++ doneSignals j r.slot.desc passes }

/-- One transfer with the completion it may end in. -/
def takeTransfer (j : Fin 8) (m : RampMemory) (r : RampRun) : RampRun :=
  let t := transferSteps m r
  if t.completed then completePass j t else t

/-! ## Starts (R153) -/

/-- Steps 2 to 6 of a start at `now`: the timer is set first, and completion may stop it. -/
def startSlot (j : Fin 8) (now : PartTime) (m : RampMemory) (r : RampRun) : RampRun :=
  let x := r.slot.reloaded
  takeTransfer j m
    { r with
      slot := { x with
        state := .running
        timer := some (after now (pacePeriod x.desc))
        saved := none
        passes := 0 }
      owners := claimTargets j r.owners x.targetList }

/-- The start of slot `j` when no target of its list is owned. -/
def State.started (s : State) (j : Fin 8) : State := s.putRun j (startSlot j s.now s.ramp.memory (s.rampRun j))

/-- The first owned target of slot `j`'s list. -/
def State.conflict (s : State) (j : Fin 8) : Option (RampTarget × Fin 8) :=
  firstConflict s.ramp.owners (s.ramp.slots.get j).targetList

/-! ## Pace timer (R154) -/

/-- Whether a slot's timer has expired. -/
def paceDue (now : PartTime) (x : RampSlot) : Bool :=
  (decide (x.state = .running) || decide (x.state = .pausing)) && x.timer.any (reached now)

/-- A PAUSING slot at the end of its line becomes PAUSED, saving the remaining pace time (R159). -/
def settlePause (now : PartTime) (x : RampSlot) : RampSlot :=
  if x.state = .pausing ∧ x.desc.n.getD 0 = x.n then
    { x with state := .paused, saved := x.timer.map (· - now), timer := none }
  else x

/-- An expiry: the timer restarted from the old expiry, one transfer, and the pause it may end. -/
def expireSlot (j : Fin 8) (now : PartTime) (m : RampMemory) (r : RampRun) : RampRun :=
  let t := takeTransfer j m
    { r with slot := { r.slot with timer := r.slot.timer.map fun e => after e (pacePeriod r.slot.desc) } }
  { t with slot := settlePause now t.slot }

/-- PACE_TIMER_EXPIRY (R154): a timer that is stopped, or was restarted, does not expire. -/
def execPaceTimerExpiry (slot : Fin 8) (s : State) : Host.Outcome State Fault Refusal :=
  event (fun s =>
    if paceDue s.now (s.ramp.slots.get slot) then
      s.putRun slot (expireSlot slot s.now s.ramp.memory (s.rampRun slot))
    else s) s

/-! ## Triggers and stops (R160 to R163) -/

/-- TRIGGER (R162): an ARMED slot whose trigger matches attempts a start. -/
def execTrigger (slot : Fin 8) (sig : TriggerSignal) (s : State) : Host.Outcome State Fault Refusal :=
  event (fun s =>
    let x := s.ramp.slots.get slot
    if x.state = .armed ∧ x.desc.trigger = some (.on sig) then
      match s.conflict slot with
      | some c => s.send (raise (.programBlocked slot c.1 c.2 (signalKind sig)))
      | none => s.started slot
    else s) s

/-- A stop: targets released, timer stopped, counters and pointer reloaded, LOADED (R160). -/
def stopSlot (r : RampRun) : RampRun :=
  { r.release with slot := { r.slot.reloaded with state := .loaded, timer := none, saved := none } }

/-- Whether a slot runs or holds targets. -/
def ownsTargets (st : SlotState) : Bool :=
  match st with
  | .running => true | .pausing => true | .paused => true | .holding => true | _ => false

/-- Whether a target belongs to what a break of web `w` reaches (R163). -/
def reachedByBreak (w : Fin 4) : RampTarget → Bool
  | .zoneSp h _ => decide (h = housingOf w)
  | .fan h _ => decide (h = housingOf w)
  | .chillTarget v => decide (v = w)
  | .dampBase v => decide (v = w)

/-- BREAK_STOP (R163). -/
def execBreakStop (slot : Fin 8) (w : Fin 4) (s : State) : Host.Outcome State Fault Refusal :=
  event (fun s =>
    let x := s.ramp.slots.get slot
    if x.targetList.any (reachedByBreak w) then
      if ownsTargets x.state then s.putRun slot (stopSlot (s.rampRun slot))
      else if x.state = .armed then
        s.putRun slot { s.rampRun slot with slot := { x with state := .loaded } }
      else s
    else s) s

/-! ## RAMP requests (R152, Table 9-4) -/

/-- The state with slot `j` replaced. -/
def State.putSlot (s : State) (j : Fin 8) (x : RampSlot) : State :=
  s.putRun j { s.rampRun j with slot := x }

/-- ARM (Table 9-4). -/
def armSlot (j : Fin 8) (_ : List Byte) (s : State) : Answer :=
  let x := s.ramp.slots.get j
  if x.state = .loaded then done (s.putSlot j { x with state := .armed }) else refuse .state s

/-- ARM (R152). -/
def execArm (rq : Request) (s : State) : Host.Outcome State Fault Refusal := request 12 rq (indexed 8 armSlot) s

/-- DISARM (Table 9-4). -/
def disarmSlot (j : Fin 8) (_ : List Byte) (s : State) : Answer :=
  let x := s.ramp.slots.get j
  if x.state = .armed then done (s.putSlot j { x with state := .loaded }) else refuse .state s

/-- DISARM (R152). -/
def execDisarm (rq : Request) (s : State) : Host.Outcome State Fault Refusal := request 12 rq (indexed 8 disarmSlot) s

/-- START (R153). -/
def startRequest (j : Fin 8) (_ : List Byte) (s : State) : Answer :=
  let x := s.ramp.slots.get j
  if x.state = .loaded ∨ x.state = .armed then
    match s.conflict j with
    | some _ => refuse .busy s
    | none => done (s.started j)
  else refuse .state s

/-- START (R153). -/
def execStart (rq : Request) (s : State) : Host.Outcome State Fault Refusal := request 12 rq (indexed 8 startRequest) s

/-- A pause of a RUNNING slot (R159). -/
def pausedSlot (now : PartTime) (x : RampSlot) : RampSlot :=
  if x.desc.transfer = some .line ∨ x.desc.n.getD 0 = x.n then
    { x with state := .paused, saved := x.timer.map (· - now), timer := none }
  else { x with state := .pausing }

/-- PAUSE (R159). -/
def pauseSlot (j : Fin 8) (_ : List Byte) (s : State) : Answer :=
  let x := s.ramp.slots.get j
  if x.state = .running then done (s.putSlot j (pausedSlot s.now x)) else refuse .state s

/-- PAUSE (R159). -/
def execPause (rq : Request) (s : State) : Host.Outcome State Fault Refusal := request 12 rq (indexed 8 pauseSlot) s

/-- RESUME (R159). -/
def resumeSlot (j : Fin 8) (_ : List Byte) (s : State) : Answer :=
  let x := s.ramp.slots.get j
  if x.state = .paused then
    done (s.putSlot j { x with state := .running, timer := some (s.now + x.saved.getD 0), saved := none })
  else if x.state = .pausing then done (s.putSlot j { x with state := .running })
  else refuse .state s

/-- RESUME (R159). -/
def execResume (rq : Request) (s : State) : Host.Outcome State Fault Refusal := request 12 rq (indexed 8 resumeSlot) s

/-- STOP (R160). -/
def stopRequest (j : Fin 8) (_ : List Byte) (s : State) : Answer :=
  if ownsTargets (s.ramp.slots.get j).state then done (s.putRun j (stopSlot (s.rampRun j))) else refuse .state s

/-- STOP (R160). -/
def execStop (rq : Request) (s : State) : Host.Outcome State Fault Refusal := request 12 rq (indexed 8 stopRequest) s

/-! ## WRITE of RAMP_MEMORY (R148) -/

/-- The argument bytes of a RAMP_MEMORY span after the index: word address and word count, when the limits of R148
allow them. -/
def rampSpan (args : List Byte) : Option (Nat × Nat) :=
  let a := wordAt args 0
  let k := byteAt args 2
  if args.length < 3 ∨ k = 0 ∨ 8 < k ∨ Config.rampWords < a + k then none else some (a, k)

/-- The owner's judgement of a RAMP_MEMORY write. -/
def writeRampMemory (_ : Fin 1) (args : List Byte) (s : State) : Answer :=
  match rampSpan args with
  | none => refuse .range s
  | some (a, k) =>
    if args.length < 3 + 2 * k then refuse .range s
    else
      let vs := (wordsOfBytes ((args.drop 3).take (2 * k))).map (BitVec.ofNat 16)
      done { s with ramp := { s.ramp with memory := RampMemory.writeAll s.ramp.memory a vs } }

/-- WRITE_RAMP_MEMORY (R148). -/
def execWriteRampMemory (rq : Request) (s : State) : Host.Outcome State Fault Refusal :=
  request 2 rq (indexed 1 writeRampMemory) s

end Sys2Proof.Machine
end

