-- ==== Sys2Proof/Machine/RampDescriptors.lean ====
section
/-! DEFINITION. The WRITE of a ramp descriptor (R150, R151): its image, the fields a span carries, and the
judgement of the descriptor as a whole. -/

namespace Sys2Proof.Machine

/-! ## Image (R181): the fields in the order of Table 9-2, each behind a presence word -/

/-- An optional field of one word; behind presence 0 it reads 0: DESIGN CHOICE (log entry 12). -/
def fieldWords {α : Type} (code : α → Nat) (x : Option α) : List Nat :=
  match x with
  | some v => [1, code v]
  | none => [0, 0]

/-- The presence word of a target list and its eight words, 65535 beyond its entries; those of an absent list: DESIGN CHOICE
(log entry 12). -/
def targetWords (x : Option (List RampTarget)) : List Nat :=
  boolWord x.isSome :: (List.range 8).map fun i => ((x.getD [])[i]?.map fun t => (targetIx t).val).getD 65535

/-- The four words of a trigger: kind, web or slot, mode or marker kind, station. -/
def triggerCode : Trigger → List Nat
  | .console => [0, 0, 0, 0]
  | .on (.mode w m) => [1, w.val, modeCode m, 0]
  | .on (.marker w k st) => [2, w.val, markerCode k, st.val]
  | .on (.chain c) => [3, c.val, 0, 0]

def triggerWords (x : Option Trigger) : List Nat :=
  match x with
  | some t => 1 :: triggerCode t
  | none => [0, 0, 0, 0, 0]

/-- The field image of a descriptor: 38 words. -/
def RampDescriptor.words (d : RampDescriptor) : List Nat :=
  fieldWords id d.base ++ fieldWords rampModeCode d.mode ++ fieldWords transferCode d.transfer ++
    targetWords d.targets ++ fieldWords id d.n ++ fieldWords id d.l ++ fieldWords id d.bk ++
    fieldWords toWord d.off1 ++ fieldWords toWord d.off2 ++ fieldWords id d.reload ++ fieldWords tickCode d.tick ++
    triggerWords d.trigger ++ fieldWords endCode d.endAction ++ fieldWords boolWord d.rearm

/-- First word and number of words of each field but the target list, presence word included. -/
def descriptorFields : List (Nat × Nat) :=
  [(0, 2), (2, 2), (4, 2), (15, 2), (17, 2), (19, 2), (21, 2), (23, 2), (25, 2), (27, 2), (29, 5), (34, 2), (36, 2)]

/-- Whether the span carries every field it touches whole (R181). A target list with its presence word is 18 bytes, more
than a WRITE carries, and yet is given by a WRITE (R151): its eight value words alone, the 16 bytes of one WRITE, carry
it, and every other span that touches it is CHECK: DEDUCED (log entry 15). -/
def fieldsWhole (sp : Span) : Bool :=
  (!sp.touches 6 9 || sp.holds 7 8) && descriptorFields.all fun f => !sp.touches f.1 f.2 || sp.holds f.1 f.2

/-! ## The carried fields -/

/-- A field of one value word read from its presence word and value; none when out of range. -/
def readField {α : Type} (parse : Nat → Option α) (presence value : Nat) : Option (Option α) :=
  if presence = 0 then some none else if presence = 1 then (parse value).map some else none

/-- The field at word `i` after the write: the carried one, or the old one when the span does not carry it. -/
def carriedField {α : Type} (sp : Span) (i : Nat) (parse : Nat → Option α) (old : Option α) : Option (Option α) :=
  if sp.holds i 2 then readField parse (sp.val i) (sp.val (i + 1)) else some old

/-- A number up to `hi`. -/
def parseUpTo (hi v : Nat) : Option Nat := if v ≤ hi then some v else none

/-- A pointer offset. -/
def parseOffset (v : Nat) : Option Int :=
  if -1024 ≤ signedWord v ∧ signedWord v ≤ 1023 then some (signedWord v) else none

def parseBool (v : Nat) : Option Bool := if v = 0 then some false else if v = 1 then some true else none

/-- The targets before the first 65535; none when one of them does not exist. -/
def parseTargets : List Nat → Option (List RampTarget)
  | [] => some []
  | v :: rest =>
    if v = 65535 then some []
    else
      match targetOfCode v, parseTargets rest with
      | some t, some ts => some (t :: ts)
      | _, _ => none

/-- A list with at least one entry. -/
def parseTargetList (vs : List Nat) : Option (List RampTarget) := (parseTargets vs).filter fun ts => !ts.isEmpty

/-- The target list after the write: its eight words make it present (log entry 15). -/
def carriedTargets (sp : Span) (old : Option (List RampTarget)) : Option (Option (List RampTarget)) :=
  if sp.holds 7 8 then (parseTargetList ((List.range 8).map fun i => sp.val (7 + i))).map some else some old

/-- A trigger read from its four words; words its kind does not use are not read, and so may carry what they will: DESIGN
CHOICE (log entry 12). -/
def parseTrigger (kind who what st : Nat) : Option Trigger :=
  if kind = 0 then some .console
  else if kind = 1 then
    match asFin 4 who, modeOfCode what with
    | some w, some m => some (.on (.mode w m))
    | _, _ => none
  else if kind = 2 then
    match asFin 4 who, markerOfCode what, asFin 7 st with
    | some w, some k, some i => some (.on (.marker w k i))
    | _, _, _ => none
  else if kind = 3 then (asFin 8 who).map fun c => .on (.chain c)
  else none

/-- The trigger after the write. -/
def carriedTrigger (sp : Span) (old : Option Trigger) : Option (Option Trigger) :=
  if sp.holds 29 5 then
    (if sp.val 29 = 0 then some none
     else if sp.val 29 = 1 then
       (parseTrigger (sp.val 30) (sp.val 31) (sp.val 32) (sp.val 33)).map some
     else none)
  else some old

/-- The descriptor with the carried fields in place; none when a carried value is out of range (R151 check 2). -/
def carriedDescriptor (sp : Span) (d : RampDescriptor) : Option RampDescriptor :=
  match carriedField sp 0 (parseUpTo 1023) d.base, carriedField sp 2 rampModeOfCode d.mode,
    carriedField sp 4 transferOfCode d.transfer, carriedTargets sp d.targets,
    carriedField sp 15 (parseUpTo 7) d.n, carriedField sp 17 (parseUpTo 4095) d.l,
    carriedField sp 19 (parseUpTo 255) d.bk with
  | some base, some mode, some transfer, some targets, some n, some l, some bk =>
    match carriedField sp 21 parseOffset d.off1, carriedField sp 23 parseOffset d.off2,
      carriedField sp 25 (parseUpTo 65535) d.reload, carriedField sp 27 tickOfCode d.tick,
      carriedTrigger sp d.trigger, carriedField sp 34 endOfCode d.endAction, carriedField sp 36 parseBool d.rearm with
    | some off1, some off2, some reload, some tick, some trigger, some endAction, some rearm =>
      some { base := base, mode := mode, transfer := transfer, targets := targets, n := n, l := l, bk := bk,
             off1 := off1, off2 := off2, reload := reload, tick := tick, trigger := trigger,
             endAction := endAction, rearm := rearm }
    | _, _, _, _, _, _, _ => none
  | _, _, _, _, _, _, _ => none

/-! ## The judgement as a whole (R151) -/

/-- Whether a field is missing, field by field in the order of Table 9-2: L and OFF1 are needed in modes TWO and
THREE, Bk and OFF2 in mode THREE. -/
def missingFlags (d : RampDescriptor) : List Bool :=
  let two := decide (d.mode = some .two) || decide (d.mode = some .three)
  let three := decide (d.mode = some .three)
  [d.base.isNone, d.mode.isNone, d.transfer.isNone, d.targets.isNone, d.n.isNone, two && d.l.isNone,
    three && d.bk.isNone, two && d.off1.isNone, three && d.off2.isNone, d.reload.isNone, d.tick.isNone,
    d.trigger.isNone, d.endAction.isNone, d.rearm.isNone]

/-- Number of the first condition of consistency that fails (R151, R182). -/
def inconsistency (j : Fin 8) (d : RampDescriptor) : Option Nat :=
  let ts := d.targets.getD []
  if d.n.getD 0 + 1 ≠ ts.length then some 0
  else if !decide ts.Nodup then some 1
  else if d.trigger = some (.on (.chain j)) then some 2 else none

/-- The reason a descriptor is not complete and consistent, as its two reply bytes (R182); of several the first: DEDUCED
(log entry 12). -/
def descriptorFault (j : Fin 8) (d : RampDescriptor) : Option (List Byte) :=
  match (missingFlags d).findIdx? id with
  | some i => some [0, byteOf i]
  | none => (inconsistency j d).map fun c => [1, byteOf c]

/-- A written descriptor judged as a whole (R151 steps 3 and 4). -/
def judgeDescriptor (j : Fin 8) (d : RampDescriptor) (s : State) : Answer :=
  let x := s.ramp.slots.get j
  match descriptorFault j d with
  | none => done (s.putSlot j { x with desc := d, state := .loaded })
  | some reason => refuseWith .check reason (s.putSlot j { x with desc := d, state := .empty })

/-- The owner's judgement of a RAMP_DESCRIPTOR write (R151). -/
def writeRampDescriptor (j : Fin 8) (sp : Span) (s : State) : Answer :=
  let x := s.ramp.slots.get j
  if !fieldsWhole sp then refuse .check s
  else if x.state ≠ .empty ∧ x.state ≠ .loaded then refuse .busy s
  else
    match carriedDescriptor sp x.desc with
    | none => refuse .range s
    | some d => judgeDescriptor j d s

/-- WRITE_RAMP_DESCRIPTOR (R151). -/
def execWriteRampDescriptor (rq : Request) (s : State) : Host.Outcome State Fault Refusal :=
  request 2 rq (writeObject 8 38 writeRampDescriptor) s

end Sys2Proof.Machine
end

