-- ==== Sys2Proof/Machine/Intake.lean ====
section
/-! DEFINITION. Sample Intake (chapter 3): matching and processing of samples, the age timer, and the WRITE of a
subscription. -/

namespace Sys2Proof.Machine

/-- The signals of an arrival to the consumers of a role (Table 3-4). -/
def arrivalSignals : InRole → List Instr
  | .zair h z => [.fullUpdate h z, .zairTripCheck h z]
  | .lel h => [.lelArrival h]
  | .exht h => [.exhtArrival h]
  | .dexit w => [.dexitArrival w]
  | .cexit w => [.cexitArrival w]
  | .cwret w => [.cwretArrival w]
  | .enc w =>
    let h := housingOf w
    [.advance w, .encSpeed w, .feedforwardRefresh h 0, .feedforwardRefresh h 1, .feedforwardRefresh h 2,
      .feedforwardRefresh h 3, .monitorEncArrival h, .finishingEncArrival w]
  | .brk w => [.brkSample w]

/-- The signals of a transition to STALE (Table 3-4, last column). -/
def staleSignals : InRole → List Instr
  | .zair h z => [.zairStale h z]
  | .lel h => [.lelStale h]
  | .exht _ => []
  | .dexit w => [.dexitStale w]
  | .cexit w => [.cexitStale w]
  | .cwret _ => []
  | .enc w => [.encStaleSignal w]
  | .brk w => [.brkStaleSignal w]

/-- A FRESH record made STALE: lanes, mask and arrival time kept, timer stopped (R55). -/
def InputRecord.toStale (r : InputRecord) : InputRecord := { r with fresh := false, ageRunning := false }

/-- What Intake sends when channel `ch` becomes STALE: INPUT_STALE and the stale signals (R55). -/
def staleReport (ch : Fin 32) (r : InputRecord) : List Instr :=
  raise (.inputStale ch (presentMask r.lanes)) ++ staleSignals (inRole ch)

/-- Whether an enabled subscription names the sample's node and set (R49). -/
def Subscription.matchesSample (sub : Subscription) (sample : Sample) : Bool :=
  sub.enabled && decide (sub.node = sample.node.toNat) && decide (sub.setId = sample.setId.toNat)

/-- The logical lanes a sample gives channel `ch` (R51, R52). -/
def intakeLanes (ch : Fin 32) (sub : Subscription) (sample : Sample) : Tab (Option Int) 8 :=
  Tab.ofFn (intakeLane sub (inRole ch).lanes sample)

/-- Whether some lane is present: the sample is an arrival (R53). -/
def isArrival (lanes : Tab (Option Int) 8) : Bool := lanes.items.any Option.isSome

/-- A sample reaching channel `ch`: matching, processing, and on an arrival the new record with its signals
(R49 to R56). -/
def intakeSample (ch : Fin 32) (sample : Sample) (s : State) : State :=
  let c := s.inputs.get ch
  let lanes := intakeLanes ch c.sub sample
  if c.sub.matchesSample sample && isArrival lanes then
    { s with
      inputs := s.inputs.set ch
        { c with record := { fresh := true, lanes := lanes, arrival := s.now, ageRunning := true } }
      signals := s.signals ++ ((if c.record.fresh then [] else raise (.inputRestored ch (presentMask lanes))) ++
        arrivalSignals (inRole ch)) }
  else s

/-- INTAKE_SAMPLE (R53). -/
def execIntakeSample (ch : Fin 32) (sample : Sample) (s : State) : Host.Outcome State Fault Refusal :=
  event (intakeSample ch sample) s

/-- Whether a running age timer has expired: the elapsed time reaches the max age (R55). -/
def InputChannel.ageExpired (c : InputChannel) (now : PartTime) : Bool :=
  c.record.ageRunning && decide (c.sub.maxAge ≤ elapsed now c.record.arrival)

/-- The record of channel `ch` becomes STALE, with its report. -/
def makeStale (ch : Fin 32) (s : State) : State :=
  let c := s.inputs.get ch
  { s with
    inputs := s.inputs.set ch { c with record := c.record.toStale }
    signals := s.signals ++ staleReport ch c.record }

/-- AGE_TIMER_EXPIRY (R55): a timer that is stopped, or was restarted by an arrival taken first, does not
expire. -/
def execAgeTimerExpiry (ch : Fin 32) (s : State) : Host.Outcome State Fault Refusal :=
  event (fun s => if (s.inputs.get ch).ageExpired s.now then makeStale ch s else s) s

/-! ## Subscriptions -/

/-- The field image of a subscription (Table 3-2, R181). -/
def Subscription.words (x : Subscription) : List Nat :=
  [boolWord x.enabled, x.node, x.setId] ++ x.laneMap.items ++ [toWord x.offset, toWord x.scale, x.maxAge]

def Subscription.ofWords (ws : List Nat) : Subscription :=
  { enabled := decide (ws.getD 0 0 ≠ 0), node := ws.getD 1 0, setId := ws.getD 2 0,
    laneMap := Tab.ofFn fun i => ws.getD (3 + i.val) 0, offset := signedWord (ws.getD 11 0),
    scale := signedWord (ws.getD 12 0), maxAge := ws.getD 13 0 }

/-- Ranges of Table 3-2, by word. -/
def subscriptionWordOk (i v : Nat) : Bool :=
  if i = 0 then within 0 1 v
  else if i = 1 then within 1 254 v
  else if i = 2 then within 0 255 v
  else if i < 11 then within 0 7 v
  else if i = 11 then true
  else if i = 12 then decide (-15 ≤ signedWord v) && decide (signedWord v ≤ 15)
  else within 10 60000 v

/-- Check 2 of R47: an offset or scale other than 0 carried to an ENC or BRK channel. -/
def breaksFixedLanes (ch : Fin 32) (sp : Span) : Bool :=
  (inRole ch).fixedLanes && ((sp.covers 11 && decide (sp.val 11 ≠ 0)) || (sp.covers 12 && decide (sp.val 12 ≠ 0)))

/-- Whether the write is a source change (R48). -/
def sourceChange (old new : Subscription) : Bool :=
  old.enabled && (!new.enabled || decide (new.node ≠ old.node) || decide (new.setId ≠ old.setId))

/-- The effect of an accepted subscription write on the channel (R48). -/
def applySubscription (ch : Fin 32) (new : Subscription) (s : State) : State :=
  let c := s.inputs.get ch
  let s' := { s with inputs := s.inputs.set ch { c with sub := new } }
  let expires := c.record.fresh && decide (new.maxAge ≠ c.sub.maxAge) &&
    decide (new.maxAge ≤ elapsed s.now c.record.arrival)
  if c.record.fresh && (sourceChange c.sub new || expires) then makeStale ch s' else s'

/-- The owner's judgement of a subscription write (R47). -/
def writeSubscription (ch : Fin 32) (sp : Span) (s : State) : Answer :=
  let new := Subscription.ofWords (sp.apply (s.inputs.get ch).sub.words)
  if !sp.inRange subscriptionWordOk then refuse .range s
  else if breaksFixedLanes ch sp then refuse .check s
  else if new.enabled && (decide (new.node = 0) || decide (new.maxAge = 0)) then refuse .check s
  else done (applySubscription ch new s)

/-- WRITE_SUBSCRIPTION (R47, R48). -/
def execWriteSubscription (rq : Request) (s : State) : Host.Outcome State Fault Refusal :=
  request 2 rq (writeObject 32 14 writeSubscription) s

end Sys2Proof.Machine
end

