-- ==== Sys2Proof/Machine/Tracker.lean ====
section
/-! DEFINITION. The Web Tracker (chapter 1): stations and coverage banks, the cursor, encoder advance, the
segment queue, wash windows, markers at stations, and the zone overlap sums. -/

namespace Sys2Proof.Machine

/-! ## What the Tracker reads of itself -/

def State.track (s : State) (w : Fin 4) : TrackWeb := s.tracker.webs.get w

/-- The state with web `w`'s tracking state replaced. -/
def State.setTrack (s : State) (w : Fin 4) (t : TrackWeb) : State :=
  { s with tracker := { s.tracker with webs := s.tracker.webs.set w t } }

def TrackWeb.bank (t : TrackWeb) : CovBank → CoverageBank
  | .a => t.bankA
  | .b => t.bankB

def TrackWeb.setBank (t : TrackWeb) (b : CovBank) (x : CoverageBank) : TrackWeb :=
  match b with
  | .a => { t with bankA := x }
  | .b => { t with bankB := x }

/-- The ACTIVE bank; at most one is (Table 1-2). -/
def TrackWeb.activeBank (t : TrackWeb) : Option CovBank :=
  if t.bankA.state = .active then some .a else if t.bankB.state = .active then some .b else none

/-- The run the cursor stands at, of the ACTIVE bank (R8). -/
def TrackWeb.currentRun (t : TrackWeb) : CoverageRun :=
  match t.activeBank with
  | some b => (t.bank b).runs.get t.cursorRun
  | none => ⟨0, 0, none⟩

/-- The distance of path position `p` behind the counter, modulo 2^32. -/
def headDistance (path head : BitVec 32) : Nat := (path - head).toNat

/-- A record's tail distance: head distance minus length (R13). -/
def tailDistance (path : BitVec 32) (seg : Segment) : Nat := headDistance path seg.head - seg.length

/-- The open record: the newest (R13). -/
def TrackWeb.openRecord (t : TrackWeb) : Option Segment := t.queue.getLast?

/-- The queue with its open record changed by `f`. -/
def mapLast (f : Segment → Segment) : List Segment → List Segment
  | [] => []
  | [x] => [f x]
  | x :: y :: rest => x :: mapLast f (y :: rest)

/-- The load of a record of run `r`: the run's load, plus the wash load when `washed`, capped at 4000 (R14, R17). -/
def recordLoad (p : WebParams) (r : CoverageRun) (washed : Bool) : Nat :=
  min Config.loadMax (r.load + if washed then p.washLoad else 0)

/-- Whether the wash window is open (R17). -/
def TrackWeb.washOpen (t : TrackWeb) : Bool := decide (0 < t.wash)

/-- The marker a run's record carries (R14). -/
def runMarker (r : CoverageRun) : Option Marker := r.marker.map fun k => ⟨.note k, .program, 0, false⟩

/-- A record opened at the present path counter (R14). -/
def TrackWeb.opened (t : TrackWeb) (load : Nat) (marker : Option Marker) : TrackWeb :=
  { t with
    queue := t.queue ++ [{ seq := t.seqCounter, head := t.path, length := 0, load := load, marker := marker }]
    seqCounter := t.seqCounter + 1 }

/-- The cursor set to run 0 of the ACTIVE bank (R8); 0 when no bank is ACTIVE (R27). -/
def TrackWeb.cursorToStart (t : TrackWeb) : TrackWeb :=
  match t.activeBank with
  | some b => { t with cursorRun := 0, cursorLeft := ((t.bank b).runs.get 0).length }
  | none => { t with cursorRun := 0, cursorLeft := 0 }

/-- The run after index `i` of a bank (R8). -/
def nextRun (b : CoverageBank) (i : Fin 32) : Fin 32 :=
  if h : i.val + 1 < 32 then (if i.val + 1 < b.runCount then ⟨i.val + 1, h⟩ else 0) else 0

/-- The cursor moved to the next run (R8). -/
def TrackWeb.cursorNext (t : TrackWeb) : TrackWeb :=
  match t.activeBank with
  | some b =>
    let i := nextRun (t.bank b) t.cursorRun
    { t with cursorRun := i, cursorLeft := ((t.bank b).runs.get i).length }
  | none => t

/-! ## Markers at stations (R22, R23) -/

/-- Whether a marker is a lead-web JOBCUT, which carries a job switch (R20, R23). -/
def Marker.isSwitch (m : Marker) : Bool := m.lead && decide (m.kind = .jobcut)

/-- The web's fixed inputs of one event; `lead`, whether it is the lead web, is read at a MARK. -/
structure TrackEnv where
  web : Fin 4
  params : WebParams
  lead : Bool

/-- Tracking state with the housing's pending job switch and the signals given, while an event runs. -/
structure TrackRun where
  web : TrackWeb
  job : Option Bank
  out : List Instr

/-- The station effect of a marker (Table 1-5): only a lead-web JOBCUT has one. -/
def stationEffect (env : TrackEnv) (job : Option Bank) (m : Marker) (st : Fin 7) (seq : BitVec 16) : List Instr :=
  let h := housingOf env.web
  if m.isSwitch then
    match job with
    | none => []
    | some inc =>
      if hz : st.val < 4 then [.zoneSwitchSignal h ⟨st.val, hz⟩ inc seq]
      else if st.val = 4 then [.damperSwitchSignal h inc seq]
      else if st.val = 5 then [.chillSwitchSignal h inc seq] else []
  else []

/-- The pending job switch after a marker fired a station: ended by a lead-web JOBCUT at CHILLIN (R23). -/
def jobAfter (job : Option Bank) (m : Marker) (st : Fin 7) : Option Bank :=
  if m.isSwitch && decide (st.val = 5) then none else job

/-- What one firing gives: the station effect, the notice when the mask enables it, the Ramp Engine's signals
(R22). -/
def firingSignals (env : TrackEnv) (mask : BitVec 7) (job : Option Bank) (m : Marker) (st : Fin 7)
    (seq : BitVec 16) : List Instr :=
  stationEffect env job m st seq ++
    (if mask.getLsbD st.val then raise (.markerPassed env.web m.kind st seq) else []) ++
    triggerAll (.marker env.web m.kind st)

/-- Fires the stations a record's marker has reached, in index order; at most seven (R22). -/
def fireMarker (env : TrackEnv) (stations : Tab Nat 7) (mask : BitVec 7) (seq : BitVec 16) (dist : Nat) :
    Nat → Marker → Option Bank → Marker × Option Bank × List Instr
  | 0, m, job => (m, job, [])
  | fuel + 1, m, job =>
    if h : m.next < 7 then
      if stations.get ⟨m.next, h⟩ ≤ dist then
        let rest := fireMarker env stations mask seq dist fuel { m with next := m.next + 1 }
          (jobAfter job m ⟨m.next, h⟩)
        (rest.1, rest.2.1, firingSignals env mask job m ⟨m.next, h⟩ seq ++ rest.2.2)
      else (m, job, [])
    else (m, job, [])

/-- Fires the markers of the records, oldest to newest (R22). -/
def fireQueue (env : TrackEnv) (stations : Tab Nat 7) (mask : BitVec 7) (path : BitVec 32) :
    List Segment → Option Bank → List Segment × Option Bank × List Instr
  | [], job => ([], job, [])
  | seg :: rest, job =>
    match seg.marker with
    | none =>
      let r := fireQueue env stations mask path rest job
      (seg :: r.1, r.2.1, r.2.2)
    | some m =>
      let f := fireMarker env stations mask seg.seq (headDistance path seg.head) 7 m job
      let r := fireQueue env stations mask path rest f.2.1
      ({ seg with marker := some f.1 } :: r.1, r.2.1, f.2.2 ++ r.2.2)

/-! ## Encoder advance (R12) -/

/-- Retirement from the oldest end; the open record stays (R15). -/
def retire (path : BitVec 32) (chillout : Nat) : List Segment → List Segment
  | a :: b :: rest => if chillout ≤ tailDistance path a then retire path chillout (b :: rest) else a :: b :: rest
  | q => q

/-- Step 1 of a piece (R12): its length `p` onto the open record and the path counter, off the cursor and the wash
window. With no record in the queue (an advance taken in STANDBY before the tracking start) the path counter, cursor
and window move all the same, by the length of the piece: DESIGN CHOICE (log entry 23). -/
def growPiece (p : Nat) (t : TrackWeb) : TrackWeb :=
  { t with
    queue := mapLast (fun seg => { seg with length := seg.length + p }) t.queue
    path := t.path + BitVec.ofNat 32 p
    cursorLeft := t.cursorLeft - p
    wash := t.wash - p }

/-- Step 2 of a piece: marker firing. -/
def firePiece (env : TrackEnv) (r : TrackRun) : TrackRun :=
  let f := fireQueue env r.web.stations r.web.mask r.web.path r.web.queue r.job
  { web := { r.web with queue := f.1 }, job := f.2.1, out := r.out ++ f.2.2 }

/-- Step 3 of a piece: retirement. -/
def retirePiece (t : TrackWeb) : TrackWeb := { t with queue := retire t.path (t.stations.get 6) t.queue }

/-- The open record absorbs the run the cursor stands at (R16): the greater load, and the run's marker when it has
none of its own. -/
def absorbRun (p : WebParams) (t : TrackWeb) : TrackWeb :=
  { t with queue := mapLast (fun seg =>
      { seg with
        load := max seg.load (recordLoad p t.currentRun t.washOpen)
        marker := if seg.marker.isNone then runMarker t.currentRun else seg.marker }) t.queue }

/-- Whether absorbing the run drops its marker (R16): the open record has one already. -/
def absorbDrops (w : Fin 4) (t : TrackWeb) : List Instr :=
  match t.currentRun.marker with
  | none => []
  | some k =>
    if (t.openRecord.bind Segment.marker).isSome then raise (.markerDropped w (.note k) .program) else []

/-- Step 4 of a piece: at a run boundary the cursor moves, and the new run's record is opened or absorbed
(R14, R16). An empty queue stays empty until the tracking start (R13): the cursor alone moves. -/
def boundaryPiece (env : TrackEnv) (r : TrackRun) : TrackRun :=
  if r.web.cursorLeft = 0 ∧ r.web.activeBank.isSome then
    let t := r.web.cursorNext
    if t.queue.isEmpty then { r with web := t }
    else if t.queue.length < Config.queueRecords then
      { r with web := t.opened (recordLoad env.params t.currentRun t.washOpen) (runMarker t.currentRun) }
    else { r with web := absorbRun env.params t, out := r.out ++ absorbDrops env.web t }
  else r

/-- One piece of length `p` (R12). -/
def takePiece (env : TrackEnv) (p : Nat) (r : TrackRun) : TrackRun :=
  let fired := firePiece env { r with web := growPiece p r.web }
  boundaryPiece env { fired with web := retirePiece fired.web }

/-- The pieces of an advance of `rest` mm; each takes at least 1 mm when runs have a length, so `fuel` pieces
suffice for an advance of `fuel` mm. Before a web's first tracking start no bank is ACTIVE and the cursor has nothing
left: the pieces are then of 0 mm and nothing moves: DESIGN CHOICE (log entry 23). -/
def takePieces (env : TrackEnv) : Nat → Nat → TrackRun → TrackRun
  | 0, _, r => r
  | fuel + 1, rest, r =>
    if rest = 0 then r
    else
      let p := min rest r.web.cursorLeft
      takePieces env fuel (rest - p) (takePiece env p r)

/-- The encoder position of the ENC record: lanes 0 and 1 as unsigned halves, when both are present (R10). -/
def encoderPosition (r : InputRecord) : Option (BitVec 32) :=
  match r.lanes.get 0, r.lanes.get 1 with
  | some hi, some lo => some (BitVec.ofNat 32 (toWord hi * 65536 + toWord lo))
  | _, _ => none

def trackEnv (s : State) (w : Fin 4) : TrackEnv := { web := w, params := s.params w, lead := s.isLead w }

/-- The outcome of encoder position `pos` (R11, Table 1-3) with the advance taken (R12). TRACK_GAP of an over-long advance
goes before the notices of its pieces: DESIGN CHOICE (log entry 33). -/
def takePosition (s : State) (w : Fin 4) (pos : BitVec 32) : TrackRun :=
  let t := s.track w
  let job := s.tracker.jobs.get (housingOf w)
  match t.encRef with
  | none => { web := { t with encRef := some pos }, job := job, out := [] }
  | some r =>
    let delta := (pos - r).toInt
    let t' := { t with encRef := some pos }
    let gap := if delta < 0 ∨ (s.params w).maxJump < delta then raise (.trackGap w (saturate16 delta)) else []
    takePieces (trackEnv s w) delta.toNat delta.toNat { web := t', job := job, out := gap }

/-- The state after an event of web `w`'s tracker. -/
def State.putTrackRun (s : State) (w : Fin 4) (r : TrackRun) : State :=
  { s with
    tracker := { webs := s.tracker.webs.set w r.web, jobs := s.tracker.jobs.set (housingOf w) r.job }
    signals := s.signals ++ r.out }

/-- ADVANCE (R10, R11, R12): no action in IDLE and BREAK, nor on a sample that carries no position. -/
def execAdvance (w : Fin 4) (s : State) : Host.Outcome State Fault Refusal :=
  event (fun s =>
    match inMotion (s.mode w), encoderPosition (s.record (encCh w)) with
    | true, some pos => s.putTrackRun w (takePosition s w pos)
    | _, _ => s) s

/-! ## Tracking start and queue emptying -/

/-- Step 1 of R9: promotion of a bank when none is ACTIVE. Only a VALID bank is promoted (Table 1-2); that neither is
VALID the manual holds to be impossible, and no bank is then made ACTIVE: DESIGN CHOICE (log entry 19). -/
def promoteBank (t : TrackWeb) : TrackWeb :=
  if t.activeBank.isSome then t
  else if t.bankA.state = .valid then { t with bankA := { t.bankA with state := .active } }
  else if t.bankB.state = .valid then { t with bankB := { t.bankB with state := .active } } else t

/-- Tracking start (R9): the queue then holds exactly the one record opened here. -/
def startTracking (p : WebParams) (t : TrackWeb) : TrackWeb :=
  let t1 := (promoteBank t).cursorToStart
  let t2 := { t1 with encRef := none, wash := 0, queue := [] }
  t2.opened (recordLoad p t2.currentRun t2.washOpen) (runMarker t2.currentRun)

/-- TRACKING_START (R9). -/
def execTrackingStart (w : Fin 4) (s : State) : Host.Outcome State Fault Refusal :=
  event (fun s => s.setTrack w (startTracking (s.params w) (s.track w))) s

/-- Whether a queue holds a lead-web JOBCUT marker whose CHILLIN station has not fired (R24). -/
def holdsOpenJobcut (q : List Segment) : Bool :=
  q.any fun seg => seg.marker.any fun m => m.isSwitch && decide (m.next ≤ 5)

/-- The tracking state after queue emptying (R24). -/
def emptyQueue (t : TrackWeb) : TrackWeb := { t with queue := [], wash := 0, encRef := none }

/-- The pending switch that an emptying of web `w` discards (R24): that of a lead-web marker in its queue, which such a
marker stays whatever web leads when the emptying is taken (R18, R67). -/
def discardedJob (s : State) (w : Fin 4) : Option Bank :=
  if holdsOpenJobcut (s.track w).queue then s.tracker.jobs.get (housingOf w) else none

/-- The queue emptying of web `w` with the discard rule (R24). -/
def emptyTracking (s : State) (w : Fin 4) : TrackRun :=
  match discardedJob s w with
  | some inc => { web := emptyQueue (s.track w), job := none, out := [.completionSignal (housingOf w) inc] }
  | none => { web := emptyQueue (s.track w), job := s.tracker.jobs.get (housingOf w), out := [] }

/-- QUEUE_EMPTYING (R24). -/
def execQueueEmptying (w : Fin 4) (s : State) : Host.Outcome State Fault Refusal :=
  event (fun s => s.putTrackRun w (emptyTracking s w)) s

/-! ## MARK (R18 to R21) -/

/-- A run's program marker discarded at a JOBCUT swap (R20). -/
def programDrop (w : Fin 4) (r : CoverageRun) : List Instr :=
  match r.marker with
  | none => []
  | some k => raise (.markerDropped w (.note k) .program)

/-- The bank swap of a JOBCUT (R20): the other bank ACTIVE, the old one VALID, the cursor at run 0. -/
def swapBanks (t : TrackWeb) : TrackWeb :=
  match t.activeBank with
  | none => t
  | some b =>
    let o := otherCovBank b
    ((t.setBank b { t.bank b with state := .valid }).setBank o { t.bank o with state := .active }).cursorToStart

/-- Placement of an accepted marker of kind `k` (R19, R21); `job` is the pending switch it carries when it is the
lead web's JOBCUT. A dropped request is reported after a dropped program marker: DESIGN CHOICE (log entry 30). -/
def placeMarker (env : TrackEnv) (k : MarkerKind) (r : TrackRun) : TrackRun :=
  let t := r.web
  let load := recordLoad env.params t.currentRun (t.washOpen || decide (k = .wash))
  let m : Marker := ⟨k, .request, 0, env.lead && decide (k = .jobcut)⟩
  match t.openRecord with
  | none => r
  | some o =>
    if o.length = 0 then
      { r with web := { t with queue := mapLast (fun seg => { seg with load := load, marker := some m }) t.queue } }
    else if t.queue.length < Config.queueRecords then { r with web := t.opened load (some m) }
    else if o.marker.isNone then
      { r with web := { t with queue := mapLast (fun seg =>
          { seg with load := max seg.load load, marker := some m }) t.queue } }
    else
      let merged := { t with queue := mapLast (fun seg => { seg with load := max seg.load load }) t.queue }
      let dropped := raise (.markerDropped env.web k .request)
      match r.job, m.isSwitch with
      | some inc, true =>
        { web := merged, job := none, out := r.out ++ dropped ++ [.completionSignal (housingOf env.web) inc] }
      | _, _ => { web := merged, job := r.job, out := r.out ++ dropped }

/-- What an accepted MARK does before its placement: a WASH opens the window (R17), a JOBCUT swaps the banks and
drops run 0's program marker (R20). Its notice goes before one of the placement: DESIGN CHOICE (log entry 30). -/
def prepareMark (env : TrackEnv) (k : MarkerKind) (job : Option Bank) (t : TrackWeb) : TrackRun :=
  if k = .wash then { web := { t with wash := env.params.washLength }, job := job, out := [] }
  else if k = .jobcut then
    let t' := swapBanks t
    { web := t', job := job, out := programDrop env.web t'.currentRun }
  else { web := t, job := job, out := [] }

/-- The reservation of the Profile Store (R70): the incoming bank it names, or no. -/
def reservation (p : ProfileHousing) : Option Bank :=
  let all := p.zones.items ++ p.dampers.items ++ p.chills.items
  if all.all (fun i => decide (i = some .p)) ∧ p.bankQ.state = .valid then some .q
  else if all.all (fun i => decide (i = some .q)) ∧ p.bankP.state = .valid then some .p else none

/-- The state with housing `h`'s switch record filled (R70). -/
def State.reserve (s : State) (h : Fin 2) (inc : Bank) : State :=
  { s with profiles := s.profiles.modify h fun p => { p with switch := some inc } }

/-- The web's coverage bank that is not ACTIVE, when one is ACTIVE (R18 check 4). -/
def spareBank (t : TrackWeb) : Option CoverageBank := t.activeBank.map fun b => t.bank (otherCovBank b)

/-- The acceptance of a MARK with the job switch then pending. -/
def acceptMark (w : Fin 4) (k : MarkerKind) (job : Option Bank) (s : State) : Answer :=
  let env := trackEnv s w
  done (s.putTrackRun w (placeMarker env k (prepareMark env k job (s.track w))))

/-- Checks 4 to 6 of R18 for a JOBCUT; on the lead web the last one is the reservation. -/
def markJobcut (w : Fin 4) (s : State) : Answer :=
  let h := housingOf w
  if ((spareBank (s.track w)).map CoverageBank.state) ≠ some .valid then refuse .state s
  else if s.isLead w then
    if (s.tracker.jobs.get h).isSome then refuse .busy s
    else
      match reservation (s.profiles.get h) with
      | none => refuse .state s
      | some inc => acceptMark w .jobcut (some inc) (s.reserve h inc)
  else acceptMark w .jobcut (s.tracker.jobs.get h) s

/-- MARK of kind `k` on web `w` (R18). A web whose tracking start has not been taken holds no open record; the
manual states no placement there and the request is refused with STATE: DESIGN CHOICE (log entry 9). -/
def markWeb (w : Fin 4) (k : MarkerKind) (s : State) : Answer :=
  if !inMotion (s.mode w) then refuse .state s
  else
    match (s.track w).openRecord with
    | none => refuse .state s
    | some o =>
      if o.length = 0 ∧ o.marker.isSome then refuse .busy s
      else if k = .jobcut then markJobcut w s
      else acceptMark w k (s.tracker.jobs.get (housingOf w)) s

/-- MARK (R18): web and kind are checked by the Decoder. -/
def execMark (rq : Request) (s : State) : Host.Outcome State Fault Refusal :=
  request 7 rq (indexed 4 fun w rest s =>
    match rest with
    | [] => refuse .range s
    | k :: _ =>
      match markerOfCode k.toNat with
      | none => refuse .range s
      | some k => markWeb w k s) s

/-! ## Stations (R4, R5) -/

/-- The field image of STATIONS: seven distances, the mask, the set flag (R181; log entry 12). -/
def stationWords (t : TrackWeb) : List Nat := t.stations.items ++ [t.mask.toNat, boolWord t.stationsSet]

/-- Step 3 of R5: strictly increasing, Z0in at least 100, every zone at least 500 long. -/
def stationsFit (d : Tab Nat 7) : Bool :=
  decide (100 ≤ d.get 0) && decide (d.get 0 + 500 ≤ d.get 1) && decide (d.get 1 + 500 ≤ d.get 2) &&
    decide (d.get 2 + 500 ≤ d.get 3) && decide (d.get 3 + 500 ≤ d.get 4) && decide (d.get 4 < d.get 5) &&
    decide (d.get 5 < d.get 6)

/-- The owner's judgement of a STATIONS write (R5). -/
def writeStations (w : Fin 4) (sp : Span) (s : State) : Answer :=
  let t := s.track w
  let ws := sp.apply (stationWords t)
  let d : Tab Nat 7 := Tab.ofFn fun i => ws.getD i.val 0
  let masked := { t with mask := BitVec.ofNat 7 (ws.getD 7 0) }
  if sp.covers 8 then refuse .check s
  else if sp.touches 0 7 && !sp.holds 0 7 then refuse .check s
  else if !sp.touches 0 7 then done (s.setTrack w masked)
  else if s.mode w ≠ .idle then refuse .state s
  else if d.items.any (fun x => decide (60000 < x)) then refuse .range s
  else if !stationsFit d then refuse .check s
  else done (s.setTrack w { masked with stations := d, stationsSet := true })

/-- WRITE_STATIONS (R5). -/
def execWriteStations (rq : Request) (s : State) : Host.Outcome State Fault Refusal :=
  request 2 rq (writeObject 4 9 writeStations) s

/-! ## Coverage banks (R6, R7) -/

def CoverageRun.words (r : CoverageRun) : List Nat := [r.length, r.load, runMarkerWord r.marker]

/-- The field image of a coverage bank (R6, R181). -/
def CoverageBank.words (b : CoverageBank) : List Nat :=
  [b.repeatLength, b.runCount] ++ b.runs.items.flatMap CoverageRun.words

/-- The contents read from an image; every accepted write leaves the bank INVALID (R6). -/
def CoverageBank.ofWords (ws : List Nat) : CoverageBank :=
  { repeatLength := ws.getD 0 0, runCount := ws.getD 1 0,
    runs := Tab.ofFn fun i =>
      ⟨ws.getD (2 + 3 * i.val) 0, ws.getD (3 + 3 * i.val) 0, runMarkerOfWord (ws.getD (4 + 3 * i.val) 0)⟩,
    state := .invalid }

/-- Ranges of R6, by word. -/
def coverageWordOk (i v : Nat) : Bool :=
  if i = 0 then within 200 2000 v
  else if i = 1 then within 1 32 v
  else if (i - 2) % 3 = 0 then within 5 4000 v
  else if (i - 2) % 3 = 1 then within 0 4000 v
  else within 0 7 v

/-- The web and the bank of a COVERAGE index 2w + bank (Table 11-7). -/
def coverageWeb (i : Fin 8) : Fin 4 := ⟨i.val / 2, by omega⟩
def coverageBankOf (i : Fin 8) : CovBank := if i.val % 2 = 0 then .a else .b

/-- The owner's judgement of a COVERAGE write (R6). -/
def writeCoverage (i : Fin 8) (sp : Span) (s : State) : Answer :=
  let w := coverageWeb i
  let t := s.track w
  let b := t.bank (coverageBankOf i)
  if b.state = .active then refuse .busy s
  else if s.mode w ≠ .idle ∧ t.activeBank = none then refuse .busy s
  else if !sp.inRange coverageWordOk then refuse .range s
  else done (s.setTrack w (t.setBank (coverageBankOf i) (CoverageBank.ofWords (sp.apply b.words))))

/-- WRITE_COVERAGE (R6). -/
def execWriteCoverage (rq : Request) (s : State) : Host.Outcome State Fault Refusal :=
  request 2 rq (writeObject 8 98 writeCoverage) s

/-- The conditions a bank must meet to become VALID (R7). -/
def coverageSound (b : CoverageBank) : Bool :=
  let used := b.runs.items.take b.runCount
  within 1 32 b.runCount && within 200 2000 b.repeatLength &&
    used.all (fun r => within 5 4000 r.length) && decide ((used.map CoverageRun.length).sum = b.repeatLength)

/-- VALIDATE of a coverage bank (R7). -/
def validateCoverage (i : Fin 8) (_ : List Byte) (s : State) : Answer :=
  let w := coverageWeb i
  let t := s.track w
  let b := t.bank (coverageBankOf i)
  if b.state ≠ .invalid then done s
  else if coverageSound b then done (s.setTrack w (t.setBank (coverageBankOf i) { b with state := .valid }))
  else refuse .check s

/-- VALIDATE_COVERAGE (R7). -/
def execValidateCoverage (rq : Request) (s : State) : Host.Outcome State Fault Refusal :=
  request 3 rq (indexed 8 validateCoverage) s

/-! ## Zone overlap sums (R25) -/

/-- The overlap of a record with the span `a` up to `b`. -/
def overlap (path : BitVec 32) (a b : Nat) (seg : Segment) : Nat :=
  min b (headDistance path seg.head) - max a (tailDistance path seg)

/-- Start and end of zone `z` (R4). -/
def zoneStart (t : TrackWeb) (z : Fin 4) : Nat := t.stations.get ⟨z.val, by omega⟩
def zoneEnd (t : TrackWeb) (z : Fin 4) : Nat := t.stations.get ⟨z.val + 1, by omega⟩

/-- The zone length L_z. -/
def zoneLength (t : TrackWeb) (z : Fin 4) : Nat := zoneEnd t z - zoneStart t z

/-- The covered sum. -/
def coveredSum (t : TrackWeb) (z : Fin 4) : Nat :=
  (t.queue.map (overlap t.path (zoneStart t z) (zoneEnd t z))).sum

/-- The weighted sum. -/
def weightedSum (t : TrackWeb) (z : Fin 4) : Nat :=
  (t.queue.map fun seg => seg.load * overlap t.path (zoneStart t z) (zoneEnd t z) seg).sum

end Sys2Proof.Machine
end

