-- ==== Sys2Proof/Machine/ZoneLoops.lean ====
section
/-! DEFINITION. The Zone Loops (chapter 5): web averages, set point, feedforward, trim and fan value, and the events
at a zone loop. -/

namespace Sys2Proof.Machine

/-! ## Web averages (R85) -/

/-- Whether web `w` contributes to its housing: it is in a motion mode (R85). -/
def State.contributes (s : State) (w : Fin 4) : Bool := inMotion (s.mode w)

/-- The average load of web `w` in zone `z`, mg/m² (R85). -/
def avgLoad (s : State) (w z : Fin 4) : Nat :=
  if s.contributes w then weightedSum (s.track w) z / zoneLength (s.track w) z else 0

/-- The solvent rate of web `w` in zone `z`, mg/s (R85). -/
def solventRate (s : State) (w z : Fin 4) : Nat :=
  avgLoad s w z * (s.params w).width * s.demandSpeed w / 1000000

/-! ## Set point and feedforward (R86 to R89) -/

/-- The bank ZONE(h, z) names. -/
def State.zoneBank (s : State) (h : Fin 2) (z : Fin 4) : Option Bank := (s.profiles.get h).zones.get z

/-- The set point of (h, z) and its source (R86). -/
def formSetPoint (s : State) (h : Fin 2) (z : Fin 4) : Nat × Source :=
  match s.rampValue (.zoneSp h z) with
  | some v => (v, .ramp)
  | none =>
    let a := firstWeb h
    let b := secondWeb h
    (interpolate (s.profile h (s.zoneBank h z)) z (max (s.demandSpeed a) (s.demandSpeed b))
        (max (avgLoad s a z) (avgLoad s b z)), sourceOf (s.zoneBank h z))

/-- The evaporation term (R87). -/
def formEvap (s : State) (h : Fin 2) (z : Fin 4) : Nat :=
  let p := s.profile h (s.zoneBank h z)
  (solventRate s (firstWeb h) z + solventRate s (secondWeb h) z) * p.share.get z * p.kEvap.get z / 256000

/-- The numerator of web `w`'s web-heating term with coefficient `b` (R88). -/
def heatNumerator (s : State) (w z : Fin 4) (b : Nat) : Nat :=
  s.demandSpeed w * (s.params w).width * coveredSum (s.track w) z * b

/-- The web-heating term (R88). -/
def formWebHeat (s : State) (h : Fin 2) (z : Fin 4) : Nat :=
  let k := (s.profile h (s.zoneBank h z)).bWeb.get z
  let wa := firstWeb h
  let wb := secondWeb h
  let na := heatNumerator s wa z k
  let nb := heatNumerator s wb z k
  let la := zoneLength (s.track wa) z
  let lb := zoneLength (s.track wb) z
  match s.contributes wa, s.contributes wb with
  | true, true => (na * lb + nb * la) / (1000000 * la * lb)
  | true, false => na / (1000000 * la)
  | false, true => nb / (1000000 * lb)
  | false, false => 0

/-- Steps 1 and 2 of R83: set point, source and feedforward, recorded in loop `l`. -/
def formLoop (s : State) (h : Fin 2) (z : Fin 4) (l : ZoneLoop) : ZoneLoop :=
  let sp := formSetPoint s h z
  let evap := formEvap s h z
  let web := formWebHeat s h z
  { l with setPoint := sp.1, source := sp.2, ffEvap := evap, ffWeb := web, ff := min 10000 (evap + web) }

/-! ## Trim authority and fan value (R92, R94) -/

/-- The factor the governing web's mode selects (R42, R92). -/
def governingFactor (s : State) (h : Fin 2) : Trim :=
  match s.governing h with
  | some g => trimFor (s.params g) (s.mode g)
  | none => .zero

/-- Whether the governing web is in CRAWL or RUN. -/
def governingMoves (s : State) (h : Fin 2) : Bool :=
  match s.governing h with
  | some g => moving (s.mode g)
  | none => false

/-- The FAN schedule (R94). -/
def formFan (s : State) (h : Fin 2) (z : Fin 4) : Nat :=
  match s.rampValue (.fan h z) with
  | some v => v
  | none =>
    let p := s.profile h (s.zoneBank h z)
    if governingMoves s h then p.fanRun.get z else p.fanStandby.get z

/-- Steps 7 and 8 of R83: the HEAT and FAN schedules from the trim and feedforward in loop `l`. -/
def scheduleLoop (s : State) (h : Fin 2) (z : Fin 4) (l : ZoneLoop) : ZoneLoop :=
  let f := governingFactor s h
  { l with factor := f, heat := schedule 0 l.ff (scaleTrim f l.lastTrim), fan := formFan s h z }

/-- Step 9 of R83. -/
def handLoop (h : Fin 2) (z : Fin 4) (l : ZoneLoop) : List Instr :=
  [.scheduleValue (heatOut h z) [l.heat], .scheduleValue (fanOut h z) [l.fan]]

/-- A computation of the loop of (h, z) from the part as the event reads it, `view`: set point and feedforward are
formed, `trimmed` gives the trim to use, and the schedules are formed and handed. A dark housing's loop does nothing
(R82). -/
def computeFrom (view : State) (h : Fin 2) (z : Fin 4) (trimmed : ZoneLoop → ZoneLoop) (s : State) : State :=
  if s.dark h then s
  else
    let l := scheduleLoop view h z (trimmed (formLoop view h z (s.loops.get (loopIx h z))))
    { s with loops := s.loops.set (loopIx h z) l, signals := s.signals ++ handLoop h z l }

/-- A computation from the part as it stands. -/
def computeLoop (h : Fin 2) (z : Fin 4) (trimmed : ZoneLoop → ZoneLoop) (s : State) : State :=
  computeFrom s h z trimmed s

/-! ## Events (Table 5-2) -/

/-- Steps 4 to 6 of R83 at air temperature `t`. -/
def updateTrim (t : Int) (l : ZoneLoop) : ZoneLoop :=
  let e := saturate16 (l.setPoint - t)
  let p := proportional l.kp e
  let acc := integrate l.ki l.iLimit 0 l.heat e l.iAcc
  { l with lastE := e, lastP := p, iAcc := acc, lastTrim := p + integralTerm acc }

/-- The trim without its proportional term (R84, R93). -/
def dropProportional (l : ZoneLoop) : ZoneLoop := { l with lastP := 0, lastTrim := integralTerm l.iAcc }

/-- The state of the ZAIR(h, z) record. -/
def State.zairFresh (s : State) (h : Fin 2) (z : Fin 4) : Bool := (s.record (zairCh h z)).fresh

/-- FULL_UPDATE (R83): an update whose record has no mean is skipped (R57). -/
def execFullUpdate (h : Fin 2) (z : Fin 4) (s : State) : Host.Outcome State Fault Refusal :=
  event (fun s =>
    match (s.record (zairCh h z)).mean with
    | some t => computeLoop h z (updateTrim t) s
    | none => s) s

/-- FEEDFORWARD_REFRESH (R84). -/
def execFeedforwardRefresh (h : Fin 2) (z : Fin 4) (s : State) : Host.Outcome State Fault Refusal :=
  event (fun s => computeLoop h z (if s.zairFresh h z then id else dropProportional) s) s

/-- ZAIR_STALE (R93). -/
def execZairStale (h : Fin 2) (z : Fin 4) (s : State) : Host.Outcome State Fault Refusal :=
  event (computeLoop h z dropProportional) s

/-- ZONE_RAMP_SIGNAL (R95): with the ramp values of both targets of (h, z) as they stand after the signal. -/
def execZoneRampSignal (h : Fin 2) (told : ZoneRamp) (s : State) : Host.Outcome State Fault Refusal :=
  let z := told.zone
  event (fun s => computeFrom ((s.told (.zoneSp h z) told.setPoint).told (.fan h z) told.fan) h z id s) s

/-- The trim that a factor turns into `d`; factor 0 counts as 1 (R96 steps 2 to 4). -/
def requiredTrim (f : Trim) (d : Int) : Int :=
  match f with
  | .half => 2 * d
  | .two => shiftRight d 1
  | _ => d

/-- Steps 3 to 6 of R96: the integrator preset so that the schedule continues from `v`. -/
def presetLoop (f : Trim) (fresh : Bool) (v : Nat) (l : ZoneLoop) : ZoneLoop :=
  let p := if fresh then l.lastP else 0
  let acc := boundAcc l.iLimit ((requiredTrim f ((v : Int) - l.ff) - p) * 4096)
  { l with lastP := p, iAcc := acc, lastTrim := p + integralTerm acc }

/-- OPERATOR_RETURN (R96). -/
def execOperatorReturn (h : Fin 2) (z : Fin 4) (value : Nat) (s : State) : Host.Outcome State Fault Refusal :=
  event (fun s => computeLoop h z (presetLoop (governingFactor s h) (s.zairFresh h z) value) s) s

/-- The loop with its trim started afresh (R97). -/
def clearTrim (l : ZoneLoop) : ZoneLoop := { l with iAcc := 0, lastP := 0, lastTrim := 0 }

/-- PROTECTIVE_RETURN (R97). -/
def execProtectiveReturn (h : Fin 2) (z : Fin 4) (_left : Level) (s : State) : Host.Outcome State Fault Refusal :=
  event (computeLoop h z clearTrim) s

/-! ## WRITE of LOOP (R81, R114) -/

/-- Ranges of a LOOP write, by word: Kp, Ki, I_limit. -/
def loopWordOk (i v : Nat) : Bool := if i < 2 then within 0 1000 v else within 0 10000 v

/-- A zone loop with new parameters; when I_limit is among those carried the integrator is re-clamped (R81). -/
def retuneLoop (l : ZoneLoop) (ws : List Nat) (limited : Bool) : ZoneLoop :=
  let acc := boundAcc (ws.getD 2 0) l.iAcc
  { l with
    kp := ws.getD 0 0
    ki := ws.getD 1 0
    iLimit := ws.getD 2 0
    iAcc := if limited then acc else l.iAcc
    lastTrim := if limited then l.lastP + integralTerm acc else l.lastTrim }

/-- A circuit B loop with new parameters, in the same way (R114). -/
def retuneChill (f : Finishing) (ws : List Nat) (limited : Bool) : Finishing :=
  let acc := boundAcc (ws.getD 2 0) f.iAcc
  { f with
    kp := ws.getD 0 0
    ki := ws.getD 1 0
    iLimit := ws.getD 2 0
    iAcc := if limited then acc else f.iAcc
    lastTrim := if limited then f.lastP + integralTerm acc else f.lastTrim }

/-- The owner's judgement of a LOOP write, by zone loop or by web (Table 11-7). -/
def writeLoop (i : Fin 12) (sp : Span) (s : State) : Answer :=
  if !sp.inRange loopWordOk then refuse .range s
  else if hz : i.val < 8 then
    let j : Fin 8 := ⟨i.val, hz⟩
    let l := s.loops.get j
    done { s with loops := s.loops.set j (retuneLoop l (sp.apply [l.kp, l.ki, l.iLimit]) (sp.covers 2)) }
  else
    let w : Fin 4 := ⟨i.val - 8, by omega⟩
    let f := s.finishing.get w
    done { s with finishing := s.finishing.set w (retuneChill f (sp.apply [f.kp, f.ki, f.iLimit]) (sp.covers 2)) }

/-- WRITE_LOOP (R81, R114). -/
def execWriteLoop (rq : Request) (s : State) : Host.Outcome State Fault Refusal :=
  request 2 rq (writeObject 12 3 writeLoop) s

end Sys2Proof.Machine
end

