-- ==== Sys2Proof/Machine/Monitor.lean ====
section
/-! DEFINITION. The Solvent Monitor (chapter 7): the exhaust schedule, LIMIT, trips and the trip latch, CLEAR_TRIP,
the purge timer, and the WRITE of housing parameters. -/

namespace Sys2Proof.Machine

/-- The state with housing `h`'s monitor replaced and signals sent. -/
def State.putMonitor (s : State) (h : Fin 2) (m : Monitor) (cs : List Instr) : State :=
  { s with monitors := s.monitors.set h m, signals := s.signals ++ cs }

/-! ## Readings (R120) -/

/-- The LEL value: lane 0 of the LEL record clamped to 0..1000, when present. -/
def lelValue (s : State) (h : Fin 2) : Option Nat :=
  (s.record (lelCh h)).lane0.map fun x => (clampInt x 0 1000).toNat

/-! ## Exhaust (R121) -/

/-- The solvent total: weighted over zones and webs, one floor on the whole sum. -/
def solventTotal (s : State) (h : Fin 2) : Nat :=
  ((List.finRange 4).map fun z =>
    (solventRate s (firstWeb h) z + solventRate s (secondWeb h) z) *
      (s.profile h (s.zoneBank h z)).share.get z).sum / 256

/-- The LEL term. -/
def lelTermOf (p : HousingParams) (lel : Option Nat) : Nat :=
  match lel with
  | some v => (((v : Int) - p.lelTarget) * p.kLel / 16).toNat
  | none => 0

/-- The exhaust record of a computation. -/
def formExhaust (s : State) (h : Fin 2) : ExhaustRecord :=
  let p := s.housing h
  let total := solventTotal s h
  let lel := lelValue s h
  let term := lelTermOf p lel
  { total := total, lel := lel, lelTerm := term, exh := min Config.outputMax (p.eBase + total * p.kExh / 1000 + term) }

/-- The exhaust computation of a monitor record, with the value handed. -/
def exhaustStep (s : State) (h : Fin 2) (m : Monitor) : Monitor × List Instr :=
  let x := formExhaust s h
  ({ m with exhaust := x }, [.scheduleValue (exhOut h) [x.exh]])

/-! ## LIMIT (R122) -/

/-- The LIMIT judgement at LEL value `v`. -/
def limitStep (h : Fin 2) (v : Nat) (m : Monitor) : Monitor × List Instr :=
  if m.limitOn = false ∧ m.params.lelLimit ≤ v then
    ({ m with limitOn := true }, (housingChannels h).map (fun ch => Instr.claim ch .lel []) ++ raise (.limitOn h v))
  else if m.limitOn = true ∧ v ≤ m.params.lelClear then
    ({ m with limitOn := false },
      (housingChannels h).map (fun ch => Instr.holderRelease ch .lel) ++ raise (.limitOff h v))
  else (m, [])

/-! ## Trips (R123) -/

/-- A trip event of cause `c` with the reading that tripped. -/
def tripStep (h : Fin 2) (c : TripCause) (reading : Option Int) (m : Monitor) : Monitor × List Instr :=
  let set := if m.latch then m.causes ||| causeBit c else causeBit c
  let known := m.latch && decide (m.causes &&& causeBit c ≠ 0)
  ({ m with latch := true, causes := set },
    (if known then [] else raise (.trip h set reading)) ++
      (housingChannels h).map fun ch => Instr.claim ch (.cause c) [])

/-- A step of the monitor done when `b` holds. -/
def stepIf (b : Bool) (f : Monitor → Monitor × List Instr) (r : Monitor × List Instr) : Monitor × List Instr :=
  if b then ((f r.1).1, r.2 ++ (f r.1).2) else r

/-- An event of the monitor of `h` in a lit housing; a dark housing's takes no action (Table 7-2). -/
def monitorEvent (h : Fin 2) (f : State → Monitor → Monitor × List Instr) (s : State) : State :=
  if s.dark h then s
  else
    let r := f s (s.monitors.get h)
    s.putMonitor h r.1 r.2

/-! ## Events (Table 7-2) -/

/-- An LEL arrival: exhaust, LIMIT, trip check. Given as a command while the record has no lane 0, it forms the
exhaust alone: DESIGN CHOICE (log entry 25). -/
def takeLel (h : Fin 2) (s : State) (m : Monitor) : Monitor × List Instr :=
  let r := exhaustStep s h m
  match lelValue s h with
  | some v =>
    stepIf (decide (m.params.lelTrip ≤ v)) (tripStep h .lelHigh (some v)) (stepIf true (limitStep h v) r)
  | none => r

/-- LEL_ARRIVAL (R121, R122, R123). -/
def execLelArrival (h : Fin 2) (s : State) : Host.Outcome State Fault Refusal :=
  event (monitorEvent h (takeLel h)) s

/-- An ENC arrival: exhaust, stale LEL check. -/
def takeMonitorEnc (h : Fin 2) (s : State) (m : Monitor) : Monitor × List Instr :=
  stepIf (!(s.record (lelCh h)).fresh) (tripStep h .lelStale none) (exhaustStep s h m)

/-- MONITOR_ENC_ARRIVAL (R121, R123). -/
def execMonitorEncArrival (h : Fin 2) (s : State) : Host.Outcome State Fault Refusal :=
  event (monitorEvent h (takeMonitorEnc h)) s

/-- A temperature judged against a trip temperature: a trip event at or above it. Without a lane 0 nothing is judged:
DESIGN CHOICE (log entry 25). -/
def takeTemperature (h : Fin 2) (c : TripCause) (trip : Nat) (t : Option Int) (m : Monitor) :
    Monitor × List Instr :=
  match t with
  | some x => stepIf (decide ((trip : Int) ≤ x)) (tripStep h c (some x)) (m, [])
  | none => (m, [])

/-- ZAIR_TRIP_CHECK (R123). -/
def execZairTripCheck (h : Fin 2) (z : Fin 4) (s : State) : Host.Outcome State Fault Refusal :=
  event (monitorEvent h fun s m => takeTemperature h (.zone z) m.params.zoneTrip (s.record (zairCh h z)).lane0 m) s

/-- EXHT_ARRIVAL (R123). -/
def execExhtArrival (h : Fin 2) (s : State) : Host.Outcome State Fault Refusal :=
  event (monitorEvent h fun s m => takeTemperature h .exhHigh m.params.exhTrip (s.record (exhtCh h)).lane0 m) s

/-- LEL_STALE (R123). -/
def execLelStale (h : Fin 2) (s : State) : Host.Outcome State Fault Refusal :=
  event (monitorEvent h fun _ m => tripStep h .lelStale none m) s

/-! ## CLEAR_TRIP (R125) -/

/-- Whether a temperature record allows a clear: no lane, or below the trip temperature. -/
def coolEnough (trip : Nat) (r : InputRecord) : Bool :=
  match r.lane0 with
  | some x => decide (x < (trip : Int))
  | none => true

/-- Number of the first condition of R125 that fails. -/
def clearFailure (s : State) (h : Fin 2) : Option Nat :=
  let m := s.monitors.get h
  if !m.latch then some 1
  else if !(s.record (lelCh h)).fresh then some 2
  else if !((lelValue s h).any fun v => decide (v < m.params.lelLimit)) then some 3
  else if !((List.finRange 4).all fun z => coolEnough m.params.zoneTrip (s.record (zairCh h z))) then some 4
  else if !coolEnough m.params.exhTrip (s.record (exhtCh h)) then some 5 else none

/-- The releases of every cause of a set on the nine channels. -/
def causeReleases (h : Fin 2) (causes : BitVec 7) : List Instr :=
  (causesOf causes).flatMap fun c => (housingChannels h).map fun ch => Instr.holderRelease ch (.cause c)

/-- CLEAR_TRIP of housing `h` (R125). -/
def clearTripHousing (h : Fin 2) (_ : List Byte) (s : State) : Answer :=
  let m := s.monitors.get h
  match clearFailure s h with
  | some n => refuseWith .state [byteOf n] s
  | none => done (s.putMonitor h { m with latch := false, causes := 0 }
      (causeReleases h m.causes ++ raise (.tripCleared h m.causes)))

/-- CLEAR_TRIP (R125). -/
def execClearTrip (rq : Request) (s : State) : Host.Outcome State Fault Refusal :=
  request 9 rq (indexed 2 clearTripHousing) s

/-! ## The purge timer (R127, R128) -/

/-- A dwell of the housing in ms. -/
def purgeMs (p : HousingParams) : Nat := p.purgeDwell * 1000

/-- PURGE_CLAIM_SIGNAL (R127). -/
def execPurgeClaimSignal (h : Fin 2) (s : State) : Host.Outcome State Fault Refusal :=
  event (fun s =>
    let m := s.monitors.get h
    s.putMonitor h { m with purge := some (after s.now (purgeMs m.params)) } []) s

/-- Whether a timer is running and its expiry time has been reached. -/
def timerDue (now : PartTime) (t : Option PartTime) : Bool := t.any (reached now)

/-- PURGE_TIMER_EXPIRY (R128): a timer that is stopped, or was restarted, does not expire. -/
def execPurgeTimerExpiry (h : Fin 2) (s : State) : Host.Outcome State Fault Refusal :=
  event (fun s =>
    let m := s.monitors.get h
    if timerDue s.now m.purge then s.putMonitor h { m with purge := none } [.dwellEnd h] else s) s

/-! ## WRITE of HOUSING_PARAM (R118) -/

/-- The field image of the housing parameters (Table 7-1, R181). -/
def HousingParams.words (p : HousingParams) : List Nat :=
  [p.lelTarget, p.lelClear, p.lelLimit, p.lelTrip, p.zoneTrip, p.exhTrip, p.purgeDwell, p.eBase, p.kExh, p.kLel,
    p.tLead, p.returnLimit, leadCode p.lead]

def HousingParams.ofWords (ws : List Nat) : HousingParams :=
  { lelTarget := ws.getD 0 0, lelClear := ws.getD 1 0, lelLimit := ws.getD 2 0, lelTrip := ws.getD 3 0,
    zoneTrip := ws.getD 4 0, exhTrip := ws.getD 5 0, purgeDwell := ws.getD 6 0, eBase := ws.getD 7 0,
    kExh := ws.getD 8 0, kLel := ws.getD 9 0, tLead := ws.getD 10 0, returnLimit := ws.getD 11 0,
    lead := leadOfCode (ws.getD 12 0) }

/-- Ranges of Table 7-1, by word. -/
def housingParamWordOk (i v : Nat) : Bool :=
  if i < 4 then within 0 1000 v
  else if i < 6 then within 0 32767 v
  else if i = 6 then within 5 600 v
  else if i < 10 then within 0 10000 v
  else if i = 10 then within 0 30 v
  else if i = 11 then within 0 1600 v
  else within 0 1 v

/-- Whether thresholds and purge dwell are in order (R118 check 3). -/
def thresholdsOk (p : HousingParams) : Bool :=
  decide (p.lelClear < p.lelLimit) && decide (p.lelLimit < p.lelTrip) && within 5 600 p.purgeDwell

/-- The owner's judgement of a HOUSING_PARAM write (R118). -/
def writeHousingParam (h : Fin 2) (sp : Span) (s : State) : Answer :=
  let m := s.monitors.get h
  let new := HousingParams.ofWords (sp.apply m.params.words)
  if !sp.inRange housingParamWordOk then refuse .range s
  else if new.lead ≠ m.params.lead ∧ s.lit h then refuse .state s
  else if sp.touches 1 3 && !thresholdsOk new then refuse .check s
  else done (s.putMonitor h { m with params := new } [])

/-- WRITE_HOUSING_PARAM (R118). -/
def execWriteHousingParam (rq : Request) (s : State) : Host.Outcome State Fault Refusal :=
  request 2 rq (writeObject 2 13 writeHousingParam) s

end Sys2Proof.Machine
end

