-- ==== Sys2Proof/Machine/Movement.lean ====
section
/-! DEFINITION. One output channel: the top of its authority stack, its target and output (R134, R139, R140), the
movement timer (R141), and the end of every event at the Authority Arbiter (R140 to R142). -/

namespace Sys2Proof.Machine

/-! ## Top, target and output -/

/-- The level of the entry at place `i` of the stack. -/
def levelAt (i : Fin 4) : Level :=
  if i = 0 then .operator else if i = 1 then .limit else if i = 2 then .brk else .trip

/-- The place of the highest entry above SCHEDULE (R134). -/
def OutputChannel.topIx (o : OutputChannel) : Option (Fin 4) :=
  if (o.entries.get 3).isSome then some 3
  else if (o.entries.get 2).isSome then some 2
  else if (o.entries.get 1).isSome then some 1
  else if (o.entries.get 0).isSome then some 0 else none

/-- The top level. -/
def OutputChannel.top (o : OutputChannel) : Level :=
  match o.topIx with
  | some i => levelAt i
  | none => .schedule

/-- The target under SCHEDULE: the return hold value while it is set (R142). -/
def OutputChannel.scheduleTarget (o : OutputChannel) : Lanes :=
  match o.returnHold with
  | some v => [v]
  | none => o.schedule

/-- The target (R139). -/
def OutputChannel.target (o : OutputChannel) : Lanes :=
  match o.topIx with
  | some i =>
    match o.entries.get i with
    | some e => e.value
    | none => o.scheduleTarget
  | none => o.scheduleTarget

/-- Whether the output is the target at once: BREAK or TRIP on top, or no slew limit (R140). -/
def OutputChannel.jumps (o : OutputChannel) : Bool :=
  decide (o.top = .brk) || decide (o.top = .trip) || decide (o.binding.slew = 0)

/-- A lane moved from `a` toward `b` by `d`, stopping at `b`. -/
def moveLane (d a b : Nat) : Nat := if a ≤ b then min b (a + d) else max b (a - d)

/-- The units a lane may have moved `el` ms after the origin time. -/
def movedBy (slew el : Nat) : Nat := slew * el / 1000

/-- The output at part time `now` (R140). -/
def OutputChannel.output (o : OutputChannel) (now : PartTime) : Lanes :=
  if o.jumps then o.target
  else List.zipWith (moveLane (movedBy o.binding.slew (elapsed now o.originTime))) o.originValue o.target

/-! ## The movement timer (R141) -/

/-- Whether two lane values differ by at least the deadband and by at least 1 (R141, R166). -/
def differs (deadband x y : Nat) : Bool := decide (max deadband 1 ≤ ((x : Int) - y).natAbs)

/-- Whether some lane differs so. -/
def lanesDiffer (deadband : Nat) (xs ys : Lanes) : Bool := (List.zipWith (differs deadband) xs ys).any id

/-- The ms after the origin time at which a lane moving from `a` to `b` first differs from its last-sent value `ls`,
not before `el`; none when it reaches its target first. Reaching the difference at the target itself counts:
DEDUCED (log entry 18). -/
def laneExpiry (slew deadband el a b ls : Nat) : Option Nat :=
  if differs deadband (moveLane (movedBy slew el) a b) ls then some el
  else
    let need : Int := (if a ≤ b then (ls : Int) - a else (a : Int) - ls) + max deadband 1
    if need ≤ ((b : Int) - a).natAbs then some ((need.toNat * 1000 + (slew - 1)) / slew) else none

/-- The least of a list of optional numbers. -/
def earliest : List (Option Nat) → Option Nat
  | [] => none
  | none :: rest => earliest rest
  | some x :: rest => some (match earliest rest with | some y => min x y | none => x)

/-- The expiries of the lanes in order. -/
def laneExpiries (slew deadband el : Nat) : Lanes → Lanes → Lanes → List (Option Nat)
  | a :: as, b :: bs, l :: ls => laneExpiry slew deadband el a b l :: laneExpiries slew deadband el as bs ls
  | _, _, _ => []

/-- The movement timer of a channel whose last-sent lanes are `ls`, computed at `now` (R141). -/
def OutputChannel.movement (o : OutputChannel) (now : PartTime) (ls : Option Lanes) : Option PartTime :=
  match ls with
  | none => none
  | some ls =>
    if o.active && !o.jumps && decide (o.output now ≠ o.target) then
      (earliest (laneExpiries o.binding.slew o.binding.deadband (elapsed now o.originTime)
        o.originValue o.target ls)).map (after o.originTime)
    else none

/-- The channel with its movement timer computed anew. -/
def OutputChannel.retimed (o : OutputChannel) (now : PartTime) (ls : Option Lanes) : OutputChannel :=
  { o with moveTimer := o.movement now ls }

/-! ## The end of an event (R140, R142) -/

/-- Whether an event changed target, top or slew limit. -/
def retargets (o o' : OutputChannel) : Bool :=
  decide (o'.target ≠ o.target) || decide (o'.top ≠ o.top) || decide (o'.binding.slew ≠ o.binding.slew)

/-- The movement origin set at an event: the output of before it, or the new target under a jump (R140). -/
def setOrigin (now : PartTime) (o o' : OutputChannel) : OutputChannel :=
  { o' with originValue := if o'.jumps then o'.target else o.output now, originTime := now }

/-- The zone loop of a HEAT channel. -/
def heatZone (ch : Fin 30) : Option (Fin 2 × Fin 4) :=
  match outRole ch with
  | .heat h z => some (h, z)
  | _ => none

/-- The return hold after an event: set when the top of a HEAT channel falls to SCHEDULE, clear above it (R142). -/
def holdAfter (ch : Fin 30) (now : PartTime) (o o' : OutputChannel) : Option Nat :=
  if o'.top ≠ .schedule then none
  else if o.top ≠ .schedule ∧ (heatZone ch).isSome then some ((o.output now).headD 0)
  else o'.returnHold

/-- The signal to the zone loop when the top of a HEAT channel falls to SCHEDULE (R142). -/
def returnSignal (ch : Fin 30) (o o' : OutputChannel) : List Instr :=
  match heatZone ch with
  | some (h, z) =>
    if o'.top = .schedule ∧ o.top = .operator then [.operatorReturn h z (o.target.headD 0)]
    else if o'.top = .schedule ∧ o.top ≠ .schedule then [.protectiveReturn h z o.top] else []
  | none => []

/-- What an event that leaves channel `o` as `o'` signals: a change of top, a return, an output changed by a jump
(R141, R142). -/
def eventSignals (ch : Fin 30) (now : PartTime) (o o' : OutputChannel) : List Instr :=
  (if o'.top ≠ o.top then [.topChange ch] ++ returnSignal ch o o' else []) ++
    (if o'.jumps && decide (o'.target ≠ o.output now) then [.outputChange ch] else [])

/-- The channel at the end of an event that turned `o` into `o'`: return hold, origin and movement timer. `again`
asks for the timer to be computed anew though the origin stands. -/
def closeEvent (ch : Fin 30) (now : PartTime) (ls : Option Lanes) (again : Bool) (o o' : OutputChannel) :
    OutputChannel :=
  let o1 := { o' with returnHold := holdAfter ch now o o' }
  if retargets o o1 then (setOrigin now o o1).retimed now ls
  else if again then o1.retimed now ls else o1

/-- The last-sent lanes of a channel. -/
def State.lastSent (s : State) (ch : Fin 30) : Option Lanes := (s.emission.records.get ch).lastSent

/-- The state with channel `ch` replaced and signals sent. -/
def State.putOutput (s : State) (ch : Fin 30) (o : OutputChannel) (cs : List Instr) : State :=
  { s with outputs := s.outputs.set ch o, signals := s.signals ++ cs }

/-- The state after an event at channel `ch` that turned it into `o'`, with further signals `cs`. -/
def State.endEvent (s : State) (ch : Fin 30) (again : Bool) (o' : OutputChannel) (cs : List Instr) : State :=
  let o := s.outputs.get ch
  let c := closeEvent ch s.now (s.lastSent ch) again o o'
  s.putOutput ch c (cs ++ eventSignals ch s.now o c)

end Sys2Proof.Machine
end

