-- ==== Sys2Proof/Machine/Authority.lean ====
section
/-! DEFINITION. The Authority Arbiter (chapter 8): claims, releases and dwell ends, SCHEDULE values, activity, the
movement timer's expiry, OVERRIDE and RELEASE, and the WRITEs of bindings and of the protection table. -/

namespace Sys2Proof.Machine

/-! ## Claims (R136) -/

/-- The source and value of a new entry above SCHEDULE of `party` (R136). -/
def entryValue (ch : Fin 30) (now : PartTime) (o : OutputChannel) (party : Party) (values : Lanes) :
    ValueSource × Lanes :=
  let kept (i : Fin 3) : ValueSource × Lanes :=
    match o.protection.get i with
    | some p => (.park, List.replicate (laneCount ch) p)
    | none => (.held, o.output now)
  match party with
  | .operator => (.stored, fitLanes (laneCount ch) values)
  | .lel => kept 0
  | .web _ => kept 1
  | .cause _ => kept 2

/-- The entry a claim leaves at its level (R136). -/
def claimedEntry (ch : Fin 30) (now : PartTime) (o : OutputChannel) (party : Party) (values : Lanes) : Entry :=
  let v := entryValue ch now o party values
  match o.entries.get (partyIx party) with
  | none => { holders := partyBit party, source := v.1, value := v.2, claimTime := now, releasePending := false }
  | some e =>
    { e with
      holders := e.holders ||| partyBit party
      value := if party = .operator then v.2 else e.value
      claimTime := now
      releasePending := false }

/-- Whether a party is a web: its claim is a BREAK claim. -/
def isWebParty : Party → Bool
  | .web _ => true
  | _ => false

/-- Whether a party claims at BREAK or TRIP. -/
def isProtective (p : Party) : Bool := decide (partyLevel p = .brk) || decide (partyLevel p = .trip)

/-- The dwell timer after a claim: a BREAK claim on a DAMP or CHILL channel starts it (R134, R136). -/
def claimedDwell (ch : Fin 30) (party : Party) (o : OutputChannel) (s : State) : Option PartTime :=
  if isWebParty party && !isHousingChannel ch then some (after s.now (purgeMs (s.housing (channelHousing ch))))
  else o.dwell

/-- The signal of a claim to the Solvent Monitor (R136, R127). -/
def claimSignals (ch : Fin 30) (party : Party) : List Instr :=
  if isProtective party && isHousingChannel ch then [.purgeClaimSignal (channelHousing ch)] else []

/-- A claim taken (R136). -/
def takeClaim (ch : Fin 30) (party : Party) (values : Lanes) (s : State) : State :=
  let o := s.outputs.get ch
  s.endEvent ch false
    { o with
      entries := o.entries.set (partyIx party) (some (claimedEntry ch s.now o party values))
      dwell := claimedDwell ch party o s }
    (claimSignals ch party)

/-- CLAIM (R136). -/
def execClaim (ch : Fin 30) (party : Party) (values : Lanes) (s : State) : Host.Outcome State Fault Refusal :=
  event (takeClaim ch party values) s

/-! ## Releases and dwell ends (R137, R138) -/

/-- Whether the dwell of a channel's BREAK and TRIP entries has ended: its timer is stopped (R134). -/
def dwellOver (ch : Fin 30) (s : State) : Bool :=
  if isHousingChannel ch then (s.monitors.get (channelHousing ch)).purge.isNone else (s.outputs.get ch).dwell.isNone

/-- What a release leaves of entry `e` (R137). -/
def releasedEntry (ch : Fin 30) (party : Party) (s : State) (e : Entry) : Option Entry :=
  let left := e.holders &&& ~~~ partyBit party
  if left ≠ 0 then some { e with holders := left }
  else if isProtective party && !dwellOver ch s then some { e with holders := 0, releasePending := true }
  else none

/-- A release taken (R137). -/
def takeRelease (ch : Fin 30) (party : Party) (s : State) : State :=
  let o := s.outputs.get ch
  match o.entries.get (partyIx party) with
  | none => s
  | some e =>
    if e.holders &&& partyBit party = 0 then s
    else s.endEvent ch false { o with entries := o.entries.set (partyIx party) (releasedEntry ch party s e) } []

/-- HOLDER_RELEASE (R137). -/
def execHolderRelease (ch : Fin 30) (party : Party) (s : State) : Host.Outcome State Fault Refusal :=
  event (takeRelease ch party) s

/-- An entry at the end of its dwell: a release-pending one leaves (R138). -/
def dwellEnded (e : Option Entry) : Option Entry := e.filter fun x => !x.releasePending

/-- The BREAK and TRIP entries of a channel at the end of their dwell (R138). Both release-pending, they leave as one
top change, from TRIP: DESIGN CHOICE (log entry 26). -/
def endDwell (ch : Fin 30) (s : State) : State :=
  let o := s.outputs.get ch
  s.endEvent ch false
    { o with entries := (o.entries.set 2 (dwellEnded (o.entries.get 2))).set 3 (dwellEnded (o.entries.get 3)) } []

/-- DWELL_END (R138): judged from the purge timer as it stands (R134), so a timer started again since the signal was
given keeps the entries. -/
def execDwellEnd (h : Fin 2) (s : State) : Host.Outcome State Fault Refusal :=
  event (fun s =>
    if (s.monitors.get h).purge.isNone then (housingChannels h).foldl (fun s ch => endDwell ch s) s else s) s

/-- DWELL_TIMER_EXPIRY (R138): the BREAK entry of a DAMP or CHILL channel. -/
def execDwellTimerExpiry (ch : Fin 30) (s : State) : Host.Outcome State Fault Refusal :=
  event (fun s =>
    let o := s.outputs.get ch
    if timerDue s.now o.dwell then
      s.endEvent ch false { o with dwell := none, entries := o.entries.set 2 (dwellEnded (o.entries.get 2)) } []
    else s) s

/-! ## SCHEDULE values (R143) -/

/-- A SCHEDULE value taken: stored, with the return hold cleared (R143). -/
def takeSchedule (ch : Fin 30) (values : Lanes) (s : State) : State :=
  s.endEvent ch false
    { s.outputs.get ch with schedule := fitLanes (laneCount ch) values, returnHold := none } []

/-- SCHEDULE_VALUE (R143). -/
def execScheduleValue (ch : Fin 30) (values : Lanes) (s : State) : Host.Outcome State Fault Refusal :=
  event (takeSchedule ch values) s

/-! ## Activity (R133) -/

/-- Whether the owner of a channel is live. -/
def ownerLive (s : State) (ch : Fin 30) : Bool :=
  match outRole ch with
  | .heat h _ => s.lit h
  | .fan h _ => s.lit h
  | .exh h => s.lit h
  | .damp w => decide (s.mode w ≠ .idle)
  | .chillA w => decide (s.mode w ≠ .idle)
  | .chillB w => decide (s.mode w ≠ .idle)

/-- Whether the channel is active by its binding and its owner (R133). -/
def judgedActive (s : State) (ch : Fin 30) (b : Binding) : Bool := b.bound && ownerLive s ch

/-- The signal of a change of activity to the Emission Arbiter (R133). -/
def activitySignals (ch : Fin 30) (old new : Bool) : List Instr :=
  if new && !old then [.channelActive ch] else if old && !new then [.channelInactive ch] else []

/-- A channel's activity judged anew: a change starts or stops its movement timer (R133, R141). -/
def rejudge (ch : Fin 30) (s : State) : State :=
  let o := s.outputs.get ch
  let a := judgedActive s ch o.binding
  if a = o.active then s
  else s.putOutput ch ({ o with active := a }.retimed s.now (s.lastSent ch)) (activitySignals ch o.active a)

/-- ACTIVITY_SIGNAL (R133): the channels whose owner's liveness the web decides. -/
def execActivitySignal (w : Fin 4) (s : State) : Host.Outcome State Fault Refusal :=
  event (fun s => (breakChannels w).foldl (fun s ch => rejudge ch s) s) s

/-- MOVEMENT_TIMER_EXPIRY (R141): the channel is offered as an output change. -/
def execMovementTimerExpiry (ch : Fin 30) (s : State) : Host.Outcome State Fault Refusal :=
  event (fun s =>
    let o := s.outputs.get ch
    if timerDue s.now o.moveTimer then s.putOutput ch { o with moveTimer := none } [.outputChange ch] else s) s

/-! ## OVERRIDE and RELEASE (R144, R145) -/

/-- The values of an OVERRIDE for `k` lanes: one value goes to every lane. -/
def overrideLanes (k : Nat) (vs : List Nat) : Lanes :=
  match vs with
  | [v] => List.replicate k (min v Config.outputMax)
  | vs => vs.map (min · Config.outputMax)

/-- OVERRIDE of channel `ch` with the argument bytes from the value count on (R144). -/
def overrideChannel (ch : Fin 30) (args : List Byte) (s : State) : Answer :=
  let count := byteAt args 0
  let vs := wordsOfBytes ((args.drop 1).take (2 * count))
  if (count ≠ 1 ∧ count ≠ 8) ∨ args.length < 1 + 2 * count then refuse .range s
  else if count = 8 ∧ laneCount ch = 1 then refuse .check s
  else
    let s' := takeClaim ch .operator (overrideLanes (laneCount ch) vs) s
    let top := (s'.outputs.get ch).top
    ⟨if top = .operator then .done else .deferred, vs.any fun v => decide (Config.outputMax < v),
      [byteOf (levelCode top)], s'⟩

/-- OVERRIDE (R144). -/
def execOverrideValue (rq : Request) (s : State) : Host.Outcome State Fault Refusal :=
  request 10 rq (indexed 30 overrideChannel) s

/-- RELEASE (R145). -/
def execRelease (rq : Request) (s : State) : Host.Outcome State Fault Refusal :=
  request 11 rq (indexed 30 fun ch _ s => done (takeRelease ch .operator s)) s

/-! ## WRITE of BINDING (R132) -/

/-- The field image of a binding record (Table 8-2, R181). -/
def Binding.words (b : Binding) : List Nat := [boolWord b.bound, b.node, b.tag, b.deadband, b.refresh, b.slew]

def Binding.ofWords (ws : List Nat) : Binding :=
  { bound := decide (ws.getD 0 0 ≠ 0), node := ws.getD 1 0, tag := ws.getD 2 0, deadband := ws.getD 3 0,
    refresh := ws.getD 4 0, slew := ws.getD 5 0 }

/-- Ranges of Table 8-2, by word. -/
def bindingWordOk (i v : Nat) : Bool :=
  if i = 0 then within 0 1 v
  else if i = 1 then within 1 254 v
  else if i = 2 then within 0 255 v
  else if i = 3 then within 0 1000 v
  else if i = 4 then within 100 10000 v
  else within 0 65535 v

/-- A binding replaced: the origin is set by a changed slew limit, the movement timer computed anew by a changed
deadband, and activity judged (R132, R133, R140, R141). -/
def bindChannel (ch : Fin 30) (new : Binding) (s : State) : State :=
  let o := s.outputs.get ch
  rejudge ch (s.endEvent ch (decide (new.deadband ≠ o.binding.deadband)) { o with binding := new } [])

/-- The owner's judgement of a BINDING write (R132). -/
def writeBinding (ch : Fin 30) (sp : Span) (s : State) : Answer :=
  let new := Binding.ofWords (sp.apply (s.outputs.get ch).binding.words)
  if !sp.inRange bindingWordOk then refuse .range s
  else if new.bound && (decide (new.node = 0) || decide (new.refresh = 0)) then refuse .check s
  else done (bindChannel ch new s)

/-- WRITE_BINDING (R132). -/
def execWriteBinding (rq : Request) (s : State) : Host.Outcome State Fault Refusal :=
  request 2 rq (writeObject 30 6 writeBinding) s

/-! ## WRITE of PROTECTION (R135) -/

/-- An optional number as its presence word and value word (R181; log entry 12). -/
def optionWords (x : Option Nat) : List Nat :=
  match x with
  | some v => [1, v]
  | none => [0, 0]

/-- The field image of a channel's row: presence (0 HOLD) and park value for LIMIT, BREAK and TRIP. -/
def protectionWords (p : Tab (Option Nat) 3) : List Nat := p.items.flatMap optionWords

/-- An optional number read from its two words. -/
def optionOfWords (ws : List Nat) (i : Nat) : Option Nat := if ws.getD i 0 = 0 then none else some (ws.getD (i + 1) 0)

/-- Whether the span carries presence and value words together (R181). -/
def pairsWhole (n : Nat) (sp : Span) : Bool :=
  (List.range n).all fun k => !sp.touches (2 * k) 2 || sp.holds (2 * k) 2

/-- Whether every level carried names HOLD or a park value in range (R135). -/
def protectionOk (sp : Span) : Bool :=
  (List.range 3).all fun k =>
    !sp.holds (2 * k) 2 || decide (sp.val (2 * k) = 0) ||
      (decide (sp.val (2 * k) = 1) && decide (sp.val (2 * k + 1) ≤ Config.outputMax))

/-- The owner's judgement of a PROTECTION write (R135). -/
def writeProtection (ch : Fin 30) (sp : Span) (s : State) : Answer :=
  let o := s.outputs.get ch
  let ws := sp.apply (protectionWords o.protection)
  if !pairsWhole 3 sp then refuse .check s
  else if !protectionOk sp then refuse .range s
  else done (s.putOutput ch { o with protection := Tab.ofFn fun i => optionOfWords ws (2 * i.val) } [])

/-- WRITE_PROTECTION (R135). -/
def execWriteProtection (rq : Request) (s : State) : Host.Outcome State Fault Refusal :=
  request 2 rq (writeObject 30 6 writeProtection) s

end Sys2Proof.Machine
end

