-- ==== Sys2Proof/Machine/Emission.lean ====
section
/-! DEFINITION. The Emission Arbiter (chapter 10): the emission set and its refresh timers, the notice queue and its
mask, and the grant of a vacant slot with the frame written. -/

namespace Sys2Proof.Machine

/-- The state with channel `ch`'s emission record replaced. -/
def State.putRecord (s : State) (ch : Fin 30) (r : EmissionRecord) : State :=
  { s with emission := { s.emission with records := s.emission.records.set ch r } }

/-! ## The emission set (R166 to R168) -/

/-- The channel joins the set when it is active (R166). -/
def joinSet (ch : Fin 30) (s : State) : State :=
  if (s.outputs.get ch).active then s.putRecord ch { s.emission.records.get ch with pending := true } else s

/-- CHANNEL_ACTIVE (R166). -/
def execChannelActive (ch : Fin 30) (s : State) : Host.Outcome State Fault Refusal :=
  event (joinSet ch) s

/-- TOP_CHANGE (R166). -/
def execTopChange (ch : Fin 30) (s : State) : Host.Outcome State Fault Refusal :=
  event (joinSet ch) s

/-- Whether the output of a channel, evaluated now, differs from last-sent by the deadband and by 1 (R166). -/
def outputMoved (ch : Fin 30) (s : State) : Bool :=
  let o := s.outputs.get ch
  match s.lastSent ch with
  | some ls => lanesDiffer o.binding.deadband (o.output s.now) ls
  | none => false

/-- OUTPUT_CHANGE (R166). -/
def execOutputChange (ch : Fin 30) (s : State) : Host.Outcome State Fault Refusal :=
  event (fun s => if outputMoved ch s then joinSet ch s else s) s

/-- CHANNEL_INACTIVE (R168): last-sent is kept. -/
def execChannelInactive (ch : Fin 30) (s : State) : Host.Outcome State Fault Refusal :=
  event (fun s => s.putRecord ch { s.emission.records.get ch with pending := false, refresh := none }) s

/-- REFRESH_TIMER_EXPIRY (R167). -/
def execRefreshTimerExpiry (ch : Fin 30) (s : State) : Host.Outcome State Fault Refusal :=
  event (fun s =>
    let r := s.emission.records.get ch
    if timerDue s.now r.refresh then joinSet ch (s.putRecord ch { r with refresh := none }) else s) s

/-! ## The notice queue (R171) -/

/-- The entry coalesced with a newly raised notice of its kind and subject. -/
def coalesce (n : Notice) (now : PartTime) (e : NoticeEntry) : NoticeEntry :=
  { e with notice := n, count := min (e.count + 1) Config.countMax, time := now }

/-- The queue with the first entry of the notice's kind and subject coalesced. -/
def coalesceQueue (n : Notice) (now : PartTime) : List NoticeEntry → List NoticeEntry
  | [] => []
  | e :: rest => if sameReport e.notice n then coalesce n now e :: rest else e :: coalesceQueue n now rest

/-- The queue with the overflow flag of its newest entry set. -/
def markOverflow : List NoticeEntry → List NoticeEntry
  | [] => []
  | [e] => [{ e with overflow := true }]
  | e :: x :: rest => e :: markOverflow (x :: rest)

/-- The queue after a notice that the mask enables (R171). -/
def queueNotice (n : Notice) (now : PartTime) (q : List NoticeEntry) : List NoticeEntry :=
  if q.any (fun e => sameReport e.notice n) then coalesceQueue n now q
  else if q.length < Config.noticeEntries then q ++ [{ notice := n, count := 1, time := now, overflow := false }]
  else markOverflow q

/-- NOTICE_RAISED (R171). -/
def execNoticeRaised (n : Notice) (s : State) : Host.Outcome State Fault Refusal :=
  event (fun s =>
    if s.emission.mask.getLsbD (noticeKind n).val then
      { s with emission := { s.emission with queue := queueNotice n s.now s.emission.queue } }
    else s) s

/-! ## Frames (R177, Tables 11-3 and 11-6) -/

/-- The COMMAND frame of a channel whose lanes are `lanes` under top level `top`. -/
def commandFrame (b : Binding) (top : Level) (lanes : Lanes) : Slot :=
  frame ([2, byteOf b.node, byteOf b.tag, byteOf (2 + 2 * lanes.length), byteOf (levelCode top),
    byteOf lanes.length] ++ bytesOfWords lanes)

/-- The NOTICE frame of an entry, with `left` entries behind it. -/
def noticeFrame (node : Byte) (left : Nat) (e : NoticeEntry) : Slot :=
  frame ([5, node, byteOf left, 24, byteOf (noticeKind e.notice).val, byteOf (subjectClass e.notice),
    byteOf (subjectNumber e.notice), byteOf e.count, byteOf (boolWord e.overflow)] ++ longBytes e.time ++
    noticeDetail e.notice)

/-! ## Grants (R169, R170, R172) -/

/-- The place of a level's pointer. -/
def levelIx : Level → Fin 5
  | .schedule => 0 | .operator => 1 | .limit => 2 | .brk => 3 | .trip => 4

/-- Whether channel `ch` is pending at a level. -/
def pendingAt (s : State) (l : Level) (ch : Fin 30) : Bool :=
  (s.emission.records.get ch).pending && decide ((s.outputs.get ch).top = l)

/-- The channels in the order of service after `p`, wrapping from 29 to 0. -/
def serviceOrder (p : Fin 30) : List (Fin 30) :=
  (List.range 30).map fun k => Fin.ofNat 30 (p.val + 1 + k)

/-- The channel a level grants, if one is pending at it. -/
def nextAt (s : State) (l : Level) : Option (Fin 30) :=
  (serviceOrder (s.emission.pointers.get (levelIx l))).find? (pendingAt s l)

/-- The first of the given levels at which a channel is pending, with the channel it grants. -/
def highestOf (s : State) : List Level → Option (Level × Fin 30)
  | [] => none
  | l :: rest =>
    match nextAt s l with
    | some ch => some (l, ch)
    | none => highestOf s rest

/-- What a vacant slot is granted (R169). -/
inductive Grant where
  | command (l : Level) (ch : Fin 30)
  | notice (e : NoticeEntry) (rest : List NoticeEntry)
  | nothing
  deriving DecidableEq, Repr

/-- The decision of R169. -/
def decideGrant (s : State) : Grant :=
  match highestOf s [.trip, .brk] with
  | some (l, ch) => .command l ch
  | none =>
    match s.emission.queue, highestOf s [.limit, .operator, .schedule] with
    | e :: rest, none => .notice e rest
    | e :: rest, some (l, ch) => if s.emission.previous = .command then .notice e rest else .command l ch
    | [], some (l, ch) => .command l ch
    | [], none => .nothing

/-- The state after channel `ch` is granted at level `l` (R170): the frame is put out, the channel leaves the set,
last-sent and the timers follow. -/
def grantCommand (l : Level) (ch : Fin 30) (s : State) : State :=
  let o := s.outputs.get ch
  let lanes := o.output s.now
  { s with
    outputs := s.outputs.set ch (o.retimed s.now (some lanes))
    emission := { s.emission with
      records := s.emission.records.set ch
        { lastSent := some lanes, refresh := some (after s.now o.binding.refresh), pending := false }
      pointers := s.emission.pointers.set (levelIx l) ch
      previous := .command }
    ring := { s.ring with ringOut := commandFrame o.binding l lanes } }

/-- The state after the oldest notice is granted (R172). -/
def grantNotice (e : NoticeEntry) (rest : List NoticeEntry) (s : State) : State :=
  { s with
    emission := { s.emission with queue := rest, previous := .notice }
    ring := { s.ring with ringOut := noticeFrame s.ring.node rest.length e } }

/-- The offer of a vacant slot: the state after the grant, or the slot forwarded vacant (R177). -/
def offerSlot (slot : Slot) (s : State) : State :=
  match decideGrant s with
  | .command l ch => grantCommand l ch s
  | .notice e rest => grantNotice e rest s
  | .nothing => s.putOut slot

/-! ## NOTICE_MASK (R172) -/

/-- The 24-bit mask of three bytes, high byte first; bits 18 to 23 are ignored. -/
def maskOfBytes (bs : List Byte) : BitVec 18 := BitVec.ofNat 18 (byteAt bs 0 * 65536 + wordAt bs 1)

/-- The three bytes of the mask in force; the ignored bits 18 to 23 read 0: DESIGN CHOICE (log entry 32). -/
def maskBytes (m : BitVec 18) : List Byte := byteOf (m.toNat / 65536) :: wordBytes (m.toNat % 65536)

/-- NOTICE_MASK at its owner: the whole mask is replaced. -/
def setMask (args : List Byte) (s : State) : Answer :=
  if args.length < 3 then refuse .range s
  else
    let m := maskOfBytes args
    ⟨.done, false, maskBytes m, { s with emission := { s.emission with mask := m } }⟩

/-- NOTICE_MASK (R172). -/
def execNoticeMask (rq : Request) (s : State) : Host.Outcome State Fault Refusal :=
  request 13 rq setMask s

end Sys2Proof.Machine
end

