-- ==== Sys2Proof/Machine/WebModes.lean ====
section
/-! DEFINITION. Web Mode Control (chapter 2): the mode machine, entry to BREAK, enabling, disabling and clearing a
web, speed plans, and the WRITE of web parameters. -/

namespace Sys2Proof.Machine

/-! ## Transitions (Table 2-2, R43, R161) -/

/-- What one transition reports: MODE_CHANGE, and the MODE trigger signal to the Ramp Engine. -/
def transitionSignals (w : Fin 4) (old new : Mode) : List Instr :=
  raise (.modeChange w old new) ++ triggerAll (.mode w new)

/-- The reports of a chain of transitions from `old`. -/
def chainSignals (w : Fin 4) (old : Mode) : List Mode → List Instr
  | [] => []
  | m :: rest => transitionSignals w old m ++ chainSignals w m rest

/-- The modes a speed `v` takes a web through (R31), the break detector apart. -/
def motionPath (p : WebParams) (v : Nat) : Mode → List Mode
  | .standby => if p.vMove ≤ v then (if p.vRun ≤ v then [.crawl, .run] else [.crawl]) else []
  | .crawl => if p.vRun ≤ v then [.run] else if v < p.vMove then [.standby] else []
  | .run => if v + p.hysteresis < p.vRun then (if v < p.vMove then [.crawl, .standby] else [.crawl]) else []
  | _ => []

/-- The state with web `w`'s control record replaced and signals sent. -/
def State.putWeb (s : State) (w : Fin 4) (c : WebControl) (cs : List Instr) : State :=
  { s with webs := s.webs.set w c, signals := s.signals ++ cs }

/-! ## Breaks (R33 to R35) -/

/-- The detectors whose BRK lanes are active: present and not 0 (R33). -/
def activeDetectors (r : InputRecord) : BitVec 5 :=
  [(0 : Fin 8), 1, 2, 3].foldl
    (fun m i => match r.lanes.get i with
      | some x => if x ≠ 0 then m ||| BitVec.ofNat 5 (2 ^ i.val) else m
      | none => m) 0

/-- What an entry to BREAK sends to the owners concerned (R34). -/
def breakSignals (w : Fin 4) (old : Mode) (causes : BitVec 5) : List Instr :=
  [.queueEmptying w] ++ (List.finRange 8).map (fun j => Instr.breakStop j w) ++
    (breakChannels w).map (fun ch => Instr.claim ch (.web w) []) ++
    transitionSignals w old .brk ++ raise (.brk w causes)

/-- Entry to BREAK with the causes given, on a web whose control record is `c` (R34). -/
def enterBreak (w : Fin 4) (c : WebControl) (causes : BitVec 5) (s : State) : State :=
  s.putWeb w { c with mode := .brk, plan := none, causes := causes } (breakSignals w c.mode causes)

/-- A BRK sample (R33, R35). -/
def takeBrkSample (w : Fin 4) (s : State) : State :=
  let c := s.webs.get w
  let d := activeDetectors (s.record (brkCh w))
  if d = 0 then s
  else if inMotion c.mode then enterBreak w c d s
  else if c.mode = .brk then s.putWeb w { c with causes := c.causes ||| d } [] else s

/-- BRK_SAMPLE (R33). -/
def execBrkSample (w : Fin 4) (s : State) : Host.Outcome State Fault Refusal :=
  event (takeBrkSample w) s

/-- The BRK input has become STALE (R33, R35). -/
def takeBrkStale (w : Fin 4) (s : State) : State :=
  let c := s.webs.get w
  if moving c.mode then enterBreak w c staleCause s
  else if c.mode = .brk then s.putWeb w { c with causes := c.causes ||| staleCause } [] else s

/-- BRK_STALE_SIGNAL (R33). -/
def execBrkStaleSignal (w : Fin 4) (s : State) : Host.Outcome State Fault Refusal :=
  event (takeBrkStale w) s

/-- ENC_STALE_SIGNAL (R38): v, the mode and the plan hold. -/
def execEncStaleSignal (_w : Fin 4) (s : State) : Host.Outcome State Fault Refusal :=
  event (fun s => s) s

/-! ## Speed (R30, R31, R40) -/

/-- Whether a plan is cleared by speed `v`: the target lies within 50 of it (R40). -/
def planMet (p : Plan) (v : Nat) : Bool :=
  decide (p.target ≤ v + Config.planSlack) && decide (v ≤ p.target + Config.planSlack)

/-- The plan left after a speed is taken in a motion mode (R40). -/
def planAfter (plan : Option Plan) (v : Nat) : Option Plan := plan.filter fun p => !planMet p v

/-- A speed `v` taken in a motion mode: the plan and the mode are judged (R31, R40). -/
def judgeSpeed (w : Fin 4) (v : Nat) (s : State) : State :=
  let c := s.webs.get w
  let c' := { c with v := v, plan := planAfter c.plan v }
  let path := motionPath c.params v c.mode
  if c.mode = .standby ∧ path ≠ [] ∧ (s.record (brkCh w)).fresh = false then enterBreak w c' staleCause s
  else s.putWeb w { c' with mode := path.getLastD c.mode } (chainSignals w c.mode path)

/-- The speed lane of an ENC record clamped to 0..20000 (R30). -/
def sampleSpeed (x : Int) : Nat := (clampInt x 0 Config.speedMax).toNat

/-- An ENC sample at Web Mode Control (R30): no action when the speed lane is absent. -/
def takeSpeed (w : Fin 4) (s : State) : State :=
  match (s.record (encCh w)).lanes.get 2 with
  | none => s
  | some x =>
    if inMotion (s.mode w) then judgeSpeed w (sampleSpeed x) s
    else s.putWeb w { s.webs.get w with v := sampleSpeed x } []

/-- ENC_SPEED (R30). -/
def execEncSpeed (w : Fin 4) (s : State) : Host.Outcome State Fault Refusal :=
  event (takeSpeed w) s

/-! ## Web parameters (R29) -/

/-- The field image of the web parameters (Table 2-1, R181). -/
def WebParams.words (p : WebParams) : List Nat :=
  [p.width, p.grammage, p.vMove, p.vRun, p.hysteresis, p.maxJump, p.washLoad, p.washLength,
    trimCode p.trimStandby, trimCode p.trimCrawl, trimCode p.trimRun, p.chillMin]

def WebParams.ofWords (ws : List Nat) : WebParams :=
  { width := ws.getD 0 0, grammage := ws.getD 1 0, vMove := ws.getD 2 0, vRun := ws.getD 3 0,
    hysteresis := ws.getD 4 0, maxJump := ws.getD 5 0, washLoad := ws.getD 6 0, washLength := ws.getD 7 0,
    trimStandby := trimOfCode (ws.getD 8 0), trimCrawl := trimOfCode (ws.getD 9 0),
    trimRun := trimOfCode (ws.getD 10 0), chillMin := ws.getD 11 0 }

/-- Ranges of Table 2-1, by word. -/
def webParamWordOk (i v : Nat) : Bool :=
  if i = 0 then within 200 2000 v
  else if i = 1 then within 30 150 v
  else if i = 2 then within 10 500 v
  else if i = 3 then within 500 20000 v
  else if i = 4 then within 0 2000 v
  else if i = 5 then within 100 10000 v
  else if i = 6 then within 0 2000 v
  else if i = 7 then within 0 20000 v
  else if i < 11 then within 0 3 v
  else within 0 10000 v

/-- The owner's judgement of a WEB_PARAM write (R29). -/
def writeWebParam (w : Fin 4) (sp : Span) (s : State) : Answer :=
  let c := s.webs.get w
  let new := WebParams.ofWords (sp.apply c.params.words)
  if !sp.inRange webParamWordOk then refuse .range s
  else if sp.touches 3 2 ∧ new.vRun ≤ new.hysteresis then refuse .check s
  else done (s.putWeb w { c with params := new } [])

/-- WRITE_WEB_PARAM (R29). -/
def execWriteWebParam (rq : Request) (s : State) : Host.Outcome State Fault Refusal :=
  request 2 rq (writeObject 4 12 writeWebParam) s

/-! ## WEB_ENABLE (R32) -/

/-- Checks 1 to 7 of R32. -/
def enableBlocked (w : Fin 4) (s : State) : Bool :=
  let t := s.track w
  let m := s.housing (housingOf w)
  decide (s.mode w ≠ .idle) || !t.stationsSet ||
    (decide (t.bankA.state = .invalid) && decide (t.bankB.state = .invalid)) ||
    !((s.inputs.get (encCh w)).sub.enabled && (s.inputs.get (brkCh w)).sub.enabled) ||
    decide (activeDetectors (s.record (brkCh w)) ≠ 0) ||
    !carriedOk webParamWordOk 0 (s.params w).words ||
    (decide (m.lelClear = 0) && decide (m.lelLimit = 0) && decide (m.lelTrip = 0))

/-- What an accepted WEB_ENABLE signals besides a lighting: the transition, tracking start and the change of
liveness (R32, R133). -/
def enableSignals (w : Fin 4) : List Instr :=
  transitionSignals w .idle .standby ++ [.trackingStart w, .activitySignal w]

/-- The web enters STANDBY (R32). -/
def enterStandby (w : Fin 4) (s : State) : State :=
  s.putWeb w { s.webs.get w with mode := .standby } (enableSignals w)

/-- WEB_ENABLE of web `w` (R32); the question of check 8 lights a dark housing (R68). -/
def enableWeb (w : Fin 4) (_ : List Byte) (s : State) : Answer :=
  let h := housingOf w
  let p := s.profiles.get h
  if enableBlocked w s then refuse .state s
  else if s.dark h then
    match lightHousing p with
    | none => refuse .state s
    | some p' => done (enterStandby w (s.putProfiles h p' (lightNotices h p)))
  else done (enterStandby w s)

/-- WEB_ENABLE (R32). -/
def execWebEnable (rq : Request) (s : State) : Host.Outcome State Fault Refusal :=
  request 4 rq (indexed 4 enableWeb) s

/-! ## CLEAR_BREAK and WEB_DISABLE (R36, R37) -/

/-- The releases of web `w` from its BREAK claims on the twelve channels (R36). -/
def breakReleases (w : Fin 4) : List Instr := (breakChannels w).map fun ch => Instr.holderRelease ch (.web w)

/-- CLEAR_BREAK of web `w` (R36). -/
def clearBreakWeb (w : Fin 4) (_ : List Byte) (s : State) : Answer :=
  let c := s.webs.get w
  if c.mode = .brk ∧ c.v = 0 ∧ activeDetectors (s.record (brkCh w)) = 0 then
    done (s.putWeb w { c with mode := .standby, causes := 0 }
      (transitionSignals w .brk .standby ++ [.trackingStart w] ++ breakReleases w))
  else refuse .state s

/-- CLEAR_BREAK (R36). -/
def execClearBreak (rq : Request) (s : State) : Host.Outcome State Fault Refusal :=
  request 8 rq (indexed 4 clearBreakWeb) s

/-- What an accepted WEB_DISABLE of a web in mode `old` signals (R37, R69, R133); `darkens` says that the other web
of the housing is IDLE. -/
def disableSignals (w : Fin 4) (old : Mode) (darkens : Bool) : List Instr :=
  transitionSignals w old .idle ++ [.queueEmptying w] ++ (if old = .brk then breakReleases w else []) ++
    [.activitySignal w] ++ (if darkens then [.housingDarkSignal (housingOf w)] else [])

/-- WEB_DISABLE of web `w` (R37). -/
def disableWeb (w : Fin 4) (_ : List Byte) (s : State) : Answer :=
  let c := s.webs.get w
  if c.mode ≠ .idle ∧ c.v = 0 then
    done (s.putWeb w { c with mode := .idle, plan := none, causes := 0 }
      (disableSignals w c.mode (decide (s.mode (otherWeb w) = .idle))))
  else refuse .state s

/-- WEB_DISABLE (R37). -/
def execWebDisable (rq : Request) (s : State) : Host.Outcome State Fault Refusal :=
  request 5 rq (indexed 4 disableWeb) s

/-! ## SPEED_PLAN (R39) -/

/-- A value clamped for a request, with whether the clamp acted. -/
def clampArg (x a b : Nat) : Nat × Bool := (clampNat x a b, decide (clampNat x a b ≠ x))

/-- SPEED_PLAN of web `w` with the carried target and rate (R39). -/
def planWeb (w : Fin 4) (args : List Byte) (s : State) : Answer :=
  let c := s.webs.get w
  let target := clampArg (wordAt args 0) 0 Config.speedMax
  let rate := clampArg (wordAt args 2) 10 2000
  let plan : Plan := ⟨target.1, rate.1⟩
  if args.length < 4 then refuse .range s
  else if inMotion c.mode then
    ⟨.done, target.2 || rate.2, [], s.putWeb w { c with plan := planAfter (some plan) c.v } []⟩
  else refuse .state s

/-- SPEED_PLAN (R39). -/
def execSpeedPlan (rq : Request) (s : State) : Host.Outcome State Fault Refusal :=
  request 6 rq (indexed 4 planWeb) s

end Sys2Proof.Machine
end

