-- ==== Sys2Proof/Machine/Image.lean ====
section
/-! DEFINITION. The field images of the objects (R181, Table 11-7): the objects that can be written, whose images
stand with their owners, and the STATUS objects, each in the order of the list of its chapter. -/

namespace Sys2Proof.Machine

/-! ## Shared shapes -/

/-- A 32-bit value. -/
def timeWords (t : PartTime) : List Nat := words32 t.toNat

/-- An optional 32-bit value; a timer, as whether it runs and its expiry. -/
def optionTime (t : Option PartTime) : List Nat :=
  match t with
  | some v => 1 :: timeWords v
  | none => [0, 0, 0]

/-- An optional bank. -/
def optionBank (b : Option Bank) : List Nat := optionWords (b.map bankCode)

/-- Lanes in `k` words, absent lanes as 0. -/
def optionLanes (k : Nat) (x : Option Lanes) : List Nat :=
  match x with
  | some ls => 1 :: (List.range k).map fun i => ls.getD i 0
  | none => 0 :: List.replicate k 0

def laneWords (k : Nat) (ls : Lanes) : List Nat := (List.range k).map fun i => ls.getD i 0

/-- The state of an input record: FRESH 1, STALE 0 (log entry 13). -/
def freshWord (s : State) (ch : Fin 32) : Nat := boolWord (s.record ch).fresh

/-! ## STATUS_WEB (R43), STATUS_QUEUE (R26), STATUS_INPUT (R59) -/

def planWords (p : Option Plan) : List Nat :=
  match p with
  | some x => [1, x.target, x.rate]
  | none => [0, 0, 0]

def statusWeb (s : State) (w : Fin 4) : List Nat :=
  let c := s.webs.get w
  let h := housingOf w
  [modeCode c.mode, c.v] ++ planWords c.plan ++
    [s.demandSpeed w, c.causes.toNat, boolWord (decide (s.governing h = some w)), boolWord (s.dark h)]

/-- One record place of STATUS_QUEUE: the fields of Table 1-4. -/
def segmentWords (x : Segment) : List Nat :=
  [x.seq.toNat] ++ timeWords x.head ++ [x.length, x.load] ++
    (match x.marker with
     | some m => [1, markerCode m.kind, sourceCode m.source, m.next]
     | none => [0, 0, 0, 0])

/-- The record place of a position; 0 in every word at or beyond the record count. -/
def placeWords (q : List Segment) (p : Nat) : List Nat :=
  match q[p]? with
  | some x => segmentWords x
  | none => List.replicate 9 0

def covBankCode : CovBank → Nat
  | .a => 0 | .b => 1

def statusQueue (s : State) (w : Fin 4) : List Nat :=
  let t := s.track w
  timeWords t.path ++ [boolWord t.encRef.isNone, t.cursorRun.val, t.cursorLeft] ++
    optionWords (t.activeBank.map covBankCode) ++
    [covStateCode t.bankA.state, covStateCode t.bankB.state, t.wash,
      boolWord (s.tracker.jobs.get (housingOf w)).isSome, t.queue.length] ++
    (List.range Config.queueRecords).flatMap (placeWords t.queue)

def statusInput (s : State) (ch : Fin 32) : List Nat :=
  let r := s.record ch
  [boolWord r.fresh, (presentMask r.lanes).toNat] ++ r.lanes.items.map (fun x => toWord (x.getD 0)) ++
    timeWords r.arrival ++ timeWords (s.now - r.arrival) ++ [boolWord r.ageRunning]

/-! ## STATUS_CHANNEL (R146, with R98, R115, R129) -/

/-- The fields of Table 8-3 on `k` lanes; release-pending is one word at every level, without presence word: DESIGN CHOICE
(log entry 13). -/
def entryFields (k : Nat) (l : Level) (holders : Nat) (src : ValueSource) (value : Lanes)
    (claim dwell : Option PartTime) (pending : Bool) : List Nat :=
  [levelCode l, holders, valueSourceCode src] ++ laneWords k value ++ optionTime claim ++ optionTime dwell ++
    [boolWord pending]

/-- The dwell end of a channel's BREAK and TRIP entries: the expiry of their timer while it runs (R134). -/
def dwellEndOf (s : State) (ch : Fin 30) : Option PartTime :=
  if isHousingChannel ch then (s.monitors.get (channelHousing ch)).purge else (s.outputs.get ch).dwell

/-- The entry at place `i` of the stack behind its presence word. -/
def entryWords (s : State) (ch : Fin 30) (i : Fin 4) : List Nat :=
  let k := laneCount ch
  match (s.outputs.get ch).entries.get i with
  | some e =>
    1 :: entryFields k (levelAt i) e.holders.toNat e.source e.value (some e.claimTime)
      (if 2 ≤ i.val then dwellEndOf s ch else none) e.releasePending
  | none => 0 :: List.replicate (10 + k) 0

/-- The part of the view that every channel has: binding, activity, stack, top, target and output, movement. -/
def authorityWords (s : State) (ch : Fin 30) : List Nat :=
  let o := s.outputs.get ch
  let k := laneCount ch
  o.binding.words ++ [boolWord o.active] ++
    entryFields k .schedule 0 .computed o.schedule none none false ++
    (List.finRange 4).flatMap (entryWords s ch) ++ [levelCode o.top] ++ laneWords k o.target ++
    laneWords k (o.output s.now) ++ laneWords k o.originValue ++ timeWords o.originTime ++ optionTime o.moveTimer

/-- The emission record of a channel (R166). -/
def emissionWords (s : State) (ch : Fin 30) : List Nat :=
  let r := s.emission.records.get ch
  optionLanes (laneCount ch) r.lastSent ++ optionTime r.refresh ++ [boolWord r.pending]

/-- The state of a zone loop as R98 gives it: Table 5-1 (its terms beyond 16 bits in two words), the ZAIR state,
whether the housing is dark. The factor, a field of the table and an item of R98's list, has one word: DESIGN CHOICE
(log entry 13). -/
def zoneWords (s : State) (h : Fin 2) (z : Fin 4) : List Nat :=
  let l := s.loops.get (loopIx h z)
  [l.kp, l.ki, l.iLimit, l.setPoint, loopSourceCode l.source] ++ words32 l.iAcc ++ [toWord l.lastE] ++
    words32 l.lastP ++ words32 l.lastTrim ++ words32 l.ffEvap ++ words32 l.ffWeb ++
    [l.ff, l.heat, l.fan, trimCode l.factor, freshWord s (zairCh h z), boolWord (s.dark h)]

/-- The states of the web's bars and return, and its mode (R115, last item). -/
def webInputs (s : State) (w : Fin 4) : List Nat :=
  [freshWord s (dexitCh w), freshWord s (cexitCh w), freshWord s (cwretCh w), modeCode (s.mode w)]

/-- The damper fields of R115. -/
def damperWords (s : State) (w : Fin 4) : List Nat :=
  let f := s.finishing.get w
  f.dampers.items ++ [boolWord f.runSeen, f.dampBase, boolWord (decide (f.dampSource = .ramp)), boolWord f.dryOut] ++
    webInputs s w

/-- The chill fields of R115. The factor last applied, a field of Table 6-1 and an item of R115's list, has one word:
DESIGN CHOICE (log entry 13). -/
def chillWords (s : State) (w : Fin 4) : List Nat :=
  let f := s.finishing.get w
  [f.kp, f.ki, f.iLimit, f.target, loopSourceCode f.targetSource, f.deltaT] ++ words32 f.ff ++ words32 f.iAcc ++
    [toWord f.lastE] ++ words32 f.lastP ++ words32 f.lastTrim ++
    [trimCode f.factor, f.chillA, f.chillB, boolWord f.chillOut, boolWord f.returnAOut, boolWord f.returnBOut] ++
    webInputs s w

/-- The exhaust record (R129): total, LEL value used, LEL term, EXH schedule. An absent LEL value reads as 0 behind
presence 0: DESIGN CHOICE (log entry 13). -/
def exhaustWords (x : ExhaustRecord) : List Nat :=
  words32 x.total ++ optionWords x.lel ++ words32 x.lelTerm ++ [x.exh]

/-- What the block whose SCHEDULE value the channel carries adds to the view. -/
def blockWords (s : State) (ch : Fin 30) : List Nat :=
  match outRole ch with
  | .heat h z => zoneWords s h z
  | .fan h z => zoneWords s h z
  | .exh h => exhaustWords (s.monitors.get h).exhaust
  | .damp w => damperWords s w
  | .chillA w => chillWords s w
  | .chillB w => chillWords s w

/-- The return hold of a HEAT channel, the dwell timer of a DAMP or CHILL channel (R146). -/
def roleWords (s : State) (ch : Fin 30) : List Nat :=
  let o := s.outputs.get ch
  match outRole ch with
  | .heat _ _ => optionWords o.returnHold
  | .damp _ => optionTime o.dwell
  | .chillA _ => optionTime o.dwell
  | .chillB _ => optionTime o.dwell
  | _ => []

/-- The view of a channel: the list of R146, what its role adds to it, its emission words, and its block's own state:
DESIGN CHOICE for that order (log entry 13). -/
def statusChannel (s : State) (ch : Fin 30) : List Nat :=
  authorityWords s ch ++ roleWords s ch ++ emissionWords s ch ++ blockWords s ch

/-! ## STATUS_PROFILE (R78), STATUS_HOUSING (R129), STATUS_PROGRAM (R164) -/

/-- The eight indicators in the order of their subject numbers (R174). -/
def indicatorWords (p : ProfileHousing) : List Nat :=
  p.zones.items.flatMap optionBank ++ optionBank (p.dampers.get 0) ++ optionBank (p.chills.get 0) ++
    optionBank (p.dampers.get 1) ++ optionBank (p.chills.get 1)

/-- The switch record: presence, outgoing, incoming. -/
def switchWords (i : Option Bank) : List Nat :=
  match i with
  | some b => [1, bankCode (otherBank b), bankCode b]
  | none => [0, 0, 0]

def statusProfile (s : State) (h : Fin 2) : List Nat :=
  let p := s.profiles.get h
  [profStateCode p.bankP.state, profStateCode p.bankQ.state] ++ indicatorWords p ++ switchWords p.switch ++
    [boolWord (s.dark h)]

/-- The part time remaining to a running timer (R129); 0 for a stopped one: DESIGN CHOICE (log entry 13). -/
def remaining (now : PartTime) (t : Option PartTime) : PartTime :=
  match t with
  | some e => e - now
  | none => 0

def statusHousing (s : State) (h : Fin 2) : List Nat :=
  let m := s.monitors.get h
  [boolWord m.limitOn, boolWord m.latch, m.causes.toNat] ++ optionTime m.purge ++
    timeWords (remaining s.now m.purge) ++ exhaustWords m.exhaust ++
    [freshWord s (lelCh h), freshWord s (exhtCh h), freshWord s (zairCh h 0), freshWord s (zairCh h 1),
      freshWord s (zairCh h 2), freshWord s (zairCh h 3), boolWord (s.dark h)]

/-- The targets a slot owns: a target code with its ramp value, 65535 beyond the last (R164). They stand in the order
of their codes: DESIGN CHOICE (log entry 13). -/
def ownedWords (s : State) (j : Fin 8) : List Nat :=
  let owned := (List.finRange 24).filter fun i => decide ((s.ramp.owners.get i).owner = some j)
  (List.range 8).flatMap fun k =>
    match owned[k]? with
    | some i => i.val :: optionWords (s.ramp.owners.get i).value
    | none => [65535, 0, 0]

/-- The step index of the next step: N − n (R164). In a slot that is not running it is N − n of the counters as they
stand, 0 when n is above N or N is absent: DESIGN CHOICE (log entry 28). -/
def stepIndex (x : RampSlot) : Nat := x.desc.n.getD 0 - x.n

def statusSlot (s : State) (j : Fin 8) : List Nat :=
  let x := s.ramp.slots.get j
  [slotStateCode x.state, x.pointer, x.n, x.l, x.b, stepIndex x] ++ optionTime x.timer ++ optionTime x.saved ++
    [x.passes] ++ ownedWords s j

/-- The ownership table: each entry's owner and ramp value. -/
def statusOwners (s : State) : List Nat :=
  s.ramp.owners.items.flatMap fun e => optionWords (e.owner.map Fin.val) ++ optionWords e.value

/-! ## The object table (Table 11-7) -/

/-- The image of something numbered `index` of `n`. -/
def imageAt (n index : Nat) (f : Fin n → List Nat) : Option (List Nat) := (asFin n index).map f

/-- The image of an object other than RAMP_MEMORY; none when the object or the index does not exist. -/
def imageOf (s : State) (object index : Nat) : Option (List Nat) :=
  if object = 0 then imageAt 32 index fun ch => (s.inputs.get ch).sub.words
  else if object = 1 then imageAt 30 index fun ch => (s.outputs.get ch).binding.words
  else if object = 2 then imageAt 4 index fun w => stationWords (s.track w)
  else if object = 3 then imageAt 8 index fun i => ((s.track (coverageWeb i)).bank (coverageBankOf i)).words
  else if object = 4 then
    imageAt 4 index fun i => ((s.profiles.get (profileHousingOf i)).bank (profileBankOf i)).fields.words
  else if object = 5 then
    imageAt 12 index fun i =>
      if hz : i.val < 8 then
        let l := s.loops.get ⟨i.val, hz⟩
        [l.kp, l.ki, l.iLimit]
      else
        let f := s.finishing.get ⟨i.val - 8, by omega⟩
        [f.kp, f.ki, f.iLimit]
  else if object = 6 then imageAt 4 index fun w => (s.params w).words
  else if object = 7 then imageAt 2 index fun h => (s.housing h).words
  else if object = 8 then imageAt 30 index fun ch => protectionWords (s.outputs.get ch).protection
  else if object = 10 then imageAt 8 index fun j => (s.ramp.slots.get j).desc.words
  else if object = 11 then imageAt 4 index (statusWeb s)
  else if object = 12 then imageAt 4 index (statusQueue s)
  else if object = 13 then imageAt 32 index (statusInput s)
  else if object = 14 then imageAt 30 index (statusChannel s)
  else if object = 15 then imageAt 2 index (statusProfile s)
  else if object = 16 then imageAt 2 index (statusHousing s)
  else if object = 17 then
    imageAt 9 index fun j => if hj : j.val < 8 then statusSlot s ⟨j.val, hj⟩ else statusOwners s
  else none

end Sys2Proof.Machine
end

