-- ==== Sys2Proof/Machine/Requests.lean ====
section
/-! DEFINITION. The Request Decoder's own answers (R180, R181): READ, the WRITE of objects without a write rule, and
requests the Decoder turns away itself; and the row of the table that a REQUEST payload spells. -/

namespace Sys2Proof.Machine

/-! ## READ (R181) -/

/-- READ of ramp memory: a word address and a number of words (R148). -/
def readRampMemory (index : Nat) (args : List Byte) (s : State) : Answer :=
  match rampSpan args, index with
  | some (a, k), 0 =>
    ⟨.done, false, (List.range k).flatMap (fun i => wordBytes (RampMemory.read s.ramp.memory (a + i)).toNat), s⟩
  | _, _ => refuse .range s

/-- The bytes of an image that a READ asks for: 1 to 16 bytes within the image. -/
def readImage (image : List Nat) (off count : Nat) : Option (List Byte) :=
  if count = 0 ∨ 16 < count ∨ 2 * image.length < off + count then none
  else some (((bytesOfWords image).drop off).take count)

/-- READ at the Decoder and the object's owner. -/
def readObject (args : List Byte) (s : State) : Answer :=
  if args.length < 5 then refuse .range s
  else if byteAt args 0 = 9 then readRampMemory (byteAt args 1) (args.drop 2) s
  else
    match (imageOf s (byteAt args 0) (byteAt args 1)).bind fun image =>
        readImage image (wordAt args 2) (byteAt args 4) with
    | some bs => ⟨.done, false, bs, s⟩
    | none => refuse .range s

/-- READ (R181). -/
def execRead (rq : Request) (s : State) : Host.Outcome State Fault Refusal :=
  request 1 rq readObject s

/-! ## WRITE by object -/

/-- WRITE to an object with no write rule of its own: the Decoder's checks, then CHECK (R180 step 3). -/
def writeStatus (object : Nat) (args : List Byte) (s : State) : Answer :=
  match args with
  | [] => refuse .range s
  | index :: rest =>
    match imageOf s object index.toNat with
    | none => refuse .range s
    | some image =>
      match readSpan image.length rest with
      | .error st => refuse st s
      | .ok _ => refuse .check s

/-- WRITE to object `object` with the argument bytes from the index on. An object that has a write rule of its own is
judged by its owner. -/
def writeAny (object : Nat) (args : List Byte) (s : State) : Answer :=
  if object = 0 then writeObject 32 14 writeSubscription args s
  else if object = 1 then writeObject 30 6 writeBinding args s
  else if object = 2 then writeObject 4 9 writeStations args s
  else if object = 3 then writeObject 8 98 writeCoverage args s
  else if object = 4 then writeObject 4 239 writeProfile args s
  else if object = 5 then writeObject 12 3 writeLoop args s
  else if object = 6 then writeObject 4 12 writeWebParam args s
  else if object = 7 then writeObject 2 13 writeHousingParam args s
  else if object = 8 then writeObject 30 6 writeProtection args s
  else if object = 9 then indexed 1 writeRampMemory args s
  else if object = 10 then writeObject 8 38 writeRampDescriptor args s
  else writeStatus object args s

/-- WRITE with the argument bytes from the object code on. -/
def writeAnywhere (args : List Byte) (s : State) : Answer :=
  match args with
  | [] => refuse .range s
  | object :: rest => writeAny object.toNat rest s

/-- WRITE (R180). -/
def execWrite (rq : Request) (s : State) : Host.Outcome State Fault Refusal :=
  request 2 rq writeAnywhere s

/-! ## Requests the Decoder turns away (R180 steps 1 to 3) -/

/-- Whether a code is one of Table 11-8. -/
def knownCode (c : Nat) : Bool := within 1 14 c

/-- VALIDATE of an object that is neither COVERAGE nor PROFILE: CHECK when object and index exist. -/
def validateOther (s : State) (object index : Nat) : Status :=
  if (object = 9 ∧ index = 0) ∨ (imageOf s object index).isSome then .check else .range

/-- The Decoder's answer to a payload it hands to no owner: UNKNOWN for an empty payload or a code not in the
catalogue; a VALIDATE of another object; otherwise arguments missing or out of range. -/
def turnAway (payload : List Byte) (s : State) : Answer :=
  match payload with
  | [] => refuse .unknown s
  | code :: args =>
    if !knownCode code.toNat then refuse .unknown s
    else if code.toNat = 3 ∧ 2 ≤ args.length then refuse (validateOther s (byteAt args 0) (byteAt args 1)) s
    else refuse .range s

/-- UNKNOWN_REQUEST (R180). -/
def execUnknownRequest (rq : Request) (s : State) : Host.Outcome State Fault Refusal :=
  request (byteAt rq.args 0) rq turnAway s

/-! ## The row a REQUEST spells (Table 11-8) -/

/-- The row of a WRITE by its object code. -/
def writeRow (tag : Byte) (args : List Byte) : Instr :=
  let rq : Request := ⟨tag, args.drop 1⟩
  match args with
  | [] => .write ⟨tag, args⟩
  | object :: _ =>
    if object = 0 then .writeSubscription rq
    else if object = 1 then .writeBinding rq
    else if object = 2 then .writeStations rq
    else if object = 3 then .writeCoverage rq
    else if object = 4 then .writeProfile rq
    else if object = 5 then .writeLoop rq
    else if object = 6 then .writeWebParam rq
    else if object = 7 then .writeHousingParam rq
    else if object = 8 then .writeProtection rq
    else if object = 9 then .writeRampMemory rq
    else if object = 10 then .writeRampDescriptor rq
    else .write ⟨tag, args⟩

/-- The row of a VALIDATE by its object code, when it names COVERAGE or PROFILE. -/
def validateRow (tag : Byte) (args : List Byte) : Option Instr :=
  match args with
  | [] => none
  | object :: rest =>
    if object = 3 then some (.validateCoverage ⟨tag, rest⟩)
    else if object = 4 then some (.validateProfile ⟨tag, rest⟩) else none

/-- The row of a RAMP request by its operation, ARM 0 to STOP 5. -/
def rampRow (tag : Byte) (args : List Byte) : Option Instr :=
  match args with
  | [] => none
  | op :: rest =>
    let rq : Request := ⟨tag, rest⟩
    if op = 0 then some (.arm rq)
    else if op = 1 then some (.disarm rq)
    else if op = 2 then some (.start rq)
    else if op = 3 then some (.pause rq)
    else if op = 4 then some (.resume rq)
    else if op = 5 then some (.stop rq) else none

/-- The row of a request by its code, when the Decoder hands it to an owner. -/
def rowOfCode (tag : Byte) (code : Nat) (args : List Byte) : Option Instr :=
  let rq : Request := ⟨tag, args⟩
  if code = 1 then some (.read rq)
  else if code = 2 then some (writeRow tag args)
  else if code = 3 then validateRow tag args
  else if code = 4 then some (.webEnable rq)
  else if code = 5 then some (.webDisable rq)
  else if code = 6 then some (.speedPlan rq)
  else if code = 7 then some (.mark rq)
  else if code = 8 then some (.clearBreak rq)
  else if code = 9 then some (.clearTrip rq)
  else if code = 10 then some (.overrideValue rq)
  else if code = 11 then some (.release rq)
  else if code = 12 then rampRow tag args
  else if code = 13 then some (.noticeMask rq)
  else if code = 14 then some (.restart rq) else none

/-- The row of a REQUEST payload. -/
def requestRow (tag : Byte) (payload : List Byte) : Instr :=
  match payload with
  | [] => .unknownRequest ⟨tag, []⟩
  | code :: args => (rowOfCode tag code.toNat args).getD (.unknownRequest ⟨tag, payload⟩)

end Sys2Proof.Machine
end

