-- ==== Sys2Proof/Machine/Restart.lean ====
section
/-! DEFINITION. RESTART (R183): each block's state by the RESTART column of its chapter. -/

namespace Sys2Proof.Machine

/-- Table 1-6. -/
def TrackWeb.restarted (t : TrackWeb) : TrackWeb :=
  { t.cursorToStart with encRef := none, queue := [], seqCounter := 0, wash := 0 }

/-- Table 2-4. -/
def WebControl.restarted (c : WebControl) : WebControl := { WebControl.reset with params := c.params }

/-- Table 3-7. -/
def InputChannel.restarted (c : InputChannel) : InputChannel := { c with record := InputRecord.reset }

/-- Table 5-4. -/
def ZoneLoop.restarted (l : ZoneLoop) : ZoneLoop :=
  { ZoneLoop.reset with kp := l.kp, ki := l.ki, iLimit := l.iLimit }

/-- Table 6-3. -/
def Finishing.restarted (f : Finishing) : Finishing :=
  { Finishing.reset with kp := f.kp, ki := f.ki, iLimit := f.iLimit }

/-- Table 7-3. -/
def Monitor.restarted (m : Monitor) : Monitor := { Monitor.reset with params := m.params }

/-- Table 8-6. -/
def OutputChannel.restarted (o : OutputChannel) (ch : Fin 30) : OutputChannel :=
  { OutputChannel.reset ch with binding := o.binding, protection := o.protection }

/-- Table 9-6: EMPTY and LOADED stay, every other state becomes LOADED. -/
def RampSlot.restarted (x : RampSlot) : RampSlot :=
  { x.reloaded with
    state := if x.state = .empty then .empty else .loaded
    timer := none
    saved := none
    passes := 0 }

/-- Every entry of a table changed by `f`. -/
def mapTab {α : Type} {n : Nat} (f : α → α) (t : Tab α n) : Tab α n := Tab.ofFn fun i => f (t.get i)

/-- The 24 ramp targets by code. -/
def allTargets : List RampTarget := (List.range 24).filterMap targetOfCode

/-- R173: the mask is kept. -/
def Emission.restarted (e : Emission) : Emission := { Emission.reset with mask := e.mask }

/-- The state an accepted RESTART leaves. Signals not yet taken are dropped, so that no notice raised before it is
delivered (R183) and no claim outlives it (R130); the release signals of R165 are sent (log entry 10). -/
def restarted (s : State) : State :=
  { s with
    signals := releaseSignals s.ramp.owners allTargets
    tracker := { webs := mapTab TrackWeb.restarted s.tracker.webs, jobs := Tab.replicate 2 none }
    webs := mapTab WebControl.restarted s.webs
    inputs := mapTab InputChannel.restarted s.inputs
    profiles := mapTab ProfileHousing.released s.profiles
    loops := mapTab ZoneLoop.restarted s.loops
    finishing := mapTab Finishing.restarted s.finishing
    monitors := mapTab Monitor.restarted s.monitors
    outputs := Tab.ofFn fun ch => (s.outputs.get ch).restarted ch
    ramp := { s.ramp with slots := mapTab RampSlot.restarted s.ramp.slots, owners := Tab.replicate 24 ⟨none, none⟩ }
    emission := s.emission.restarted }

/-- Whether RESTART is accepted: every web IDLE, no trip latch set (R183). -/
def restartAllowed (s : State) : Bool :=
  s.webs.items.all (fun c => decide (c.mode = .idle)) && s.monitors.items.all fun m => !m.latch

/-- RESTART at the Decoder. -/
def restartAnswer (_ : List Byte) (s : State) : Answer :=
  if restartAllowed s then done (restarted s) else refuse .state s

/-- RESTART (R183). -/
def execRestart (rq : Request) (s : State) : Host.Outcome State Fault Refusal :=
  request 14 rq restartAnswer s

end Sys2Proof.Machine
end

