-- ==== Sys2Proof/Machine/RingPort.lean ====
section
/-! DEFINITION. The Line Ring Port (chapter 11): forwarding, SAMPLE and VACANT slots, the ring state, and the two
events of the reset pin. -/

namespace Sys2Proof.Machine

/-- A slot forwarded untouched (R175): a slot boundary when the part is in service; none in bypass or under a held
reset pin (R179). -/
def forwardSlot (slot : Slot) (s : State) : State :=
  if s.ring.inService then (s.boundary (goodSlot slot)).putOut slot else s.putOut slot

/-- Whether the part acts on the slot as one of kind `kind` (R175). -/
def actsOn (kind : Nat) (slot : Slot) (s : State) : Bool :=
  s.ring.inService && goodSlot slot && decide (slotByte slot 0 = kind)

/-- SLOT_FORWARD (R175). -/
def execSlotForward (slot : Slot) (s : State) : Host.Outcome State Fault Refusal :=
  .next (forwardSlot slot s)

/-! ## SAMPLE slots (R176) -/

/-- The lanes a SAMPLE payload of length `len` can hold whole (R176). The half lane of an odd length counts as beyond
the lane count: DESIGN CHOICE (log entry 29). -/
def lanesHeld (len : Nat) : Nat := (len - 2) / 2

/-- What a SAMPLE slot gives Sample Intake (R176). -/
def sampleOf (slot : Slot) : Sample :=
  { node := BitVec.ofNat 8 (slotByte slot 1), setId := BitVec.ofNat 8 (slotByte slot 2),
    laneCount := min (slotByte slot 4) (lanesHeld (slotByte slot 3)),
    validity := BitVec.ofNat 8 (slotByte slot 5),
    lanes := Tab.ofFn fun i => signedWord (wordAt slot.items (6 + 2 * i.val)) }

/-- The intake events of a sample: one for each channel whose subscription names it (R49). -/
def sampleEvents (sample : Sample) (s : State) : List Instr :=
  ((List.finRange 32).filter fun ch => (s.inputs.get ch).sub.matchesSample sample).map fun ch =>
    Instr.intakeSample ch sample

/-- SAMPLE_SLOT (R176). -/
def execSampleSlot (slot : Slot) (s : State) : Host.Outcome State Fault Refusal :=
  .next (if actsOn 1 slot s then (forwardSlot slot s).send (sampleEvents (sampleOf slot) s) else forwardSlot slot s)

/-! ## VACANT slots (R177) -/

/-- VACANT_SLOT (R177). -/
def execVacantSlot (slot : Slot) (s : State) : Host.Outcome State Fault Refusal :=
  .next (if actsOn 0 slot s then offerSlot slot (s.boundary true) else forwardSlot slot s)

/-! ## Ring state (R178) -/

/-- The ring port after an expiry of its timer at part time `t`. -/
def RingPort.expired (r : RingPort) (t : PartTime) : RingPort :=
  match r.ring with
  | .up => { r with boundary := none, ring := .down, downAt := t }
  | .down => { r with boundary := none }

/-- RING_DOWN (R178): a timer that is stopped, or was restarted, does not expire. -/
def execRingDown (s : State) : Host.Outcome State Fault Refusal :=
  event (fun s =>
    match s.ring.boundary with
    | some t => if reached s.now t then { s with ring := s.ring.expired t } else s
    | none => s) s

/-! ## The reset pin (R179) -/

/-- The part after the release of the reset pin with these straps; what waits at its inputs is kept. -/
def powerOn (straps : Byte) (s : State) : State :=
  { State.reset with
    pending := s.pending
    ringIn := s.ringIn
    ring := { RingPort.reset with node := straps } }

/-- POWER_ON_RESET (R179). -/
def execPowerOnReset (straps : Byte) (s : State) : Host.Outcome State Fault Refusal :=
  .next (powerOn straps s)

/-- RESET_HELD_ACTIVE (R179): the part stops acting and passes RING IN to RING OUT. -/
def execResetHeldActive (slot : Slot) (s : State) : Host.Outcome State Fault Refusal :=
  .next { s with ring := { s.ring with resetHeld := true, ringOut := slot } }

end Sys2Proof.Machine
end

