-- ==== Sys2Proof/Machine/Dispatch.lean ====
section
/-! DEFINITION. The command dispatch: one arm per row of the table of operations and events, each a direct call of
the row's meaning. -/

namespace Sys2Proof.Machine

/-- What command `i` does to everything but the queue of commands. -/
def exec (i : Instr) (s : State) : Host.Outcome State Fault Refusal :=
  match i with
  | .powerOnReset straps => Sys2Proof.Machine.execPowerOnReset straps s
  | .slotForward slot => Sys2Proof.Machine.execSlotForward slot s
  | .sampleSlot slot => Sys2Proof.Machine.execSampleSlot slot s
  | .vacantSlot slot => Sys2Proof.Machine.execVacantSlot slot s
  | .ringDown => Sys2Proof.Machine.execRingDown s
  | .unknownRequest rq => Sys2Proof.Machine.execUnknownRequest rq s
  | .read rq => Sys2Proof.Machine.execRead rq s
  | .write rq => Sys2Proof.Machine.execWrite rq s
  | .writeSubscription rq => Sys2Proof.Machine.execWriteSubscription rq s
  | .writeBinding rq => Sys2Proof.Machine.execWriteBinding rq s
  | .writeStations rq => Sys2Proof.Machine.execWriteStations rq s
  | .writeCoverage rq => Sys2Proof.Machine.execWriteCoverage rq s
  | .writeProfile rq => Sys2Proof.Machine.execWriteProfile rq s
  | .writeLoop rq => Sys2Proof.Machine.execWriteLoop rq s
  | .writeWebParam rq => Sys2Proof.Machine.execWriteWebParam rq s
  | .writeHousingParam rq => Sys2Proof.Machine.execWriteHousingParam rq s
  | .writeProtection rq => Sys2Proof.Machine.execWriteProtection rq s
  | .writeRampMemory rq => Sys2Proof.Machine.execWriteRampMemory rq s
  | .writeRampDescriptor rq => Sys2Proof.Machine.execWriteRampDescriptor rq s
  | .validateCoverage rq => Sys2Proof.Machine.execValidateCoverage rq s
  | .validateProfile rq => Sys2Proof.Machine.execValidateProfile rq s
  | .webEnable rq => Sys2Proof.Machine.execWebEnable rq s
  | .webDisable rq => Sys2Proof.Machine.execWebDisable rq s
  | .speedPlan rq => Sys2Proof.Machine.execSpeedPlan rq s
  | .mark rq => Sys2Proof.Machine.execMark rq s
  | .clearBreak rq => Sys2Proof.Machine.execClearBreak rq s
  | .clearTrip rq => Sys2Proof.Machine.execClearTrip rq s
  | .overrideValue rq => Sys2Proof.Machine.execOverrideValue rq s
  | .release rq => Sys2Proof.Machine.execRelease rq s
  | .arm rq => Sys2Proof.Machine.execArm rq s
  | .disarm rq => Sys2Proof.Machine.execDisarm rq s
  | .start rq => Sys2Proof.Machine.execStart rq s
  | .pause rq => Sys2Proof.Machine.execPause rq s
  | .resume rq => Sys2Proof.Machine.execResume rq s
  | .stop rq => Sys2Proof.Machine.execStop rq s
  | .noticeMask rq => Sys2Proof.Machine.execNoticeMask rq s
  | .restart rq => Sys2Proof.Machine.execRestart rq s
  | .intakeSample ch sample => Sys2Proof.Machine.execIntakeSample ch sample s
  | .ageTimerExpiry ch => Sys2Proof.Machine.execAgeTimerExpiry ch s
  | .advance w => Sys2Proof.Machine.execAdvance w s
  | .trackingStart w => Sys2Proof.Machine.execTrackingStart w s
  | .queueEmptying w => Sys2Proof.Machine.execQueueEmptying w s
  | .encSpeed w => Sys2Proof.Machine.execEncSpeed w s
  | .brkSample w => Sys2Proof.Machine.execBrkSample w s
  | .encStaleSignal w => Sys2Proof.Machine.execEncStaleSignal w s
  | .brkStaleSignal w => Sys2Proof.Machine.execBrkStaleSignal w s
  | .housingDarkSignal h => Sys2Proof.Machine.execHousingDarkSignal h s
  | .zoneSwitchSignal h z incoming seq => Sys2Proof.Machine.execZoneSwitchSignal h z incoming seq s
  | .damperSwitchSignal h incoming seq => Sys2Proof.Machine.execDamperSwitchSignal h incoming seq s
  | .chillSwitchSignal h incoming seq => Sys2Proof.Machine.execChillSwitchSignal h incoming seq s
  | .completionSignal h incoming => Sys2Proof.Machine.execCompletionSignal h incoming s
  | .fullUpdate h z => Sys2Proof.Machine.execFullUpdate h z s
  | .feedforwardRefresh h z => Sys2Proof.Machine.execFeedforwardRefresh h z s
  | .zairStale h z => Sys2Proof.Machine.execZairStale h z s
  | .zoneRampSignal h told => Sys2Proof.Machine.execZoneRampSignal h told s
  | .operatorReturn h z value => Sys2Proof.Machine.execOperatorReturn h z value s
  | .protectiveReturn h z left => Sys2Proof.Machine.execProtectiveReturn h z left s
  | .dexitArrival w => Sys2Proof.Machine.execDexitArrival w s
  | .cexitArrival w => Sys2Proof.Machine.execCexitArrival w s
  | .cwretArrival w => Sys2Proof.Machine.execCwretArrival w s
  | .finishingEncArrival w => Sys2Proof.Machine.execFinishingEncArrival w s
  | .dexitStale w => Sys2Proof.Machine.execDexitStale w s
  | .cexitStale w => Sys2Proof.Machine.execCexitStale w s
  | .dampBaseRampSignal told => Sys2Proof.Machine.execDampBaseRampSignal told s
  | .chillTargetRampSignal told => Sys2Proof.Machine.execChillTargetRampSignal told s
  | .lelArrival h => Sys2Proof.Machine.execLelArrival h s
  | .monitorEncArrival h => Sys2Proof.Machine.execMonitorEncArrival h s
  | .zairTripCheck h z => Sys2Proof.Machine.execZairTripCheck h z s
  | .exhtArrival h => Sys2Proof.Machine.execExhtArrival h s
  | .lelStale h => Sys2Proof.Machine.execLelStale h s
  | .purgeClaimSignal h => Sys2Proof.Machine.execPurgeClaimSignal h s
  | .purgeTimerExpiry h => Sys2Proof.Machine.execPurgeTimerExpiry h s
  | .claim ch party values => Sys2Proof.Machine.execClaim ch party values s
  | .holderRelease ch party => Sys2Proof.Machine.execHolderRelease ch party s
  | .dwellEnd h => Sys2Proof.Machine.execDwellEnd h s
  | .dwellTimerExpiry ch => Sys2Proof.Machine.execDwellTimerExpiry ch s
  | .scheduleValue ch values => Sys2Proof.Machine.execScheduleValue ch values s
  | .activitySignal w => Sys2Proof.Machine.execActivitySignal w s
  | .movementTimerExpiry ch => Sys2Proof.Machine.execMovementTimerExpiry ch s
  | .channelActive ch => Sys2Proof.Machine.execChannelActive ch s
  | .channelInactive ch => Sys2Proof.Machine.execChannelInactive ch s
  | .topChange ch => Sys2Proof.Machine.execTopChange ch s
  | .outputChange ch => Sys2Proof.Machine.execOutputChange ch s
  | .refreshTimerExpiry ch => Sys2Proof.Machine.execRefreshTimerExpiry ch s
  | .noticeRaised n => Sys2Proof.Machine.execNoticeRaised n s
  | .paceTimerExpiry slot => Sys2Proof.Machine.execPaceTimerExpiry slot s
  | .trigger slot sig => Sys2Proof.Machine.execTrigger slot sig s
  | .breakStop slot w => Sys2Proof.Machine.execBreakStop slot w s
  | .resetHeldActive slot => Sys2Proof.Machine.execResetHeldActive slot s

end Sys2Proof.Machine
end

