-- ==== Sys2Proof/Machine/Idle.lean ====
section
/-! DEFINITION. What the part does with no command waiting: the row a slot at RING IN belongs to (R175, R179, R180),
the timers that are due, and the next command of its own. -/

namespace Sys2Proof.Machine

/-- The row a slot belongs to as it arrives (R175, R179, R180). -/
def slotRow (s : State) (slot : Slot) : Instr :=
  if s.ring.resetHeld then .resetHeldActive slot
  else if !s.ring.inService || !goodSlot slot then .slotForward slot
  else if slotByte slot 0 = 0 then .vacantSlot slot
  else if slotByte slot 0 = 1 then .sampleSlot slot
  else if slotByte slot 0 = 3 ∧ slotByte slot 1 = s.ring.node.toNat then
    requestRow (BitVec.ofNat 8 (slotByte slot 2)) (payload slot)
  else .slotForward slot

/-- A command given when a condition holds. -/
def giveIf (b : Bool) (c : Instr) : List Instr := if b then [c] else []

/-- The expiries due at the present part time, in the order ring, ages, purges, movements, dwells, refreshes, paces. -/
def dueExpiries (s : State) : List Instr :=
  giveIf (timerDue s.now s.ring.boundary) .ringDown ++
    (List.finRange 32).flatMap (fun ch => giveIf ((s.inputs.get ch).ageExpired s.now) (.ageTimerExpiry ch)) ++
    (List.finRange 2).flatMap (fun h => giveIf (timerDue s.now (s.monitors.get h).purge) (.purgeTimerExpiry h)) ++
    (List.finRange 30).flatMap (fun ch => giveIf (timerDue s.now (s.outputs.get ch).moveTimer) (.movementTimerExpiry ch)) ++
    (List.finRange 30).flatMap (fun ch => giveIf (timerDue s.now (s.outputs.get ch).dwell) (.dwellTimerExpiry ch)) ++
    (List.finRange 30).flatMap
      (fun ch => giveIf (timerDue s.now (s.emission.records.get ch).refresh) (.refreshTimerExpiry ch)) ++
    (List.finRange 8).flatMap (fun j => giveIf (paceDue s.now (s.ramp.slots.get j)) (.paceTimerExpiry j))

/-- One ms of part time. -/
def tick (s : State) : State := { s with now := s.now + 1 }

/-- The command the part takes by itself, with the state it is taken from: the oldest signal, else the slot at RING
IN, else an expiry that is due; none when only time passes. A held reset pin leaves the slots alone. DESIGN CHOICE
(log entry 6). -/
def ownCommand (s : State) : Option (Instr × State) :=
  match s.ring.resetHeld, s.signals, s.ringIn with
  | false, c :: rest, _ => some (c, { s with signals := rest })
  | _, _, slot :: rest => some (slotRow s slot, { s with ringIn := rest })
  | false, [], [] => (dueExpiries s).head?.map fun c => (c, s)
  | true, _, [] => none

end Sys2Proof.Machine
end

