-- ==== Sys2Proof/Machine/Step.lean ====
section
/-! DEFINITION. One step: the command at the front of the queue, or, with no command waiting, what the part does by
itself. -/

namespace Sys2Proof.Machine

/-- What the part does with no command waiting: its own next command, or one ms of part time (log entry 6). -/
def idle (s : State) : Host.Outcome State Fault Refusal :=
  match ownCommand s with
  | some (c, s') => exec c s'
  | none => .next (tick s)

/-- One step. -/
def step (s : State) : Host.Outcome State Fault Refusal :=
  match s.pending with
  | c :: rest => exec c { s with pending := rest }
  | [] => idle s

/-- The state with the command that a word spells put at the front of the queue: no row of the table gives bits, so
no word spells a command and the state is left as it is. -/
def State.withFetchWord (s : State) (nbits w : Nat) : State :=
  match decodeTableWord nbits w with
  | some c => { s with pending := c :: s.pending }
  | none => s

end Sys2Proof.Machine
end

