-- ==== Sys2Proof/Safety.lean ====
section
/-! DEFINITION. What safety means here: the part keeps acting. No rule of the manual ends a run, so a safe state is one
whose step answers a next state, and no run of steps from it ends. -/

namespace Sys2Proof.Machine

/-- Whether a step from `s` answers a next state. -/
def State.live (s : State) : Prop := ∃ t, step s = .next t

/-- Whether `n` steps can be taken from `s`. -/
def State.runs : Nat → State → Prop
  | 0, _ => True
  | n + 1, s => ∃ t, step s = .next t ∧ State.runs n t

end Sys2Proof.Machine
end

