-- ==== Sys2Proof/WellFormed.lean ====
section
/-! DEFINITION. Well-formed commands: what the parties of the manual can send. A meaning is total and gives an
effect to every command; a command that is not well formed is one no slot, signal or timer of the part carries. -/

namespace Sys2Proof

open Sys2Proof.Machine

/-- A request fits its slot: at most `n` argument bytes, the payload being at most 24 (Table 11-1). -/
def Request.fits (rq : Request) (n : Nat) : Bool := decide (rq.args.length ≤ n)

/-- The object code of a generic WRITE is not one of an object with a write rule of its own (Table 11-7). -/
def plainWrite (rq : Request) : Bool :=
  match rq.args with
  | [] => true
  | object :: _ => decide (10 < object.toNat)

/-- Whether the Decoder hands a payload to no owner. -/
def turnedAway (rq : Request) : Bool := decide (requestRow rq.tag rq.args = .unknownRequest rq)

/-- A value a signed 16-bit field holds. -/
def signed16 (x : Int) : Bool := decide (-32768 ≤ x) && decide (x ≤ 32767)

/-- Values on exactly the channel's lanes, each in 0..10000 (R131). -/
def lanesFit (ch : Fin 30) (vs : Lanes) : Bool :=
  decide (vs.length = laneCount ch) && vs.all fun v => decide (v ≤ Config.outputMax)

/-- Whether a party may claim on a channel: the operator on any, the LEL input and a trip cause on the nine housing
channels, a web on its twelve (Table 8-3, R34). -/
def partyFits (ch : Fin 30) (p : Party) : Bool :=
  match p with
  | .operator => true
  | .lel => isHousingChannel ch
  | .cause _ => isHousingChannel ch
  | .web w => decide (ch ∈ breakChannels w)

/-- Whether a sample is one a SAMPLE slot can carry (Table 11-2, R176). -/
def Sample.fits (x : Sample) : Bool := decide (x.laneCount ≤ 11) && x.lanes.items.all signed16

/-- Whether the details of a notice lie in their ranges (Table 11-9). -/
def Notice.fits : Notice → Bool
  | .trackGap _ d => signed16 d
  | .limitOn _ v => decide (v ≤ 1000)
  | .limitOff _ v => decide (v ≤ 1000)
  | .trip _ s r => decide (s ≠ 0) && r.all signed16
  | .brk _ s => decide (s ≠ 0)
  | .programDone _ _ p => within 1 Config.passMax p
  | .outOfWindow _ v b => signed16 v && signed16 b
  | .windowRestored _ v b => signed16 v && signed16 b
  | _ => true

/-- A ramp value lies in its target's range, or there is none (Table 9-1). -/
def rampFits (t : RampTarget) (v : Option Nat) : Bool := v.all fun x => decide (x ≤ targetMax t)

/-- Well-formed commands. -/
def Instr.wf : Instr → Bool
  | .sampleSlot slot => goodSlot slot && decide (slotByte slot 0 = 1)
  | .vacantSlot slot => goodSlot slot && decide (slotByte slot 0 = 0)
  | .unknownRequest rq => rq.fits 24 && turnedAway rq
  | .read rq => rq.fits 23
  | .write rq => rq.fits 23 && plainWrite rq
  | .writeSubscription rq => rq.fits 22
  | .writeBinding rq => rq.fits 22
  | .writeStations rq => rq.fits 22
  | .writeCoverage rq => rq.fits 22
  | .writeProfile rq => rq.fits 22
  | .writeLoop rq => rq.fits 22
  | .writeWebParam rq => rq.fits 22
  | .writeHousingParam rq => rq.fits 22
  | .writeProtection rq => rq.fits 22
  | .writeRampMemory rq => rq.fits 22
  | .writeRampDescriptor rq => rq.fits 22
  | .validateCoverage rq => rq.fits 22
  | .validateProfile rq => rq.fits 22
  | .webEnable rq => rq.fits 23
  | .webDisable rq => rq.fits 23
  | .speedPlan rq => rq.fits 23
  | .mark rq => rq.fits 23
  | .clearBreak rq => rq.fits 23
  | .clearTrip rq => rq.fits 23
  | .overrideValue rq => rq.fits 23
  | .release rq => rq.fits 23
  | .arm rq => rq.fits 22
  | .disarm rq => rq.fits 22
  | .start rq => rq.fits 22
  | .pause rq => rq.fits 22
  | .resume rq => rq.fits 22
  | .stop rq => rq.fits 22
  | .noticeMask rq => rq.fits 23
  | .restart rq => rq.fits 23
  | .intakeSample _ x => x.fits
  | .zoneRampSignal h ⟨z, setPoint, fan⟩ => rampFits (.zoneSp h z) setPoint && rampFits (.fan h z) fan
  | .dampBaseRampSignal ⟨w, base⟩ => rampFits (.dampBase w) base
  | .chillTargetRampSignal ⟨w, target⟩ => rampFits (.chillTarget w) target
  | .operatorReturn _ _ v => decide (v ≤ Config.outputMax)
  | .protectiveReturn _ _ l => decide (l ≠ .schedule) && decide (l ≠ .operator)
  | .claim ch p vs => partyFits ch p && (decide (p ≠ .operator) || lanesFit ch vs)
  | .holderRelease ch p => partyFits ch p
  | .dwellTimerExpiry ch => !isHousingChannel ch
  | .scheduleValue ch vs => lanesFit ch vs
  | .noticeRaised n => n.fits
  | _ => true

end Sys2Proof
end

