-- ==== Sys2Proof/Certificates/Slice0/Obligations.lean ====
section
/-! DEFINITION. The statements for the provers. First the words they share: what a run, a reply and a span are,
ranges, and who is served at a vacant slot. A statement says the next state as an update of the state before it:
whatever the update does not name is unchanged. -/

namespace Sys2Proof.Statements

open Sys2Proof.Machine

/-- Command `c` taken in `s` leaves `t`. -/
abbrev Runs (c : Instr) (s t : State) : Prop := exec c s = .next t

/-- The reset pin is released: the blocks act (R179). -/
abbrev Released (s : State) : Prop := s.ring.resetHeld = false

/-- The part is in service (R179): its node address is 1..254 and its reset pin released. -/
abbrev InService (s : State) : Prop := s.ring.resetHeld = false ∧ s.ring.node ≠ 0 ∧ s.ring.node ≠ 255

/-- The REPLY slot (Tables 11-1 and 11-5): the part's node address, the request's tag, the echoed code, status, flags and
data, with a fresh check. -/
def replySlot (s : State) (tag code : Byte) (st : Status) (clamped : Bool) (data : List Byte) : Slot :=
  frame ([4, s.ring.node, tag, BitVec.ofNat 8 (3 + data.length), code, BitVec.ofNat 8 (statusCode st),
    if clamped then 1 else 0] ++ data)

/-- The slot boundary of a good slot (R178): the timer restarts, and in DOWN the ring comes UP and RING_RESTORED is
raised with the recorded time. -/
def passed (s : State) : State :=
  if s.ring.ring = .down then
    { s with
      ring := { s.ring with boundary := some (s.now + 5), ring := .up }
      signals := s.signals ++ [.noticeRaised (.ringRestored s.ring.downAt)] }
  else { s with ring := { s.ring with boundary := some (s.now + 5) } }

/-- A request answered: besides the slot boundary, which `t` includes, the part puts out the REPLY. -/
abbrev Answered (c : Instr) (s : State) (tag code : Byte) (st : Status) (clamped : Bool) (data : List Byte) (t : State) :
    Prop :=
  Runs c s { t with ring := { t.ring with ringOut := replySlot s tag code st clamped data } }

/-- A request refused: nothing changes but the slot boundary and the REPLY. -/
abbrev Refused (c : Instr) (s : State) (tag code : Byte) (st : Status) (data : List Byte) : Prop :=
  Answered c s tag code st false data (passed s)

/-- A request accepted with DONE and no data. -/
abbrev Done (c : Instr) (s : State) (tag code : Byte) (t : State) : Prop := Answered c s tag code .done false [] t

/-- The state with signals sent. -/
def sending (s : State) (cs : List Instr) : State := { s with signals := s.signals ++ cs }

/-! ## Expiries -/

/-- A timer is due: it runs and its expiry time is reached (log entry 7). -/
abbrev TimerDue (now : PartTime) (timer : Option PartTime) : Prop := ∃ t, timer = some t ∧ (now - t).toNat < 2 ^ 31

/-- Command `c` is an expiry that is due: a timer, an age of max age or more (R55), a pace in RUNNING or PAUSING (R154).
-/
def ExpiryDue (s : State) : Instr → Prop
  | .ringDown => TimerDue s.now s.ring.boundary
  | .ageTimerExpiry ch => (s.record ch).ageRunning = true ∧
      (s.inputs.get ch).sub.maxAge ≤ (s.now - (s.record ch).arrival).toNat
  | .purgeTimerExpiry h => TimerDue s.now (s.monitors.get h).purge
  | .movementTimerExpiry ch => TimerDue s.now (s.outputs.get ch).moveTimer
  | .dwellTimerExpiry ch => TimerDue s.now (s.outputs.get ch).dwell
  | .refreshTimerExpiry ch => TimerDue s.now (s.emission.records.get ch).refresh
  | .paceTimerExpiry j => ((s.ramp.slots.get j).state = .running ∨ (s.ramp.slots.get j).state = .pausing) ∧
      TimerDue s.now (s.ramp.slots.get j).timer
  | _ => False

/-- The order in which expiries due at one time are taken: ring, ages, purges, movements, dwells, refreshes, paces, each
kind by its number. -/
def expiryRank : Instr → Nat
  | .ringDown => 0
  | .ageTimerExpiry ch => 100 + ch.val
  | .purgeTimerExpiry h => 200 + h.val
  | .movementTimerExpiry ch => 300 + ch.val
  | .dwellTimerExpiry ch => 400 + ch.val
  | .refreshTimerExpiry ch => 500 + ch.val
  | .paceTimerExpiry j => 600 + j.val
  | _ => 700

/-! ## The check of a slot (R175) -/

/-- The check register after one more bit, under the generator 04C11DB7. -/
def checkBit (r : BitVec 32) (b : Bool) : BitVec 32 := if r.msb = b then r <<< 1 else r <<< 1 ^^^ 0x04C11DB7

/-- The check of a slot's first 28 bytes, each taken least significant bit first. -/
def checkOf (bytes : List Byte) : BitVec 32 :=
  ~~~ ((bytes.flatMap fun b => (List.range 8).map b.getLsbD).foldl checkBit (BitVec.allOnes 32)).reverse

/-- The last four bytes of a slot are its check. -/
abbrev CheckGood (slot : Slot) : Prop :=
  checkOf (slot.items.take 28) = slot.get 28 ++ slot.get 29 ++ slot.get 30 ++ slot.get 31

/-! ## Object images (R181), field by field -/

/-- A word, a negative value in two's complement. -/
def word (x : Int) : Nat := (x % 65536).toNat

/-- Two words, high word first. -/
def wide (x : Int) : List Nat := [(x / 65536 % 65536).toNat, (x % 65536).toNat]

def flag (b : Bool) : Nat := if b then 1 else 0

/-- An optional value of `k` words behind its presence word. -/
def optionView {α : Type} (k : Nat) (f : α → List Nat) : Option α → List Nat
  | some x => 1 :: f x
  | none => List.replicate (k + 1) 0

/-- The code of an enumerated value: its place in the list that defines it (R174). -/
def code {α : Type} [DecidableEq α] (all : List α) (x : α) : Nat := all.findIdx fun y => decide (y = x)

def modes : List Mode := [.idle, .standby, .crawl, .run, .brk]
def markers : List MarkerKind := [.splice, .jobcut, .wash] ++ (List.finRange 7).map .note
def levels : List Level := [.schedule, .operator, .limit, .brk, .trip]
def trims : List Trim := [.zero, .half, .one, .two]
def origins : List Source := [.p, .q, .ramp]

/-- A timer: whether it runs, and its expiry. -/
def timerView (t : Option PartTime) : List Nat := optionView 2 (fun e => wide e.toNat) t

def freshView (s : State) (ch : Fin 32) : Nat := flag (s.record ch).fresh

/-- Both webs of the housing are IDLE. -/
abbrev Dark (s : State) (h : Fin 2) : Prop := s.mode (firstWeb h) = .idle ∧ s.mode (secondWeb h) = .idle

def darkView (s : State) (h : Fin 2) : Nat := if Dark s h then 1 else 0

/-- STATUS_WEB (R43); a web governs when it is enabled and leads, or its counterpart is IDLE (R42). -/
def webView (s : State) (w : Fin 4) : List Nat :=
  let c := s.webs.get w
  let h := housingOf w
  [code modes c.mode, c.v] ++ optionView 2 (fun p : Plan => [p.target, p.rate]) c.plan ++
    [s.demandSpeed w, c.causes.toNat,
      if c.mode ≠ .idle ∧ (s.leadWeb h = w ∨ s.mode (otherWeb w) = .idle) then 1 else 0, darkView s h]

/-- STATUS_QUEUE (R26): 64 record places of nine words, 0 beyond the last record. -/
def queueView (s : State) (w : Fin 4) : List Nat :=
  let t := s.track w
  let states : List CovState := [.invalid, .valid, .active]
  let marker := fun m : Marker => [code markers m.kind, code [.request, .program] m.source, m.next]
  let place := fun p : Nat => match t.queue[p]? with
    | some x => [x.seq.toNat] ++ wide x.head.toNat ++ [x.length, x.load] ++ optionView 3 marker x.marker
    | none => List.replicate 9 0
  wide t.path.toNat ++ [if t.encRef = none then 1 else 0, t.cursorRun.val, t.cursorLeft] ++
    (if t.bankA.state = .active then [1, 0] else if t.bankB.state = .active then [1, 1] else [0, 0]) ++
    [code states t.bankA.state, code states t.bankB.state, t.wash,
      if s.tracker.jobs.get (housingOf w) = none then 0 else 1, t.queue.length] ++ (List.range 64).flatMap place

/-- STATUS_INPUT (R59). -/
def inputView (s : State) (ch : Fin 32) : List Nat :=
  let r := s.record ch
  [flag r.fresh, ((List.finRange 8).map fun i => if r.lanes.get i = none then 0 else 2 ^ i.val).sum] ++
    ((List.finRange 8).map fun i => word ((r.lanes.get i).getD 0)) ++ wide r.arrival.toNat ++
    wide (s.now - r.arrival).toNat ++ [flag r.ageRunning]

/-- What STATUS_CHANNEL gives of every channel (R146, R166): `dwell` is the dwell end of its BREAK and TRIP entries,
`role` what its role adds before the emission record. -/
def channelView (s : State) (ch : Fin 30) (dwell : Option PartTime) (role : List Nat) : List Nat :=
  let o := s.outputs.get ch
  let b := o.binding
  let r := s.emission.records.get ch
  let lanes := fun vs : Lanes => (List.range (laneCount ch)).map fun i => vs.getD i 0
  let fields := fun (l : Level) (holders : Nat) (src : ValueSource) (v : Lanes) (claim dwell : Option PartTime)
      (pending : Bool) =>
    [code levels l, holders, code [.computed, .stored, .park, .held] src] ++ lanes v ++ timerView claim ++
      timerView dwell ++ [flag pending]
  let entry := fun (i : Fin 4) (l : Level) (dwell : Option PartTime) => optionView (10 + laneCount ch)
    (fun e : Entry => fields l e.holders.toNat e.source e.value (some e.claimTime) dwell e.releasePending)
    (o.entries.get i)
  [flag b.bound, b.node, b.tag, b.deadband, b.refresh, b.slew, flag o.active] ++
    fields .schedule 0 .computed o.schedule none none false ++ entry 0 .operator none ++ entry 1 .limit none ++
    entry 2 .brk dwell ++ entry 3 .trip dwell ++ [code levels o.top] ++ lanes o.target ++ lanes (o.output s.now) ++
    lanes o.originValue ++ wide o.originTime.toNat ++ timerView o.moveTimer ++ role ++
    optionView (laneCount ch) lanes r.lastSent ++ timerView r.refresh ++ [flag r.pending]

/-- What the zone loop adds to the view of its HEAT and FAN channel (R98). -/
def loopView (s : State) (h : Fin 2) (z : Fin 4) : List Nat :=
  let l := s.loops.get (loopIx h z)
  [l.kp, l.ki, l.iLimit, l.setPoint, code origins l.source] ++ wide l.iAcc ++ [word l.lastE] ++ wide l.lastP ++
    wide l.lastTrim ++ wide l.ffEvap ++ wide l.ffWeb ++
    [l.ff, l.heat, l.fan, code trims l.factor, freshView s (zairCh h z), darkView s h]

/-- The exhaust record (R129). -/
def exhaustView (x : ExhaustRecord) : List Nat :=
  wide x.total ++ optionView 1 (fun v => [v]) x.lel ++ wide x.lelTerm ++ [x.exh]

/-- What Web Finishing adds to the views of DAMP, CHILL A and CHILL B (R115). -/
def barView (s : State) (w : Fin 4) : List Nat :=
  [freshView s (dexitCh w), freshView s (cexitCh w), freshView s (cwretCh w), code modes (s.mode w)]

def damperView (s : State) (w : Fin 4) : List Nat :=
  let f := s.finishing.get w
  f.dampers.items ++ [flag f.runSeen, f.dampBase, if f.dampSource = .ramp then 1 else 0, flag f.dryOut] ++ barView s w

def chillView (s : State) (w : Fin 4) : List Nat :=
  let f := s.finishing.get w
  [f.kp, f.ki, f.iLimit, f.target, code origins f.targetSource, f.deltaT] ++ wide f.ff ++ wide f.iAcc ++
    [word f.lastE] ++ wide f.lastP ++ wide f.lastTrim ++
    [code trims f.factor, f.chillA, f.chillB, flag f.chillOut, flag f.returnAOut, flag f.returnBOut] ++ barView s w

/-- STATUS_PROFILE (R78), the indicators in the order of their subject numbers (R174). -/
def profileView (s : State) (h : Fin 2) : List Nat :=
  let p := s.profiles.get h
  let states : List ProfState := [.invalid, .valid, .inUse]
  let bank := fun b : Bank => [code [Bank.p, .q] b]
  [code states p.bankP.state, code states p.bankQ.state] ++
    [p.zones.get 0, p.zones.get 1, p.zones.get 2, p.zones.get 3, p.dampers.get 0, p.chills.get 0, p.dampers.get 1,
      p.chills.get 1].flatMap (optionView 1 bank) ++
    optionView 2 (fun incoming : Bank => bank (otherBank incoming) ++ bank incoming) p.switch ++ [darkView s h]

/-- STATUS_HOUSING (R129). -/
def housingView (s : State) (h : Fin 2) : List Nat :=
  let m := s.monitors.get h
  [flag m.limitOn, flag m.latch, m.causes.toNat] ++ timerView m.purge ++
    (match m.purge with
      | some t => wide (t - s.now).toNat
      | none => [0, 0]) ++ exhaustView m.exhaust ++
    [freshView s (lelCh h), freshView s (exhtCh h), freshView s (zairCh h 0), freshView s (zairCh h 1),
      freshView s (zairCh h 2), freshView s (zairCh h 3), darkView s h]

/-- STATUS_PROGRAM of a slot (R164): eight places for the targets it owns, 65535 beyond the last; the pass count in one
word (log entry 34). -/
def programView (s : State) (j : Fin 8) : List Nat :=
  let x := s.ramp.slots.get j
  let owned := (List.finRange 24).filter fun i => decide ((s.ramp.owners.get i).owner = some j)
  let places := owned.flatMap fun i => i.val :: optionView 1 (fun v => [v]) (s.ramp.owners.get i).value
  [code [.empty, .loaded, .armed, .running, .pausing, .paused, .holding] x.state, x.pointer, x.n, x.l, x.b,
    x.desc.n.getD 0 - x.n] ++ timerView x.timer ++ timerView x.saved ++ [x.passes] ++
    (places ++ (List.replicate 8 [65535, 0, 0]).flatten).take 24

/-- STATUS_PROGRAM of the ownership table. -/
def ownersView (s : State) : List Nat :=
  s.ramp.owners.items.flatMap fun e => optionView 1 (fun j : Fin 8 => [j.val]) e.owner ++ optionView 1 (fun v => [v]) e.value

/-- The code of a ramp target (R174). -/
def targetCode : RampTarget → Nat
  | .zoneSp h z => 4 * h.val + z.val
  | .fan h z => 8 + 4 * h.val + z.val
  | .chillTarget w => 16 + w.val
  | .dampBase w => 20 + w.val

/-- RAMP_DESCRIPTOR (R150): each field behind its presence word, a trigger in four words, a target list in eight words,
65535 beyond its entries. -/
def descriptorView (d : RampDescriptor) : List Nat :=
  let number := optionView 1 fun n : Nat => [n]
  let offset := optionView 1 fun k : Int => [word k]
  let trigger := fun t : Trigger => match t with
    | .console => [0, 0, 0, 0]
    | .on (.mode w m) => [1, w.val, code modes m, 0]
    | .on (.marker w k st) => [2, w.val, code markers k, st.val]
    | .on (.chain j) => [3, j.val, 0, 0]
  number d.base ++ optionView 1 (fun m => [code [RampMode.one, .two, .three] m]) d.mode ++
    optionView 1 (fun x => [code [Transfer.step, .line] x]) d.transfer ++
    flag d.targets.isSome :: (((d.targets.getD []).map targetCode) ++ List.replicate 8 65535).take 8 ++
    number d.n ++ number d.l ++ number d.bk ++ offset d.off1 ++ offset d.off2 ++ number d.reload ++
    optionView 1 (fun x => [code [Tick.ms10, .ms100, .s1, .s10] x]) d.tick ++ optionView 4 trigger d.trigger ++
    optionView 1 (fun x => [code [EndAction.release, .hold, .repeatPass] x]) d.endAction ++
    optionView 1 (fun b => [flag b]) d.rearm

/-! ## Spans (R181) -/

/-- A span of whole words within an image of `words` words. -/
abbrev SpanFits (words : Nat) (sp : Span) : Prop :=
  1 ≤ sp.vals.length ∧ sp.vals.length ≤ 8 ∧ sp.start + sp.vals.length ≤ words ∧ ∀ v ∈ sp.vals, v < 65536

/-- The argument bytes of a WRITE from the index on: index, offset, count, bytes. -/
def spanArgs (index : Nat) (sp : Span) : List Byte :=
  BitVec.ofNat 8 index :: (wordBytes (2 * sp.start) ++ [BitVec.ofNat 8 (2 * sp.vals.length)] ++ bytesOfWords sp.vals)

/-- Whether every carried word lies in the range listed for its place in the image. -/
abbrev InRanges (ranges : List (Nat × Nat)) (sp : Span) : Prop :=
  ∀ k, k < sp.vals.length →
    (ranges.getD (sp.start + k) (0, 0)).1 ≤ sp.vals.getD k 0 ∧ sp.vals.getD k 0 ≤ (ranges.getD (sp.start + k) (0, 0)).2

/-- The image `new` is the image `old` with the carried words in place. -/
abbrev Carried (sp : Span) (old new : List Nat) : Prop :=
  new = old.take sp.start ++ sp.vals ++ old.drop (sp.start + sp.vals.length)

/-- Whether the span carries word `i`. -/
abbrev Carries (sp : Span) (i : Nat) : Prop := sp.start ≤ i ∧ i < sp.start + sp.vals.length

/-! ## Vacant slots (R169) -/

/-- Channel `ch` is pending at level `l`. -/
abbrev PendingAt (s : State) (l : Level) (ch : Fin 30) : Prop :=
  (s.emission.records.get ch).pending = true ∧ (s.outputs.get ch).top = l

/-- How many channels stand between the pointer and `ch` in the order of service, wrapping from 29 to 0. -/
def wait (pointer ch : Fin 30) : Nat := (ch.val + 29 - pointer.val) % 30

/-- The round-robin pointer of a level. -/
def pointerOf (s : State) (l : Level) : Fin 30 :=
  match l with
  | .schedule => s.emission.pointers.get 0
  | .operator => s.emission.pointers.get 1
  | .limit => s.emission.pointers.get 2
  | .brk => s.emission.pointers.get 3
  | .trip => s.emission.pointers.get 4

/-- Channel `ch` is the first pending one at level `l` after the level's pointer, and no channel is pending above. -/
def FirstServed (s : State) (l : Level) (ch : Fin 30) : Prop :=
  PendingAt s l ch ∧ (∀ c, PendingAt s l c → wait (pointerOf s l) ch ≤ wait (pointerOf s l) c) ∧
    ∀ l' c, levelCode l < levelCode l' → ¬ PendingAt s l' c

/-- A good slot of kind VACANT taken in service. -/
abbrev VacantOffered (s : State) (slot : Slot) : Prop :=
  InService s ∧ goodSlot slot = true ∧ slotByte slot 0 = 0

/-! ## Notices (Tables 10-1, 11-6 and 11-9) -/

/-- Two bytes, high byte first, a negative value in two's complement. -/
def bytes2 (x : Int) : List Byte := [BitVec.ofInt 8 (x / 256), BitVec.ofInt 8 x]

/-- Four bytes of a part time, high byte first. -/
def bytes4 (t : PartTime) : List Byte :=
  [t.extractLsb' 24 8, t.extractLsb' 16 8, t.extractLsb' 8 8, t.extractLsb' 0 8]

/-- What a NOTICE frame says of its notice: kind, subject class, subject number and detail. -/
structure NoticeView where
  kind : Nat
  subjectClass : Nat
  subject : Nat
  detail : List Byte

/-- The number of an indicator (R174). -/
def indicatorCode : Indicator → Nat
  | .zone h z => 8 * h.val + z.val
  | .damper w => 8 * (w.val / 2) + 4 + 2 * (w.val % 2)
  | .chill w => 8 * (w.val / 2) + 5 + 2 * (w.val % 2)

/-- The number of a window (R174). -/
def windowCode : Window → Nat
  | .dry w => 4 * w.val
  | .chillExit w => 4 * w.val + 1
  | .waterReturn w .a => 4 * w.val + 2
  | .waterReturn w .b => 4 * w.val + 3

/-- The frame's view of each notice, kind by kind. -/
def noticeView : Notice → NoticeView
  | .modeChange w old new => ⟨0, 0, w.val, [BitVec.ofNat 8 (code modes old), BitVec.ofNat 8 (code modes new)]⟩
  | .brk w causes => ⟨1, 0, w.val, [causes.zeroExtend 8]⟩
  | .trackGap w delta => ⟨2, 0, w.val, bytes2 delta⟩
  | .markerPassed w k st seq =>
    ⟨3, 0, w.val, [BitVec.ofNat 8 (code markers k), BitVec.ofNat 8 st.val] ++ bytes2 seq.toNat⟩
  | .markerDropped w k source =>
    ⟨4, 0, w.val, [BitVec.ofNat 8 (code markers k), BitVec.ofNat 8 (code [.request, .program] source)]⟩
  | .inputStale ch mask => ⟨5, 2, ch.val, [mask]⟩
  | .inputRestored ch mask => ⟨6, 2, ch.val, [mask]⟩
  | .profileSwitched i bank (.marker seq) =>
    ⟨7, 3, indicatorCode i, [BitVec.ofNat 8 (code [.p, .q] bank), 0] ++ bytes2 seq.toNat⟩
  | .profileSwitched i bank .discard => ⟨7, 3, indicatorCode i, [BitVec.ofNat 8 (code [.p, .q] bank), 1, 0, 0]⟩
  | .bankFree h bank cause =>
    ⟨8, 1, h.val, [BitVec.ofNat 8 (code [.p, .q] bank), BitVec.ofNat 8 (code [.switch, .dark] cause)]⟩
  | .limitOn h lel => ⟨9, 1, h.val, bytes2 lel⟩
  | .limitOff h lel => ⟨10, 1, h.val, bytes2 lel⟩
  | .trip h causes none => ⟨11, 1, h.val, [causes.zeroExtend 8, 0, 0, 0]⟩
  | .trip h causes (some reading) => ⟨11, 1, h.val, [causes.zeroExtend 8, 1] ++ bytes2 reading⟩
  | .tripCleared h causes => ⟨12, 1, h.val, [causes.zeroExtend 8]⟩
  | .programDone j action passes =>
    ⟨13, 5, j.val, BitVec.ofNat 8 (code [.release, .hold, .repeatPass] action) :: bytes2 passes⟩
  | .programBlocked j target owner kind =>
    ⟨14, 5, j.val, [BitVec.ofNat 8 (targetCode target), BitVec.ofNat 8 owner.val, BitVec.ofNat 8 kind.val]⟩
  | .outOfWindow window value bound => ⟨15, 4, windowCode window, bytes2 value ++ bytes2 bound⟩
  | .windowRestored window value bound => ⟨16, 4, windowCode window, bytes2 value ++ bytes2 bound⟩
  | .ringRestored downAt => ⟨17, 6, 0, bytes4 downAt⟩

/-! ## Input channels (Table 3-1) -/

/-- The number of lanes the role of channel `ch` uses. -/
def lanesUsed (ch : Fin 32) : Nat :=
  if ch.val < 12 then 1 else [8, 8, 2, 3, 4].getD ((ch.val - 12) % 5) 0

/-- `mask` has bit i set for each lane i that is present. -/
abbrev MasksPresent (mask : BitVec 8) (lanes : Tab (Option Int) 8) : Prop :=
  ∀ i : Fin 8, mask.getLsbD i.val = true ↔ lanes.get i ≠ none

/-! ## Webs -/

/-- What a transition of web `w` reports: MODE_CHANGE, and the trigger signal to the eight slots. -/
def transition (w : Fin 4) (old new : Mode) : List Instr :=
  .noticeRaised (.modeChange w old new) :: (List.finRange 8).map fun j => .trigger j (.mode w new)

/-- The twelve channels a break of web `w` claims: its housing's nine, its DAMP, CHILL A and CHILL B. -/
def reachedBy (w : Fin 4) : List (Fin 30) :=
  let h := housingOf w
  [heatOut h 0, heatOut h 1, heatOut h 2, heatOut h 3, fanOut h 0, fanOut h 1, fanOut h 2, fanOut h 3, exhOut h,
    dampOut w, chillAOut w, chillBOut w]

/-- Web `w`, with control record `c`, taken into BREAK with these causes. -/
def broken (w : Fin 4) (c : WebControl) (causes : BitVec 5) (s : State) : State :=
  sending { s with webs := s.webs.set w { c with mode := .brk, plan := none, causes := causes } }
    (.queueEmptying w :: (List.finRange 8).map (fun j => .breakStop j w) ++
      (reachedBy w).map (fun ch => .claim ch (.web w) []) ++ transition w c.mode .brk ++ [.noticeRaised (.brk w causes)])

/-- A BRK lane is active: present and nonzero. -/
def LaneActive (s : State) (w : Fin 4) (i : Fin 4) : Prop :=
  ∃ x, (s.record (brkCh w)).lanes.get ⟨i.val, by omega⟩ = some x ∧ x ≠ 0

/-- The state with web `w`'s tracking state and the pending job switch of its housing replaced. -/
def tracked (w : Fin 4) (t : TrackWeb) (job : Option Bank) (s : State) : State :=
  { s with tracker := { webs := s.tracker.webs.set w t, jobs := s.tracker.jobs.set (housingOf w) job } }

/-- Marker `m` joins the queue of `t` at the entry, giving `t'` (R19, R21): onto the open record while that has no length
and no marker; else on a new record; else, at 64 records, onto the open record or dropped, the heavier load kept. -/
def Placed (m : Marker) (load : Nat) (t t' : TrackWeb) (dropped : Bool) : Prop :=
  ∃ older o, t.queue = older ++ [o] ∧
    ((o.length = 0 ∧ o.marker = none ∧ dropped = false ∧
        t' = { t with queue := older ++ [{ o with load := load, marker := some m }] }) ∨
      (0 < o.length ∧ t.queue.length < 64 ∧ dropped = false ∧
        t' = { t with
          queue := t.queue ++ [{ seq := t.seqCounter, head := t.path, length := 0, load := load, marker := some m }]
          seqCounter := t.seqCounter + 1 }) ∨
      (0 < o.length ∧ 64 ≤ t.queue.length ∧ o.marker = none ∧ dropped = false ∧
        t' = { t with queue := older ++ [{ o with load := max o.load load, marker := some m }] }) ∨
      (0 < o.length ∧ 64 ≤ t.queue.length ∧ o.marker ≠ none ∧ dropped = true ∧
        t' = { t with queue := older ++ [{ o with load := max o.load load }] }))

/-- A MARK may be placed on web `w`: it is in motion, and its open record is not a fresh one with a marker. -/
def MarkTaken (s : State) (w : Fin 4) : Prop :=
  (s.mode w = .standby ∨ s.mode w = .crawl ∨ s.mode w = .run) ∧
    ∃ older o, (s.track w).queue = older ++ [o] ∧ ¬ (o.length = 0 ∧ o.marker ≠ none)

end Sys2Proof.Statements

open Sys2Proof Sys2Proof.Machine Sys2Proof.Statements

/-! ## The machine -/

/-- With a command waiting, a step is that command on the queue's rest. -/
def Obligations.StepRunsFrontCommand : Prop :=
  ∀ (c : Instr) (rest : List Instr) (s : State), s.pending = c :: rest → step s = exec c { s with pending := rest }

/-- With no command waiting (the model's choice, log entry 6): the oldest signal, else the slot at RING IN, else an
expiry that is due, else one ms of part time; a held reset pin leaves the slots and time alone. The expiries due are
those whose time is reached, in a fixed order. -/
def Obligations.IdleStepOrder : Prop :=
  ∀ s : State, s.pending = [] →
    (∀ c rest, Released s → s.signals = c :: rest → step s = exec c { s with signals := rest }) ∧
    (∀ slot rest, (s.ring.resetHeld = true ∨ s.signals = []) → s.ringIn = slot :: rest →
      step s = exec (slotRow s slot) { s with ringIn := rest }) ∧
    (∀ c, Released s → s.signals = [] → s.ringIn = [] → (dueExpiries s).head? = some c → step s = exec c s) ∧
    ((s.ring.resetHeld = true ∨ s.signals = [] ∧ dueExpiries s = []) → s.ringIn = [] →
      step s = .next { s with now := s.now + 1 }) ∧
    (∀ c, c ∈ dueExpiries s ↔ ExpiryDue s c) ∧ (dueExpiries s).Pairwise fun c d => expiryRank c < expiryRank d

/-- No command ends the run, waits, or touches what is waiting; and no command but a power-on reset moves part time or
the latched node address. (That POWER_ON_RESET and RESTART leave alone what waits at the model's inputs is log entry 3,
and that RESTART keeps part time log entry 4: the model's choices.) -/
def Obligations.EveryCommandAnswers : Prop :=
  ∀ (c : Instr) (s : State), ∃ t, Runs c s t ∧ t.pending = s.pending ∧ t.ringIn = s.ringIn ∧
    ((∀ straps, c ≠ .powerOnReset straps) → t.now = s.now ∧ t.ring.node = s.ring.node)

/-- POWER_ON_RESET latches the straps and gives every block its power-on values, whatever the state (the model's choices:
what waits at its inputs is kept, log entry 3; part time starts at 0, log entry 4; RING OUT holds 32 zero bytes, log
entry 5). RESET_HELD_ACTIVE stops the part and passes the 32 bytes on; while the pin is held
a slot passes from RING IN to RING OUT, and no other command than the release changes anything. (That a request or a
timer has no effect while the pin is held is the model's reading: log entry 20.) -/
def Obligations.ResetPin : Prop :=
  (∀ (straps : Byte) (s : State), Runs (.powerOnReset straps) s
    { State.reset with
      pending := s.pending
      ringIn := s.ringIn
      ring := { State.reset.ring with node := straps } }) ∧
  (∀ (slot : Slot) (s : State), Runs (.resetHeldActive slot) s
    { s with ring := { s.ring with resetHeld := true, ringOut := slot } }) ∧
  (∀ (s : State), s.ring.resetHeld = true →
    (∀ slot c, c ∈ [Instr.slotForward slot, .sampleSlot slot, .vacantSlot slot] →
      Runs c s { s with ring := { s.ring with ringOut := slot } }) ∧
    (∀ c, (∀ slot, c ∉ [Instr.slotForward slot, .sampleSlot slot, .vacantSlot slot, .resetHeldActive slot]) →
      (∀ straps, c ≠ .powerOnReset straps) → Runs c s s))

/-- The power-on values of the chapters' reset tables, every field of every block. -/
def Obligations.PowerOnValues : Prop :=
  let s := State.reset
  (∀ w, (s.webs.get w).mode = .idle ∧ (s.webs.get w).v = 0 ∧ (s.webs.get w).plan = none ∧
    (s.webs.get w).causes = 0 ∧ (s.params w).words = List.replicate 12 0) ∧
  (let unwritten : CoverageBank := ⟨0, 0, Tab.replicate 32 ⟨0, 0, none⟩, .invalid⟩
   ∀ w, (s.track w).queue = [] ∧ (s.track w).path = 0 ∧ (s.track w).encRef = none ∧ (s.track w).seqCounter = 0 ∧
    (s.track w).wash = 0 ∧ (s.track w).stationsSet = false ∧ (s.track w).mask = 0 ∧
    (s.track w).stations.items = [0, 0, 0, 0, 0, 0, 0] ∧ (s.track w).cursorRun = 0 ∧ (s.track w).cursorLeft = 0 ∧
    (s.track w).bankA = unwritten ∧ (s.track w).bankB = unwritten) ∧
  (∀ h, s.tracker.jobs.get h = none ∧ (s.profiles.get h).switch = none ∧
    (s.profiles.get h).bankP.state = .invalid ∧ (s.profiles.get h).bankQ.state = .invalid ∧
    (s.profiles.get h).bankP.fields.words = List.replicate 239 0 ∧
    (s.profiles.get h).bankQ.fields.words = List.replicate 239 0 ∧
    (s.profiles.get h).indicators = List.replicate 8 none) ∧
  (∀ ch, (s.record ch).fresh = false ∧ (s.record ch).lanes.items = List.replicate 8 none ∧
    (s.record ch).arrival = 0 ∧ (s.record ch).ageRunning = false ∧
    (s.inputs.get ch).sub.words = [0, 0, 0, 0, 1, 2, 3, 4, 5, 6, 7, 0, 0, 0]) ∧
  (∀ i, s.loops.get i = ⟨0, 0, 0, 0, .p, 0, 0, 0, 0, 0, 0, 0, 0, 0, .zero⟩) ∧
  (∀ w, s.finishing.get w =
    { dampers := Tab.replicate 8 0, runSeen := false, dampBase := 0, dampSource := .p, factor := .zero
      dryOut := false, chillOut := false, returnAOut := false, returnBOut := false, kp := 0, ki := 0, iLimit := 0
      target := 0, targetSource := .p, deltaT := 0, ff := 0, iAcc := 0, lastE := 0, lastP := 0, lastTrim := 0
      chillA := 0, chillB := 0 }) ∧
  (∀ h, (s.monitors.get h).limitOn = false ∧ (s.monitors.get h).latch = false ∧ (s.monitors.get h).causes = 0 ∧
    (s.monitors.get h).purge = none ∧ (s.housing h).words = List.replicate 13 0 ∧
    (s.monitors.get h).exhaust = { total := 0, lel := none, lelTerm := 0, exh := 0 }) ∧
  (∀ ch, let o := s.outputs.get ch
    let zeros := List.replicate (laneCount ch) 0
    o.active = false ∧ o.top = .schedule ∧ o.schedule = zeros ∧ o.entries.items = [none, none, none, none] ∧
    o.target = zeros ∧ o.output s.now = zeros ∧ o.originValue = zeros ∧ o.originTime = 0 ∧ o.returnHold = none ∧
    o.moveTimer = none ∧ o.dwell = none ∧ o.binding.words = [0, 0, 0, 0, 0, 0]) ∧
  (∀ h z, (s.outputs.get (heatOut h z)).protection.items = [some 0, some 0, some 0] ∧
    (s.outputs.get (fanOut h z)).protection.items = [none, none, none] ∧
    (s.outputs.get (exhOut h)).protection.items = [some 10000, some 10000, some 10000]) ∧
  (∀ w, (s.outputs.get (dampOut w)).protection.items = [none, none, none] ∧
    (s.outputs.get (chillAOut w)).protection.items = [none, none, none] ∧
    (s.outputs.get (chillBOut w)).protection.items = [none, none, none]) ∧
  (∀ a, RampMemory.read s.ramp.memory a = 0) ∧
  (∀ j, s.ramp.slots.get j =
    { desc := ⟨none, none, none, none, none, none, none, none, none, none, none, none, none, none⟩, state := .empty
      pointer := 0, n := 0, l := 0, b := 0, timer := none, saved := none, passes := 0 }) ∧
  (∀ i, s.ramp.owners.get i = ⟨none, none⟩) ∧
  (∀ ch, s.emission.records.get ch = ⟨none, none, false⟩) ∧ (∀ l, s.emission.pointers.get l = 29) ∧
  s.emission.previous = .command ∧ s.emission.queue = [] ∧ (∀ k : Fin 18, s.emission.mask.getLsbD k.val = true) ∧
  s.ring.ring = .down ∧ s.ring.downAt = 0 ∧ s.ring.boundary = none

/-! ## The Line Ring Port -/

/-- SLOT_FORWARD: the slot goes on unchanged; in service it is a slot boundary, which a bad slot is too without bringing
the ring UP; in bypass it is nothing else. -/
def Obligations.SlotForwarded : Prop :=
  ∀ (slot : Slot) (s : State),
    (InService s → goodSlot slot = true →
      Runs (.slotForward slot) s { passed s with ring := { (passed s).ring with ringOut := slot } }) ∧
    (InService s → goodSlot slot = false →
      Runs (.slotForward slot) s { s with ring := { s.ring with boundary := some (s.now + 5), ringOut := slot } }) ∧
    (s.ring.node = 0 ∨ s.ring.node = 255 →
      Runs (.slotForward slot) s { s with ring := { s.ring with ringOut := slot } })

/-- SAMPLE_SLOT: the slot goes on unchanged and each channel whose enabled subscription names its node and set id is
given the sample as an event of its own. (The model's choices: the channels are chosen as the slot passes, log entry 8;
half a lane at the end of an odd payload is no lane, log entry 29.) -/
def Obligations.SampleSlotGiven : Prop :=
  ∀ (slot : Slot) (s : State), InService s → goodSlot slot = true → slotByte slot 0 = 1 →
    ∃ (x : Sample) (given : List (Fin 32)),
      x.node = slot.get 1 ∧ x.setId = slot.get 2 ∧ x.validity = slot.get 5 ∧
      x.laneCount = min (slotByte slot 4) ((slotByte slot 3 - 2) / 2) ∧
      (∀ i : Fin 8, (x.lanes.get i) =
        (BitVec.ofNat 16 (slotByte slot (6 + 2 * i.val) * 256 + slotByte slot (7 + 2 * i.val))).toInt) ∧
      given.Nodup ∧
      (∀ ch, ch ∈ given ↔ (s.inputs.get ch).sub.enabled = true ∧ (s.inputs.get ch).sub.node = x.node.toNat ∧
        (s.inputs.get ch).sub.setId = x.setId.toNat) ∧
      Runs (.sampleSlot slot) s (sending { passed s with ring := { (passed s).ring with ringOut := slot } }
        (given.map fun ch => .intakeSample ch x))

/-- VACANT_SLOT. A command is due when a channel is pending at TRIP or BREAK, or one is pending below with no notice
waiting or a notice granted last: the channel leaves the set, last-sent, its timers and the level's pointer follow, and
the COMMAND frame stands in the slot. With a notice waiting, no channel pending at TRIP or BREAK, and none pending at
all or a command granted last, the oldest entry leaves the queue and its NOTICE frame, with kind, subject and detail by
Tables 11-6 and 11-9, stands in the slot. With nothing waiting the slot goes on vacant. -/
def Obligations.VacantSlotGranted : Prop :=
  (∀ (slot : Slot) (s : State) (l : Level) (ch : Fin 30), VacantOffered s slot → FirstServed s l ch →
      (l = .trip ∨ l = .brk ∨ s.emission.queue = [] ∨ s.emission.previous = .notice) →
      let o := s.outputs.get ch
      let lanes := o.output s.now
      Runs (.vacantSlot slot) s
        { passed s with
          outputs := s.outputs.set ch { o with moveTimer := o.movement s.now (some lanes) }
          emission := { s.emission with
            records := s.emission.records.set ch
              { lastSent := some lanes, refresh := some (s.now + BitVec.ofNat 32 o.binding.refresh), pending := false }
            pointers := s.emission.pointers.set (levelIx l) ch
            previous := .command }
          ring := { (passed s).ring with
            ringOut := frame ([2, BitVec.ofNat 8 o.binding.node, BitVec.ofNat 8 o.binding.tag,
              BitVec.ofNat 8 (2 + 2 * lanes.length), BitVec.ofNat 8 (levelCode l), BitVec.ofNat 8 lanes.length] ++
              lanes.flatMap wordBytes) } }) ∧
  (∀ (slot : Slot) (s : State), VacantOffered s slot →
      (∀ (e : NoticeEntry) (rest : List NoticeEntry), s.emission.queue = e :: rest →
        (∀ ch, ¬ PendingAt s .trip ch ∧ ¬ PendingAt s .brk ch) →
        ((∀ ch, (s.emission.records.get ch).pending = false) ∨ s.emission.previous = .command) →
        let v := noticeView e.notice
        Runs (.vacantSlot slot) s
          { passed s with
            emission := { s.emission with queue := rest, previous := .notice }
            ring := { (passed s).ring with
              ringOut := frame ([5, s.ring.node, BitVec.ofNat 8 rest.length, 24,
                BitVec.ofNat 8 v.kind, BitVec.ofNat 8 v.subjectClass, BitVec.ofNat 8 v.subject, BitVec.ofNat 8 e.count,
                if e.overflow then 1 else 0] ++ bytes4 e.time ++ v.detail) } }) ∧
      (s.emission.queue = [] → (∀ ch, (s.emission.records.get ch).pending = false) →
        Runs (.vacantSlot slot) s { passed s with ring := { (passed s).ring with ringOut := slot } }))

/-- RING_DOWN: the timer, once its expiry time is reached, stops; in UP the ring goes DOWN with that time recorded, in
DOWN nothing else changes. A timer stopped or not yet due does nothing (log entry 17). -/
def Obligations.RingTimerExpiry : Prop :=
  ∀ (s : State), Released s →
    (∀ t, s.ring.boundary = some t → (s.now - t).toNat < 2 ^ 31 → s.ring.ring = .up →
      Runs .ringDown s { s with ring := { s.ring with boundary := none, ring := .down, downAt := t } }) ∧
    (∀ t, s.ring.boundary = some t → (s.now - t).toNat < 2 ^ 31 → s.ring.ring = .down →
      Runs .ringDown s { s with ring := { s.ring with boundary := none } }) ∧
    ((∀ t, s.ring.boundary = some t → 2 ^ 31 ≤ (s.now - t).toNat) → Runs .ringDown s s)

/-! ## The Request Decoder -/

/-- A slot at RING IN belongs to the row of the pin, the part's service, its check and its kind (R175, R179): a good one
has the check of its first 28 bytes, a payload of 24 bytes at most and a kind up to 5, and so has every frame the part
makes. A REQUEST to the part is given with its tag and payload, and belongs to the row of its code, object and
operation (Table 11-8); every other payload is one the Decoder turns away itself. -/
def Obligations.RequestRowsByCode : Prop :=
  (∀ (s : State) (slot : Slot),
    let kind := (slot.get 0).toNat
    let good := CheckGood slot ∧ (slot.get 3).toNat ≤ 24 ∧ kind ≤ 5
    (goodSlot slot = true ↔ good) ∧
    (s.ring.resetHeld = true → slotRow s slot = .resetHeldActive slot) ∧
    (Released s → ¬ InService s ∨ ¬ good → slotRow s slot = .slotForward slot) ∧
    (InService s → good →
      (kind = 0 → slotRow s slot = .vacantSlot slot) ∧
      (kind = 1 → slotRow s slot = .sampleSlot slot) ∧
      (kind = 3 → slot.get 1 = s.ring.node →
        slotRow s slot = requestRow (slot.get 2) ((slot.items.drop 4).take (slot.get 3).toNat)) ∧
      (kind = 3 → slot.get 1 ≠ s.ring.node → slotRow s slot = .slotForward slot) ∧
      (kind = 2 ∨ kind = 4 ∨ kind = 5 → slotRow s slot = .slotForward slot))) ∧
  (∀ bytes : List Byte, bytes.length ≤ 28 →
    CheckGood (frame bytes) ∧ (frame bytes).items.take 28 = bytes ++ List.replicate (28 - bytes.length) 0) ∧
  ∀ (tag : Byte) (args : List Byte),
    (∀ p ∈ ([(1, Instr.read), (4, .webEnable), (5, .webDisable), (6, .speedPlan), (7, .mark), (8, .clearBreak),
        (9, .clearTrip), (10, .overrideValue), (11, .release), (13, .noticeMask), (14, .restart)] :
        List (Byte × (Request → Instr))), requestRow tag (p.1 :: args) = p.2 ⟨tag, args⟩) ∧
    (∀ p ∈ ([(0, Instr.writeSubscription), (1, .writeBinding), (2, .writeStations), (3, .writeCoverage),
        (4, .writeProfile), (5, .writeLoop), (6, .writeWebParam), (7, .writeHousingParam), (8, .writeProtection),
        (9, .writeRampMemory), (10, .writeRampDescriptor)] : List (Byte × (Request → Instr))),
      requestRow tag (2 :: p.1 :: args) = p.2 ⟨tag, args⟩) ∧
    (∀ object : Byte, 10 < object.toNat → requestRow tag (2 :: object :: args) = .write ⟨tag, object :: args⟩) ∧
    requestRow tag (3 :: 3 :: args) = .validateCoverage ⟨tag, args⟩ ∧
    requestRow tag (3 :: 4 :: args) = .validateProfile ⟨tag, args⟩ ∧
    (∀ p ∈ ([(0, Instr.arm), (1, .disarm), (2, .start), (3, .pause), (4, .resume), (5, .stop)] :
        List (Byte × (Request → Instr))), requestRow tag (12 :: p.1 :: args) = p.2 ⟨tag, args⟩) ∧
    requestRow tag [] = .unknownRequest ⟨tag, []⟩ ∧
    (∀ code ∈ ([2, 3, 12] : List Byte), requestRow tag [code] = .unknownRequest ⟨tag, [code]⟩) ∧
    (∀ code : Byte, code = 0 ∨ 14 < code.toNat → requestRow tag (code :: args) = .unknownRequest ⟨tag, code :: args⟩) ∧
    (∀ object : Byte, object ≠ 3 → object ≠ 4 →
      requestRow tag (3 :: object :: args) = .unknownRequest ⟨tag, 3 :: object :: args⟩) ∧
    (∀ op : Byte, 5 < op.toNat → requestRow tag (12 :: op :: args) = .unknownRequest ⟨tag, 12 :: op :: args⟩)

/-- UNKNOWN_REQUEST: an empty payload or a code that is not of the catalogue is answered UNKNOWN with the code echoed (0
for none); a VALIDATE of another object that exists CHECK; an argument missing or out of range RANGE. Nothing changes.
(Which arguments count as missing is the model's reading: log entry 11.) -/
def Obligations.UnknownRequestTurnedAway : Prop :=
  ∀ (s : State) (tag : Byte), InService s →
    Refused (.unknownRequest ⟨tag, []⟩) s tag 0 .unknown [] ∧
    (∀ (code : Byte) (args : List Byte), code = 0 ∨ 14 < code.toNat →
      Refused (.unknownRequest ⟨tag, code :: args⟩) s tag code .unknown []) ∧
    (∀ (object index : Byte) (args : List Byte),
      let c := Instr.unknownRequest ⟨tag, 3 :: object :: index :: args⟩
      ((imageOf s object.toNat index.toNat).isSome = true ∨ object = 9 ∧ index = 0 → Refused c s tag 3 .check []) ∧
      (imageOf s object.toNat index.toNat = none → ¬ (object = 9 ∧ index = 0) → Refused c s tag 3 .range [])) ∧
    (∀ object : Byte, Refused (.unknownRequest ⟨tag, [3, object]⟩) s tag 3 .range []) ∧
    Refused (.unknownRequest ⟨tag, [2]⟩) s tag 2 .range [] ∧
    Refused (.unknownRequest ⟨tag, [3]⟩) s tag 3 .range [] ∧ Refused (.unknownRequest ⟨tag, [12]⟩) s tag 12 .range [] ∧
    (∀ (op : Byte) (args : List Byte), 5 < op.toNat →
      Refused (.unknownRequest ⟨tag, 12 :: op :: args⟩) s tag 12 .range [])

/-- A request whose index (web, housing, channel, slot, bank) is missing or does not exist is refused with RANGE; a
WRITE whose span is of no bytes, of more than 16, past the end of the image or longer than the payload with RANGE; one
whose span begins or ends inside a word with CHECK. Nothing changes. (Which arguments count as missing is the model's
reading: log entry 11.) -/
def Obligations.ForeignIndexesAndSpansRefused : Prop :=
  (∀ p ∈ ([(2, 32, Instr.writeSubscription), (2, 30, .writeBinding), (2, 4, .writeStations), (2, 8, .writeCoverage),
        (2, 4, .writeProfile), (2, 12, .writeLoop), (2, 4, .writeWebParam), (2, 2, .writeHousingParam),
        (2, 30, .writeProtection), (2, 1, .writeRampMemory), (2, 8, .writeRampDescriptor), (3, 8, .validateCoverage),
        (3, 4, .validateProfile), (4, 4, .webEnable), (5, 4, .webDisable), (6, 4, .speedPlan), (7, 4, .mark),
        (8, 4, .clearBreak), (9, 2, .clearTrip), (10, 30, .overrideValue), (11, 30, .release), (12, 8, .arm),
        (12, 8, .disarm), (12, 8, .start), (12, 8, .pause), (12, 8, .resume), (12, 8, .stop)] :
        List (Byte × Nat × (Request → Instr))),
      ∀ (s : State) (tag : Byte), InService s →
        Refused (p.2.2 ⟨tag, []⟩) s tag p.1 .range [] ∧
        (∀ (index : Byte) (args : List Byte), p.2.1 ≤ index.toNat →
          Refused (p.2.2 ⟨tag, index :: args⟩) s tag p.1 .range [])) ∧
  (∀ p ∈ ([(32, 14, Instr.writeSubscription), (30, 6, .writeBinding), (4, 9, .writeStations), (8, 98, .writeCoverage),
        (4, 239, .writeProfile), (12, 3, .writeLoop), (4, 12, .writeWebParam), (2, 13, .writeHousingParam),
        (30, 6, .writeProtection), (8, 38, .writeRampDescriptor)] : List (Nat × Nat × (Request → Instr))),
      ∀ (s : State) (tag index hi lo count : Byte) (data : List Byte), InService s → index.toNat < p.1 →
        let off := hi.toNat * 256 + lo.toNat
        let c := p.2.2 ⟨tag, index :: hi :: lo :: count :: data⟩
        (count = 0 ∨ 16 < count.toNat ∨ data.length < count.toNat ∨ 2 * p.2.1 < off + count.toNat →
          Refused c s tag 2 .range []) ∧
        (1 ≤ count.toNat → count.toNat ≤ 16 → count.toNat ≤ data.length → off + count.toNat ≤ 2 * p.2.1 →
          (off % 2 = 1 ∨ count.toNat % 2 = 1) → Refused c s tag 2 .check []))

/-- READ answers DONE with the bytes of the object's image, or the words of the ramp memory, that the span names, and
changes nothing; a span outside the image, a count outside 1..16 (1..8 words), an object or index that does not exist,
or missing arguments are refused with RANGE. WRITE to a STATUS object that exists is refused with CHECK; one to an
object that does not exist, with missing arguments, a count outside 1..16, bytes missing or a span past the image with
RANGE. The image of every object but the ramp memory, which has none, is its fields in the order of its chapter's list,
and an index beyond Table 11-7 has none. (Words the lists leave open are the model's choice: log entries 12, 13, 28 and
34. That bytes beyond the arguments are ignored, which arguments count as missing, and that a STATUS write's span is
checked before CHECK is its reading: log entry 11.) -/
def Obligations.ImagesReadAndStatusProtected : Prop :=
  (∀ s : State,
    (∀ ch : Fin 32, let x := (s.inputs.get ch).sub
      imageOf s 0 ch.val = some ([flag x.enabled, x.node, x.setId] ++ x.laneMap.items ++
        [word x.offset, word x.scale, x.maxAge])) ∧
    (∀ ch : Fin 30, let b := (s.outputs.get ch).binding
      imageOf s 1 ch.val = some [flag b.bound, b.node, b.tag, b.deadband, b.refresh, b.slew]) ∧
    (∀ w : Fin 4, let t := s.track w
      imageOf s 2 w.val = some (t.stations.items ++ [t.mask.toNat, flag t.stationsSet])) ∧
    (∀ (w : Fin 4) (bank : CovBank), let x := (s.track w).bank bank
      imageOf s 3 (2 * w.val + code [.a, .b] bank) = some ([x.repeatLength, x.runCount] ++ x.runs.items.flatMap fun r =>
        [r.length, r.load, match r.marker with | none => 0 | some k => k.val + 1])) ∧
    (∀ (h : Fin 2) (bank : Bank), let f := ((s.profiles.get h).bank bank).fields
      imageOf s 4 (2 * h.val + code [.p, .q] bank) = some ([f.n] ++ f.speeds.items ++ [f.m] ++ f.loads.items ++
        f.grid.items ++ f.share.items ++ f.kEvap.items ++ f.bWeb.items ++ f.fanRun.items ++ f.fanStandby.items ++
        [f.dryTarget, f.dryWindow, f.chillTarget, f.chillWindow, f.shareA, f.kc, f.dampBase, f.dampMin, f.dampMax,
          f.dampDeadband, f.dampShift])) ∧
    (∀ j : Fin 8, let l := s.loops.get j
      imageOf s 5 j.val = some [l.kp, l.ki, l.iLimit]) ∧
    (∀ w : Fin 4, let f := s.finishing.get w
      imageOf s 5 (8 + w.val) = some [f.kp, f.ki, f.iLimit]) ∧
    (∀ w : Fin 4, let p := s.params w
      imageOf s 6 w.val = some [p.width, p.grammage, p.vMove, p.vRun, p.hysteresis, p.maxJump, p.washLoad,
        p.washLength, code trims p.trimStandby, code trims p.trimCrawl, code trims p.trimRun, p.chillMin]) ∧
    (∀ h : Fin 2, let p := s.housing h
      imageOf s 7 h.val = some [p.lelTarget, p.lelClear, p.lelLimit, p.lelTrip, p.zoneTrip, p.exhTrip, p.purgeDwell,
        p.eBase, p.kExh, p.kLel, p.tLead, p.returnLimit, code [.first, .second] p.lead]) ∧
    (∀ ch : Fin 30, imageOf s 8 ch.val =
      some ((s.outputs.get ch).protection.items.flatMap (optionView 1 fun v => [v]))) ∧
    (∀ j : Fin 8, imageOf s 10 j.val = some (descriptorView (s.ramp.slots.get j).desc)) ∧
    (∀ w : Fin 4, imageOf s 11 w.val = some (webView s w) ∧ imageOf s 12 w.val = some (queueView s w)) ∧
    (∀ ch : Fin 32, imageOf s 13 ch.val = some (inputView s ch)) ∧
    (∀ (h : Fin 2) (z : Fin 4),
      let purge := (s.monitors.get h).purge
      let hold := optionView 1 (fun v => [v]) (s.outputs.get (heatOut h z)).returnHold
      imageOf s 14 (heatOut h z).val = some (channelView s (heatOut h z) purge hold ++ loopView s h z) ∧
      imageOf s 14 (fanOut h z).val = some (channelView s (fanOut h z) purge [] ++ loopView s h z) ∧
      imageOf s 14 (exhOut h).val =
        some (channelView s (exhOut h) purge [] ++ exhaustView (s.monitors.get h).exhaust)) ∧
    (∀ w : Fin 4,
      let web := fun (ch : Fin 30) (block : List Nat) => imageOf s 14 ch.val = some
        (channelView s ch (s.outputs.get ch).dwell (timerView (s.outputs.get ch).dwell) ++ block)
      web (dampOut w) (damperView s w) ∧ web (chillAOut w) (chillView s w) ∧ web (chillBOut w) (chillView s w)) ∧
    (∀ h : Fin 2, imageOf s 15 h.val = some (profileView s h) ∧ imageOf s 16 h.val = some (housingView s h)) ∧
    (∀ j : Fin 8, imageOf s 17 j.val = some (programView s j)) ∧
    imageOf s 17 8 = some (ownersView s) ∧
    (∀ p ∈ [(0, 32), (1, 30), (2, 4), (3, 8), (4, 4), (5, 12), (6, 4), (7, 2), (8, 30), (9, 0), (10, 8), (11, 4),
        (12, 4), (13, 32), (14, 30), (15, 2), (16, 2), (17, 9)], ∀ index, p.2 ≤ index → imageOf s p.1 index = none) ∧
    (∀ object index, 17 < object → imageOf s object index = none)) ∧
  ∀ (s : State) (tag : Byte), InService s →
    (∀ (object index hi lo count : Byte) (extra : List Byte), object.toNat ≠ 9 →
      let c := Instr.read ⟨tag, object :: index :: hi :: lo :: count :: extra⟩
      let off := hi.toNat * 256 + lo.toNat
      (∀ image, imageOf s object.toNat index.toNat = some image →
        (1 ≤ count.toNat → count.toNat ≤ 16 → off + count.toNat ≤ 2 * image.length →
          Answered c s tag 1 .done false (((bytesOfWords image).drop off).take count.toNat) (passed s)) ∧
        (count = 0 ∨ 16 < count.toNat ∨ 2 * image.length < off + count.toNat → Refused c s tag 1 .range [])) ∧
      (imageOf s object.toNat index.toNat = none → Refused c s tag 1 .range [])) ∧
    (∀ short : List Byte, short.length < 5 → Refused (.read ⟨tag, short⟩) s tag 1 .range []) ∧
    (∀ (hi lo k : Byte) (extra : List Byte),
      let c := Instr.read ⟨tag, 9 :: 0 :: hi :: lo :: k :: extra⟩
      let a := hi.toNat * 256 + lo.toNat
      (1 ≤ k.toNat → k.toNat ≤ 8 → a + k.toNat ≤ 1024 → Answered c s tag 1 .done false
        ((List.range k.toNat).flatMap fun i => wordBytes (RampMemory.read s.ramp.memory (a + i)).toNat) (passed s)) ∧
      (k = 0 ∨ 8 < k.toNat ∨ 1024 < a + k.toNat → Refused c s tag 1 .range [])) ∧
    (∀ (index : Byte) (args : List Byte), index ≠ 0 → Refused (.read ⟨tag, 9 :: index :: args⟩) s tag 1 .range []) ∧
    (∀ (object index hi lo count : Byte) (data : List Byte), 11 ≤ object.toNat →
      let c := Instr.write ⟨tag, object :: index :: hi :: lo :: count :: data⟩
      let off := hi.toNat * 256 + lo.toNat
      (∀ image, imageOf s object.toNat index.toNat = some image →
        (1 ≤ count.toNat → count.toNat ≤ 16 → count.toNat ≤ data.length → off + count.toNat ≤ 2 * image.length →
          Refused c s tag 2 .check []) ∧
        (count = 0 ∨ 16 < count.toNat ∨ data.length < count.toNat ∨ 2 * image.length < off + count.toNat →
          Refused c s tag 2 .range [])) ∧
      (imageOf s object.toNat index.toNat = none → Refused c s tag 2 .range [])) ∧
    (∀ short : List Byte, short.length < 5 → Refused (.write ⟨tag, short⟩) s tag 2 .range [])

/-! ## Written configuration -/

/-- WRITE_SUBSCRIPTION: the checks in their order; accepted, the carried fields replace the old ones, and a FRESH record
of a changed source or a passed max age becomes STALE with its report. -/
def Obligations.SubscriptionWritten : Prop :=
  ∀ (s : State) (tag : Byte) (ch : Fin 32) (sp : Span), InService s → SpanFits 14 sp →
    let c := Instr.writeSubscription ⟨tag, spanArgs ch.val sp⟩
    let x := s.inputs.get ch
    let inRange := InRanges ([(0, 1), (1, 254), (0, 255)] ++ List.replicate 8 (0, 7) ++
        [(0, 65535), (0, 65535), (10, 60000)]) sp ∧
      (Carries sp 12 → -15 ≤ signedWord (sp.val 12) ∧ signedWord (sp.val 12) ≤ 15)
    let shifts := 12 ≤ ch.val ∧ 3 ≤ (ch.val - 12) % 5 ∧
      (Carries sp 11 ∧ sp.val 11 ≠ 0 ∨ Carries sp 12 ∧ sp.val 12 ≠ 0)
    (¬ inRange → Refused c s tag 2 .range []) ∧
    (inRange → shifts → Refused c s tag 2 .check []) ∧
    (inRange → ¬ shifts → ∃ new : Subscription, Carried sp x.sub.words new.words ∧
      -32768 ≤ new.offset ∧ new.offset ≤ 32767 ∧ -32768 ≤ new.scale ∧ new.scale ≤ 32767 ∧
      (new.enabled = true → new.node = 0 ∨ new.maxAge = 0 → Refused c s tag 2 .check []) ∧
      (¬ (new.enabled = true ∧ (new.node = 0 ∨ new.maxAge = 0)) →
        let moved := x.sub.enabled = true ∧
          (new.enabled = false ∨ new.node ≠ x.sub.node ∨ new.setId ≠ x.sub.setId)
        let aged := new.maxAge ≠ x.sub.maxAge ∧ new.maxAge ≤ (s.now - x.record.arrival).toNat
        (∀ mask, MasksPresent mask x.record.lanes → x.record.fresh = true → moved ∨ aged → Done c s tag 2
          (sending
            { passed s with
              inputs := s.inputs.set ch
                { sub := new, record := { x.record with fresh := false, ageRunning := false } } }
            (.noticeRaised (.inputStale ch mask) :: staleSignals (inRole ch)))) ∧
        (¬ (x.record.fresh = true ∧ (moved ∨ aged)) →
          Done c s tag 2 { passed s with inputs := s.inputs.set ch { x with sub := new } })))

/-- WRITE_BINDING: a value out of range RANGE, a bound channel without address or refresh period CHECK; accepted, the
carried fields replace the old ones and activity follows the binding. A changed slew limit sets the movement origin; the
movement timer is computed anew at a changed slew limit, deadband or activity and stands otherwise; the return hold
stands (above SCHEDULE it is clear). What is sent is the output change of a jump that changes the output, then the
change of activity. -/
def Obligations.BindingWritten : Prop :=
  ∀ (s : State) (tag : Byte) (ch : Fin 30) (sp : Span), InService s → SpanFits 6 sp →
    let c := Instr.writeBinding ⟨tag, spanArgs ch.val sp⟩
    let o := s.outputs.get ch
    let inRange := InRanges [(0, 1), (1, 254), (0, 255), (0, 1000), (100, 10000), (0, 65535)] sp
    (¬ inRange → Refused c s tag 2 .range []) ∧
    (inRange → ∃ new : Binding, Carried sp o.binding.words new.words ∧
      (new.bound = true → new.node = 0 ∨ new.refresh = 0 → Refused c s tag 2 .check []) ∧
      (¬ (new.bound = true ∧ (new.node = 0 ∨ new.refresh = 0)) →
        let jump := new.slew = 0 ∨ o.top = .brk ∨ o.top = .trip
        ∃ o' cs, Done c s tag 2 (sending { passed s with outputs := s.outputs.set ch o' } cs) ∧
          o'.binding = new ∧ o'.schedule = o.schedule ∧ o'.entries = o.entries ∧ o'.protection = o.protection ∧
          o'.dwell = o.dwell ∧ (o'.active = true ↔ new.bound = true ∧ ownerLive s ch = true) ∧
          (o.top = .schedule → o'.returnHold = o.returnHold) ∧ (o.top ≠ .schedule → o'.returnHold = none) ∧
          (new.slew = o.binding.slew → o'.originValue = o.originValue ∧ o'.originTime = o.originTime) ∧
          (new.slew ≠ o.binding.slew → o'.originTime = s.now ∧
            o'.originValue = if jump then o'.target else o.output s.now) ∧
          (new.slew = o.binding.slew → new.deadband = o.binding.deadband → o'.active = o.active →
            o'.moveTimer = o.moveTimer) ∧
          (new.slew ≠ o.binding.slew ∨ new.deadband ≠ o.binding.deadband ∨ o'.active ≠ o.active →
            o'.moveTimer = o'.movement s.now (s.emission.records.get ch).lastSent) ∧
          cs = (if jump ∧ o'.target ≠ o.output s.now then [.outputChange ch] else []) ++
            (if o'.active = o.active then [] else if o'.active = true then [.channelActive ch]
              else [.channelInactive ch])))

/-- WRITE_PROTECTION: presence and value words together, presence 0 for HOLD and 1 for a park value up to 10000;
accepted, the levels carried change and nothing else does. (The presence words, and a write of two levels, are the
model's reading: log entry 12.) -/
def Obligations.ProtectionWritten : Prop :=
  ∀ (s : State) (tag : Byte) (ch : Fin 30) (sp : Span), InService s → SpanFits 6 sp →
    let c := Instr.writeProtection ⟨tag, spanArgs ch.val sp⟩
    let o := s.outputs.get ch
    let whole := sp.start % 2 = 0 ∧ sp.vals.length % 2 = 0
    let fits := ∀ k, k < 3 → Carries sp (2 * k) →
      sp.val (2 * k) = 0 ∨ sp.val (2 * k) = 1 ∧ sp.val (2 * k + 1) ≤ 10000
    (¬ whole → Refused c s tag 2 .check []) ∧
    (whole → ¬ fits → Refused c s tag 2 .range []) ∧
    (whole → fits → ∃ p : Tab (Option Nat) 3,
      Done c s tag 2 { passed s with outputs := s.outputs.set ch { o with protection := p } } ∧
      ∀ k : Fin 3,
        (Carries sp (2 * k.val) →
          p.get k = if sp.val (2 * k.val) = 0 then none else some (sp.val (2 * k.val + 1))) ∧
        (¬ Carries sp (2 * k.val) → p.get k = o.protection.get k))

/-- WRITE_STATIONS: the mask alone in every mode; the seven distances together, on an IDLE web, below 60001, with Z0in
at least 100, each zone at least 500 long and the rest rising; the set flag is not written. (The image of the mask and
the set flag is the model's reading: log entry 12.) -/
def Obligations.StationsWritten : Prop :=
  ∀ (s : State) (tag : Byte) (w : Fin 4) (sp : Span), InService s → SpanFits 9 sp →
    let c := Instr.writeStations ⟨tag, spanArgs w.val sp⟩
    let t := s.track w
    let put := fun t' : TrackWeb => { passed s with tracker := { s.tracker with webs := s.tracker.webs.set w t' } }
    (Carries sp 8 → Refused c s tag 2 .check []) ∧
    (¬ Carries sp 8 → sp.start ≤ 6 → ¬ (sp.start = 0 ∧ 7 ≤ sp.vals.length) → Refused c s tag 2 .check []) ∧
    (∀ m, sp = ⟨7, [m]⟩ → Done c s tag 2 (put { t with mask := BitVec.ofNat 7 m })) ∧
    (∀ (d : Tab Nat 7) (rest : List Nat), sp = ⟨0, d.items ++ rest⟩ → rest.length ≤ 1 →
      let rises := 100 ≤ d.get 0 ∧ d.get 0 + 500 ≤ d.get 1 ∧ d.get 1 + 500 ≤ d.get 2 ∧ d.get 2 + 500 ≤ d.get 3 ∧
        d.get 3 + 500 ≤ d.get 4 ∧ d.get 4 < d.get 5 ∧ d.get 5 < d.get 6
      let low := ∀ i, d.get i ≤ 60000
      (s.mode w ≠ .idle → Refused c s tag 2 .state []) ∧
      (s.mode w = .idle → ¬ low → Refused c s tag 2 .range []) ∧
      (s.mode w = .idle → low → ¬ rises → Refused c s tag 2 .check []) ∧
      (s.mode w = .idle → low → rises → Done c s tag 2
        (put { t with stations := d, stationsSet := true,
                      mask := match rest with | [] => t.mask | m :: _ => BitVec.ofNat 7 m })))

/-- WRITE_COVERAGE: BUSY on the ACTIVE bank, and on both banks of an enabled web that has no ACTIVE one; RANGE by field;
accepted, the carried values replace the old ones and the bank becomes INVALID. VALIDATE_COVERAGE: DONE with no change
on a bank that is not INVALID; otherwise VALID when run count, repeat length, the lengths of the runs used and their sum
fit, CHECK when one does not. (A run's program marker as one word 0..7 is the model's reading: log entry 12.) -/
def Obligations.CoverageWrittenAndValidated : Prop :=
  (∀ (s : State) (tag : Byte) (w : Fin 4) (bank : CovBank) (sp : Span), InService s → SpanFits 98 sp →
      let c := Instr.writeCoverage ⟨tag, spanArgs (2 * w.val + match bank with | .a => 0 | .b => 1) sp⟩
      let t := s.track w
      let x := t.bank bank
      let busy := x.state = .active ∨ s.mode w ≠ .idle ∧ t.bankA.state ≠ .active ∧ t.bankB.state ≠ .active
      let inRange := InRanges ([(200, 2000), (1, 32)] ++
        (List.replicate 32 [(5, 4000), (0, 4000), (0, 7)]).flatten) sp
      (busy → Refused c s tag 2 .busy []) ∧
      (¬ busy → ¬ inRange → Refused c s tag 2 .range []) ∧
      (¬ busy → inRange → ∃ x' : CoverageBank, Carried sp x.words x'.words ∧ x'.state = .invalid ∧
        Done c s tag 2 { passed s with
          tracker := { s.tracker with webs := s.tracker.webs.set w (t.setBank bank x') } })) ∧
  (∀ (s : State) (tag : Byte) (w : Fin 4) (bank : CovBank), InService s →
      let c := Instr.validateCoverage ⟨tag, [BitVec.ofNat 8 (2 * w.val + match bank with | .a => 0 | .b => 1)]⟩
      let t := s.track w
      let x := t.bank bank
      let used := x.runs.items.take x.runCount
      let sound := 1 ≤ x.runCount ∧ x.runCount ≤ 32 ∧ 200 ≤ x.repeatLength ∧ x.repeatLength ≤ 2000 ∧
        (∀ r ∈ used, 5 ≤ r.length ∧ r.length ≤ 4000) ∧ (used.map CoverageRun.length).sum = x.repeatLength
      (x.state ≠ .invalid → Done c s tag 3 (passed s)) ∧
      (x.state = .invalid → sound → Done c s tag 3 { passed s with
        tracker := { s.tracker with webs := s.tracker.webs.set w (t.setBank bank { x with state := .valid }) } }) ∧
      (x.state = .invalid → ¬ sound → Refused c s tag 3 .check []))

/-- WRITE_PROFILE: BUSY while IN_USE or reserved as the incoming bank; RANGE by field; accepted, the carried values
replace the old ones and the bank becomes INVALID. VALIDATE_PROFILE: DONE with no change on a bank that is not INVALID;
otherwise VALID when the six conditions hold, CHECK with the number of the first that does not. -/
def Obligations.ProfileWrittenAndValidated : Prop :=
  (∀ (s : State) (tag : Byte) (h : Fin 2) (bank : Bank) (sp : Span), InService s → SpanFits 239 sp →
      let c := Instr.writeProfile ⟨tag, spanArgs (2 * h.val + match bank with | .p => 0 | .q => 1) sp⟩
      let p := s.profiles.get h
      let x := p.bank bank
      let busy := x.state = .inUse ∨ p.switch = some bank
      let inRange := InRanges ([(2, 8)] ++ List.replicate 8 (0, 20000) ++ [(2, 6)] ++ List.replicate 6 (0, 4000) ++
        List.replicate 192 (0, 4800) ++ List.replicate 4 (0, 256) ++ List.replicate 8 (0, 2000) ++
        List.replicate 8 (0, 10000) ++ List.replicate 2 (0, 4800) ++ List.replicate 2 (0, 1600) ++
        [(0, 256), (0, 65535), (0, 10000), (0, 10000), (0, 10000), (0, 800), (0, 31)]) sp
      (busy → Refused c s tag 2 .busy []) ∧
      (¬ busy → ¬ inRange → Refused c s tag 2 .range []) ∧
      (¬ busy → inRange → ∃ x' : ProfileBank, Carried sp x.fields.words x'.fields.words ∧ x'.state = .invalid ∧
        Done c s tag 2 { passed s with profiles := s.profiles.set h (p.setBank bank x') })) ∧
  (∀ (s : State) (tag : Byte) (h : Fin 2) (bank : Bank), InService s →
      let c := Instr.validateProfile ⟨tag, [BitVec.ofNat 8 (2 * h.val + match bank with | .p => 0 | .q => 1)]⟩
      let p := s.profiles.get h
      let x := p.bank bank
      let f := x.fields
      let conds : List Prop :=
        [2 ≤ f.n ∧ f.n ≤ 8, 2 ≤ f.m ∧ f.m ≤ 6,
          f.speeds.get 0 = 0 ∧ (f.speeds.items.take f.n).Pairwise (· < ·),
          f.loads.get 0 = 0 ∧ (f.loads.items.take f.m).Pairwise (· < ·),
          f.share.get 0 + f.share.get 1 + f.share.get 2 + f.share.get 3 ≤ 256,
          f.dampMin ≤ f.dampBase ∧ f.dampBase ≤ f.dampMax]
      (x.state ≠ .invalid → Done c s tag 3 (passed s)) ∧
      (x.state = .invalid → (∀ q ∈ conds, q) → Done c s tag 3
        { passed s with profiles := s.profiles.set h (p.setBank bank { x with state := .valid }) }) ∧
      (∀ i, i < 6 → x.state = .invalid → ¬ conds.getD i True → (∀ j, j < i → conds.getD j True) →
        Refused c s tag 3 .check [BitVec.ofNat 8 (i + 1)]))

/-- WRITE_LOOP: a value out of range RANGE; accepted, the carried parameters replace the old ones, and a carried limit
clamps the integrator at once and sets the last trim from it. The schedules stand. READ shows the parameters as they
stand. -/
def Obligations.LoopWritten : Prop :=
  ∀ (s : State) (tag : Byte) (sp : Span), InService s → SpanFits 3 sp →
    let inRange := InRanges [(0, 1000), (0, 1000), (0, 10000)] sp
    let bounded := fun (limit : Nat) (acc : Int) => max (-(limit * 4096 : Int)) (min acc (limit * 4096 : Int))
    (∀ j : Fin 8,
      let c := Instr.writeLoop ⟨tag, spanArgs j.val sp⟩
      let l := s.loops.get j
      let put := fun l' : ZoneLoop => { passed s with loops := s.loops.set j l' }
      imageOf s 5 j.val = some [l.kp, l.ki, l.iLimit] ∧
      (¬ inRange → Refused c s tag 2 .range []) ∧
      (inRange → ∃ kp ki limit, Carried sp [l.kp, l.ki, l.iLimit] [kp, ki, limit] ∧
        (Carries sp 2 → Done c s tag 2 (put
          { l with kp := kp, ki := ki, iLimit := limit, iAcc := bounded limit l.iAcc,
                   lastTrim := l.lastP + bounded limit l.iAcc / 4096 })) ∧
        (¬ Carries sp 2 → Done c s tag 2 (put { l with kp := kp, ki := ki, iLimit := limit })))) ∧
    (∀ w : Fin 4,
      let c := Instr.writeLoop ⟨tag, spanArgs (8 + w.val) sp⟩
      let f := s.finishing.get w
      let put := fun f' : Finishing => { passed s with finishing := s.finishing.set w f' }
      imageOf s 5 (8 + w.val) = some [f.kp, f.ki, f.iLimit] ∧
      (¬ inRange → Refused c s tag 2 .range []) ∧
      (inRange → ∃ kp ki limit, Carried sp [f.kp, f.ki, f.iLimit] [kp, ki, limit] ∧
        (Carries sp 2 → Done c s tag 2 (put
          { f with kp := kp, ki := ki, iLimit := limit, iAcc := bounded limit f.iAcc,
                   lastTrim := f.lastP + bounded limit f.iAcc / 4096 })) ∧
        (¬ Carries sp 2 → Done c s tag 2 (put { f with kp := kp, ki := ki, iLimit := limit }))))

/-- WRITE_WEB_PARAM: a value out of range RANGE; a write of v_run or hysteresis that leaves the hysteresis at or above
v_run CHECK; accepted, the carried values replace the old ones, in every mode. READ shows the values as they stand. -/
def Obligations.WebParamWritten : Prop :=
  ∀ (s : State) (tag : Byte) (w : Fin 4) (sp : Span), InService s → SpanFits 12 sp →
    let c := Instr.writeWebParam ⟨tag, spanArgs w.val sp⟩
    let x := s.webs.get w
    let inRange := InRanges [(200, 2000), (30, 150), (10, 500), (500, 20000), (0, 2000), (100, 10000), (0, 2000),
      (0, 20000), (0, 3), (0, 3), (0, 3), (0, 10000)] sp
    imageOf s 6 w.val = some x.params.words ∧
    (¬ inRange → Refused c s tag 2 .range []) ∧
    (inRange → ∃ new : WebParams, Carried sp x.params.words new.words ∧
      (Carries sp 3 ∨ Carries sp 4 → new.vRun ≤ new.hysteresis → Refused c s tag 2 .check []) ∧
      (¬ ((Carries sp 3 ∨ Carries sp 4) ∧ new.vRun ≤ new.hysteresis) →
        Done c s tag 2 { passed s with webs := s.webs.set w { x with params := new } }))

/-- WRITE_HOUSING_PARAM: a value out of range RANGE; another lead web in a lit housing STATE; a write of thresholds that
leaves them out of order, or the purge dwell outside 5..600, CHECK; accepted, the carried values replace the old ones.
READ shows the values as they stand. -/
def Obligations.HousingParamWritten : Prop :=
  ∀ (s : State) (tag : Byte) (h : Fin 2) (sp : Span), InService s → SpanFits 13 sp →
    let c := Instr.writeHousingParam ⟨tag, spanArgs h.val sp⟩
    let m := s.monitors.get h
    let inRange := InRanges (List.replicate 4 (0, 1000) ++ List.replicate 2 (0, 32767) ++ [(5, 600)] ++
      List.replicate 3 (0, 10000) ++ [(0, 30), (0, 1600), (0, 1)]) sp
    let thresholds := Carries sp 1 ∨ Carries sp 2 ∨ Carries sp 3
    let lit := s.mode (firstWeb h) ≠ .idle ∨ s.mode (secondWeb h) ≠ .idle
    imageOf s 7 h.val = some m.params.words ∧
    (¬ inRange → Refused c s tag 2 .range []) ∧
    (inRange → ∃ new : HousingParams, Carried sp m.params.words new.words ∧
      let ordered := new.lelClear < new.lelLimit ∧ new.lelLimit < new.lelTrip ∧ 5 ≤ new.purgeDwell ∧
        new.purgeDwell ≤ 600
      (new.lead ≠ m.params.lead → lit → Refused c s tag 2 .state []) ∧
      (¬ (new.lead ≠ m.params.lead ∧ lit) → thresholds → ¬ ordered → Refused c s tag 2 .check []) ∧
      (¬ (new.lead ≠ m.params.lead ∧ lit) → (thresholds → ordered) →
        Done c s tag 2 { passed s with monitors := s.monitors.set h { m with params := new } }))

/-- WRITE_RAMP_MEMORY: no word or more than eight, or a span past address 1023, RANGE; otherwise DONE: the words carried
replace the old ones and the memory keeps its canonical form, which every step keeps, and every other word reads as
before. (That bytes beyond the arguments are ignored is the model's reading: log entry 11.) -/
def Obligations.RampMemoryWritten : Prop :=
  ∀ (s : State) (tag hi lo : Byte) (vs : List (BitVec 16)) (extra : List Byte), InService s →
    let a := hi.toNat * 256 + lo.toNat
    let c := Instr.writeRampMemory
      ⟨tag, 0 :: hi :: lo :: BitVec.ofNat 8 vs.length :: (vs.flatMap fun v => wordBytes v.toNat) ++ extra⟩
    (vs.length < 256 → vs = [] ∨ 8 < vs.length ∨ 1024 < a + vs.length → Refused c s tag 2 .range []) ∧
    (1 ≤ vs.length → vs.length ≤ 8 → a + vs.length ≤ 1024 →
      ∃ m : RampMemory, Done c s tag 2 { passed s with ramp := { s.ramp with memory := m } } ∧
        (RampMemory.wf s.ramp.memory = true → RampMemory.wf m = true ∧
          ∀ k (hk : k < vs.length), RampMemory.read m (a + k) = vs[k]) ∧
        (∀ x, x < a ∨ a + vs.length ≤ x → RampMemory.read m x = RampMemory.read s.ramp.memory x))

/-- WRITE_RAMP_DESCRIPTOR: CHECK for a span that covers a field in part; BUSY outside EMPTY and LOADED; RANGE for a
carried value out of range; otherwise each field carried is absent or holds the value carried and every other field
stands, and the slot becomes LOADED with DONE when the descriptor is complete and consistent, EMPTY with CHECK and the
reason when it is not (which of several reasons: log entry 12). READ shows the fields as they stand. (A target list is
written, and made present, by its eight value words alone, which with their presence word no WRITE could carry: log
entry 15. A trigger's unused words are not judged: log entry 12.) -/
def Obligations.RampDescriptorWritten : Prop :=
  ∀ (s : State) (tag : Byte) (j : Fin 8) (sp : Span), InService s → SpanFits 38 sp →
    let c := Instr.writeRampDescriptor ⟨tag, spanArgs j.val sp⟩
    let x := s.ramp.slots.get j
    let v := fun i => sp.vals.getD (i - sp.start) 0
    let put := fun (d : RampDescriptor) (st : SlotState) => { passed s with
      ramp := { s.ramp with slots := s.ramp.slots.set j { x with desc := d, state := st } } }
    let stop := sp.start + sp.vals.length
    let fields := [(0, 2), (2, 2), (4, 2), (15, 2), (17, 2), (19, 2), (21, 2), (23, 2), (25, 2), (27, 2), (29, 5), (34, 2),
      (36, 2)]
    let lists := sp.start = 7 ∧ sp.vals.length = 8
    let whole := (sp.start < 15 → 6 < stop → lists) ∧
      ∀ f ∈ fields, sp.start < f.1 + f.2 → f.1 < stop → sp.start ≤ f.1 ∧ f.1 + f.2 ≤ stop
    let listed := ((List.range 8).map fun i => v (7 + i)).takeWhile (· ≠ 65535)
    let values : List (Nat × Prop) := [(0, v 1 ≤ 1023), (2, v 3 ≤ 2), (4, v 5 ≤ 1), (15, v 16 ≤ 7), (17, v 18 ≤ 4095),
      (19, v 20 ≤ 255), (21, v 22 ≤ 1023 ∨ 64512 ≤ v 22), (23, v 24 ≤ 1023 ∨ 64512 ≤ v 24), (25, v 26 ≤ 65535),
      (27, v 28 ≤ 3), (29, v 30 = 0 ∨ v 30 = 1 ∧ v 31 ≤ 3 ∧ v 32 ≤ 4 ∨ v 30 = 2 ∧ v 31 ≤ 3 ∧ v 32 ≤ 9 ∧ v 33 ≤ 6 ∨
        v 30 = 3 ∧ v 31 ≤ 7), (34, v 35 ≤ 2), (36, v 37 ≤ 1)]
    let inRange := (∀ p ∈ values, Carries sp p.1 → v p.1 = 0 ∨ v p.1 = 1 ∧ p.2) ∧
      (lists → listed ≠ [] ∧ ∀ code ∈ listed, code < 24)
    let taken := fun {α : Type} (i : Nat) (old new : Option α) (value : α → Prop) =>
      (¬ Carries sp i → new = old) ∧ (Carries sp i → v i = 0 → new = none) ∧
        (Carries sp i → v i = 1 → ∃ y, new = some y ∧ value y)
    imageOf s 10 j.val = some (descriptorView x.desc) ∧
    (¬ whole → Refused c s tag 2 .check []) ∧
    (whole → x.state ≠ .empty → x.state ≠ .loaded → Refused c s tag 2 .busy []) ∧
    (whole → x.state = .empty ∨ x.state = .loaded → ¬ inRange → Refused c s tag 2 .range []) ∧
    (whole → x.state = .empty ∨ x.state = .loaded → inRange → ∃ d : RampDescriptor,
      taken 0 x.desc.base d.base (· = v 1) ∧ taken 2 x.desc.mode d.mode (code [.one, .two, .three] · = v 3) ∧
      taken 4 x.desc.transfer d.transfer (code [.step, .line] · = v 5) ∧
      (¬ lists → d.targets = x.desc.targets) ∧
      (lists → ∃ ts, d.targets = some ts ∧ ts.map targetCode = listed) ∧
      taken 15 x.desc.n d.n (· = v 16) ∧ taken 17 x.desc.l d.l (· = v 18) ∧ taken 19 x.desc.bk d.bk (· = v 20) ∧
      taken 21 x.desc.off1 d.off1 (fun k => -1024 ≤ k ∧ k ≤ 1023 ∧ word k = v 22) ∧
      taken 23 x.desc.off2 d.off2 (fun k => -1024 ≤ k ∧ k ≤ 1023 ∧ word k = v 24) ∧
      taken 25 x.desc.reload d.reload (· = v 26) ∧
      taken 27 x.desc.tick d.tick (code [.ms10, .ms100, .s1, .s10] · = v 28) ∧
      taken 29 x.desc.trigger d.trigger (fun t => match t with
        | .console => v 30 = 0
        | .on (.mode w m) => v 30 = 1 ∧ v 31 = w.val ∧ v 32 = code modes m
        | .on (.marker w k st) => v 30 = 2 ∧ v 31 = w.val ∧ v 32 = code markers k ∧ v 33 = st.val
        | .on (.chain k) => v 30 = 3 ∧ v 31 = k.val) ∧
      taken 34 x.desc.endAction d.endAction (code [.release, .hold, .repeatPass] · = v 35) ∧
      taken 36 x.desc.rearm d.rearm (flag · = v 37) ∧
      let two := d.mode = some .two ∨ d.mode = some .three
      let three := d.mode = some .three
      let missing : List Prop := [d.base = none, d.mode = none, d.transfer = none, d.targets = none, d.n = none,
        two ∧ d.l = none, three ∧ d.bk = none, two ∧ d.off1 = none, three ∧ d.off2 = none, d.reload = none,
        d.tick = none, d.trigger = none, d.endAction = none, d.rearm = none]
      let complete := ∀ p ∈ missing, ¬ p
      let counted := d.n.getD 0 + 1 = (d.targets.getD []).length
      let distinct := (d.targets.getD []).Nodup
      let foreign := d.trigger ≠ some (.on (.chain j))
      (complete → counted → distinct → foreign → Done c s tag 2 (put d .loaded)) ∧
      (complete → ¬ counted → Answered c s tag 2 .check false [1, 0] (put d .empty)) ∧
      (complete → counted → ¬ distinct → Answered c s tag 2 .check false [1, 1] (put d .empty)) ∧
      (complete → counted → distinct → ¬ foreign → Answered c s tag 2 .check false [1, 2] (put d .empty)) ∧
      (¬ complete → ∃ i : Nat, i < 14 ∧ missing.getD i False ∧
        Answered c s tag 2 .check false [0, BitVec.ofNat 8 i] (put d .empty)))


/-! ## The Web Tracker -/

/-- TRACKING_START: a bank is promoted when none is ACTIVE (A if VALID, else B), the cursor goes to run 0 of the ACTIVE
bank, encoder reference and wash window are cleared, and the queue holds one record of length 0 at the path counter with
run 0's load and program marker. The path counter, the stations and the mask stand. -/
def Obligations.TrackingStarted : Prop :=
  ∀ (w : Fin 4) (s : State), Released s →
    let t := s.track w
    let start := fun (a b : CoverageBank) (run : CoverageRun) =>
      let t' := { t with
        bankA := a, bankB := b, cursorRun := 0, cursorLeft := run.length, encRef := none, wash := 0,
        queue := [{ seq := t.seqCounter, head := t.path, length := 0, load := min 4000 run.load,
                    marker := run.marker.map fun k => ⟨.note k, .program, 0, false⟩ }],
        seqCounter := t.seqCounter + 1 }
      Runs (.trackingStart w) s { s with tracker := { s.tracker with webs := s.tracker.webs.set w t' } }
    (t.bankA.state = .active → start t.bankA t.bankB (t.bankA.runs.get 0)) ∧
    (t.bankA.state ≠ .active → t.bankB.state = .active → start t.bankA t.bankB (t.bankB.runs.get 0)) ∧
    (t.bankA.state = .valid → t.bankB.state ≠ .active →
      start { t.bankA with state := .active } t.bankB (t.bankA.runs.get 0)) ∧
    (t.bankA.state = .invalid → t.bankB.state = .valid →
      start t.bankA { t.bankB with state := .active } (t.bankB.runs.get 0))

/-- QUEUE_EMPTYING: queue and wash window empty, encoder reference cleared, the rest of the web's tracking kept; a
lead-web JOBCUT still short of CHILLIN ends the pending job switch and the completion is signalled, whatever web leads by
then. -/
def Obligations.QueueEmptied : Prop :=
  ∀ (w : Fin 4) (s : State), Released s →
    let t := s.track w
    let t' := { t with queue := [], wash := 0, encRef := none }
    let carries := ∃ seg ∈ t.queue, ∃ m, seg.marker = some m ∧ m.lead = true ∧ m.kind = .jobcut ∧ m.next ≤ 5
    (∀ inc, carries → s.tracker.jobs.get (housingOf w) = some inc →
      Runs (.queueEmptying w) s (sending (tracked w t' none s) [.completionSignal (housingOf w) inc])) ∧
    (¬ carries ∨ s.tracker.jobs.get (housingOf w) = none →
      Runs (.queueEmptying w) s { s with tracker := { s.tracker with webs := s.tracker.webs.set w t' } })

namespace Sys2Proof.Statements

/-- A marker whose next station was `a` has it at `b` once every station at or below the distance has fired (R22). -/
def Passes (stations : Tab Nat 7) (dist a b : Nat) : Prop :=
  a ≤ b ∧ (b ≤ 7 ∨ b = a) ∧ (∀ i : Fin 7, a ≤ i.val → i.val < b → stations.get i ≤ dist) ∧
    ∀ i : Fin 7, i.val = b → dist < stations.get i

/-- The stations from `a` up to `b`, in order. -/
def stationsFrom (a b : Nat) : List (Fin 7) := (List.finRange 7).filter fun i => decide (a ≤ i.val ∧ i.val < b)

/-- What a firing at station `i` sends (R22, R23): the effect of a lead-web JOBCUT with a switch pending, MARKER_PASSED
where the mask enables it, and the trigger signal to the eight slots. -/
def firing (env : TrackEnv) (mask : BitVec 7) (m : Marker) (seq : BitVec 16) (job : Option Bank) (i : Fin 7) :
    List Instr :=
  let h := housingOf env.web
  (match job with
    | some inc =>
      if m.lead = true ∧ m.kind = .jobcut then
        [[.zoneSwitchSignal h 0 inc seq], [.zoneSwitchSignal h 1 inc seq], [.zoneSwitchSignal h 2 inc seq],
          [.zoneSwitchSignal h 3 inc seq], [.damperSwitchSignal h inc seq], [.chillSwitchSignal h inc seq],
          []].getD i.val []
      else []
    | none => []) ++
    (if mask.getLsbD i.val then [.noticeRaised (.markerPassed env.web m.kind i seq)] else []) ++
    (List.finRange 8).map fun j => .trigger j (.marker env.web m.kind i)

/-- The pending job switch once marker `m` has passed up to station `b`: a lead-web JOBCUT ends it at CHILLIN. -/
def jobLeft (m : Marker) (b : Nat) (job : Option Bank) : Option Bank :=
  if m.lead = true ∧ m.kind = .jobcut ∧ m.next ≤ 5 ∧ 5 < b then none else job

/-- Record `x` with the path counter at `path` fires its marker, if any, and becomes `x'`. -/
def RecordFired (env : TrackEnv) (stations : Tab Nat 7) (mask : BitVec 7) (path : BitVec 32) (x : Segment)
    (job : Option Bank) (x' : Segment) (job' : Option Bank) (out : List Instr) : Prop :=
  (x.marker = none → x' = x ∧ job' = job ∧ out = []) ∧
    ∀ m, x.marker = some m → ∃ next, Passes stations (path - x.head).toNat m.next next ∧
      x' = { x with marker := some { m with next := next } } ∧ job' = jobLeft m next job ∧
      out = (stationsFrom m.next next).flatMap (firing env mask m x.seq job)

/-- The records of a queue fire, oldest first. -/
def QueueFired (env : TrackEnv) (stations : Tab Nat 7) (mask : BitVec 7) (path : BitVec 32) :
    List Segment → Option Bank → List Segment → Option Bank → List Instr → Prop
  | [], job, q', job', out => q' = [] ∧ job' = job ∧ out = []
  | x :: rest, job, q', job', out => ∃ x' rest' job1 out1 out2, q' = x' :: rest' ∧ out = out1 ++ out2 ∧
      RecordFired env stations mask path x job x' job1 out1 ∧
      QueueFired env stations mask path rest job1 rest' job' out2

/-- One piece of `p` mm (R12, R14 to R16): the open record grows, markers fire, the oldest records that have passed
CHILLOUT leave, and at the end of its run the cursor moves and a record is opened, or the open one absorbs the run; an
empty queue stays empty (R13). -/
def PieceTaken (env : TrackEnv) (p : Nat) (t : TrackWeb) (job : Option Bank) (t' : TrackWeb) (job' : Option Bank)
    (out : List Instr) : Prop :=
  let path := t.path + BitVec.ofNat 32 p
  let tail := fun x : Segment => (path - x.head).toNat - x.length
  ∃ grown gone kept out1,
    (t.queue = [] → grown = []) ∧
    (∀ older o, t.queue = older ++ [o] → grown = older ++ [{ o with length := o.length + p }]) ∧
    QueueFired env t.stations t.mask path grown job (gone ++ kept) job' out1 ∧
    (grown ≠ [] → kept ≠ []) ∧ (∀ x ∈ gone, t.stations.get 6 ≤ tail x) ∧
    (∀ x y rest, kept = x :: y :: rest → tail x < t.stations.get 6) ∧
    let t1 := { t with queue := kept, path := path, cursorLeft := t.cursorLeft - p, wash := t.wash - p }
    (p < t.cursorLeft ∨ t.activeBank = none → t' = t1 ∧ out = out1) ∧
    (∀ bank (i : Fin 32), t.cursorLeft ≤ p → t.activeBank = some bank →
      (i.val = t.cursorRun.val + 1 ∧ i.val < (t.bank bank).runCount ∨
        i = 0 ∧ ((t.bank bank).runCount ≤ t.cursorRun.val + 1 ∨ 31 ≤ t.cursorRun.val)) →
      let run := (t.bank bank).runs.get i
      let load := min 4000 (run.load + if p < t.wash then env.params.washLoad else 0)
      let marker : Option Marker := run.marker.map fun k => ⟨.note k, .program, 0, false⟩
      let t2 := { t1 with cursorRun := i, cursorLeft := run.length }
      (kept = [] → t' = t2 ∧ out = out1) ∧
      (kept ≠ [] → kept.length < 64 → out = out1 ∧ t' = { t2 with
        queue := kept ++ [{ seq := t.seqCounter, head := path, length := 0, load := load, marker := marker }]
        seqCounter := t.seqCounter + 1 }) ∧
      (∀ older o, kept = older ++ [o] → 64 ≤ kept.length →
        t' = { t2 with queue := older ++ [{ o with
          load := max o.load load, marker := if o.marker = none then marker else o.marker }] } ∧
        out = out1 ++ if o.marker = none then [] else
          run.marker.toList.map fun k => .noticeRaised (.markerDropped env.web (.note k) .program)))

/-- The pieces of an advance, each as long as what is left of it and of the cursor's run allow (R12). -/
def PiecesTaken (env : TrackEnv) :
    List Nat → TrackWeb → Option Bank → TrackWeb → Option Bank → List Instr → Prop
  | [], t, job, t', job', out => t' = t ∧ job' = job ∧ out = []
  | p :: rest, t, job, t', job', out => p = min (p + rest.sum) t.cursorLeft ∧ ∃ t1 job1 out1 out2,
      out = out1 ++ out2 ∧ PieceTaken env p t job t1 job1 out1 ∧ PiecesTaken env rest t1 job1 t' job' out2

end Sys2Proof.Statements

/-- ADVANCE: nothing in IDLE and BREAK, nor without both position lanes; the first position only sets the reference; a
reverse one sets it with TRACK_GAP; a forward one of Δ is taken in pieces that sum to Δ, moves the path counter by Δ and
the wash window by up to Δ, in full and with TRACK_GAP above the max jump. Each piece grows the open record, fires
markers, retires records and, at the end of a run, moves the cursor and opens the next run's record or merges it into a
full queue. Stations, banks and mask stand. (The model's choices: with an empty queue, which stays empty, what a piece
moves, log entry 23; TRACK_GAP before the notices of the pieces, log entry 33.) -/
def Obligations.EncoderAdvanced : Prop :=
  ∀ (w : Fin 4) (s : State), Released s →
    let t := s.track w
    let moves := s.mode w = .standby ∨ s.mode w = .crawl ∨ s.mode w = .run
    let lane := fun i => (s.record (encCh w)).lanes.get i
    (¬ moves → Runs (.advance w) s s) ∧
    (lane 0 = none ∨ lane 1 = none → Runs (.advance w) s s) ∧
    (∀ (hi lo : Int) (pos : BitVec 32), moves → lane 0 = some hi → lane 1 = some lo →
      pos = BitVec.ofInt 32 (hi % 65536 * 65536 + lo % 65536) →
      (t.encRef = none → Runs (.advance w) s
        { s with tracker := { s.tracker with webs := s.tracker.webs.set w { t with encRef := some pos } } }) ∧
      (∀ r, t.encRef = some r → (pos - r).toInt ≤ 0 → Runs (.advance w) s
        (sending
          { s with tracker := { s.tracker with webs := s.tracker.webs.set w { t with encRef := some pos } } }
          (if (pos - r).toInt < 0 then [.noticeRaised (.trackGap w (max (-32768) (pos - r).toInt))] else []))) ∧
      (∀ r bank, t.encRef = some r → 0 < (pos - r).toInt → t.activeBank = some bank → 1 ≤ t.cursorLeft →
        (∀ run ∈ (t.bank bank).runs.items.take (t.bank bank).runCount, 1 ≤ run.length) →
        1 ≤ (t.bank bank).runCount →
        ∃ t' job out, (∃ pieces, pieces.sum = (pos - r).toNat ∧ PiecesTaken
              ⟨w, s.params w, decide (s.leadWeb (housingOf w) = w)⟩ pieces { t with encRef := some pos }
              (s.tracker.jobs.get (housingOf w)) t' job out) ∧
          Runs (.advance w) s
            (sending (tracked w t' job s)
              ((if ((s.params w).maxJump : Int) < (pos - r).toInt then
                [.noticeRaised (.trackGap w (min (pos - r).toInt 32767))] else []) ++ out)) ∧
          t'.path = t.path + (pos - r) ∧ t'.encRef = some pos ∧ t'.wash = t.wash - (pos - r).toNat ∧
          t'.stations = t.stations ∧ t'.mask = t.mask ∧ t'.stationsSet = t.stationsSet ∧ t'.bankA = t.bankA ∧
          t'.bankB = t.bankB ∧ 1 ≤ t'.cursorLeft ∧
          (job = s.tracker.jobs.get (housingOf w) ∨ job = none)))

/-- MARK: the checks in their order; a refused MARK changes nothing (a web with no open record is refused with STATE:
the model's choice, log entry 9). Accepted, a SPLICE, WASH or NOTE is placed with the current run's load plus any wash
(a WASH opens the window first). A JOBCUT first swaps the banks and sets the cursor to run 0 of the new one, whose
program marker is dropped; on the lead web it reserves the incoming bank and leaves a job switch pending, unless its
marker is dropped, which completes the switch. (Of two dropped markers the program's is reported first: the model's
choice, log entry 30; that bytes beyond the arguments are ignored is its reading: log entry 11.) -/
def Obligations.MarkJudgedAndPlaced : Prop :=
  (∀ (w : Fin 4) (code tag : Byte) (extra : List Byte) (s : State), InService s →
      let c := Instr.mark ⟨tag, BitVec.ofNat 8 w.val :: code :: extra⟩
      let t := s.track w
      let h := housingOf w
      let spare := (t.bankA.state = .active ∧ t.bankB.state = .valid) ∨
        (t.bankA.state ≠ .active ∧ t.bankB.state = .active ∧ t.bankA.state = .valid)
      let fresh := ∃ older o, t.queue = older ++ [o] ∧ o.length = 0 ∧ o.marker ≠ none
      Refused (.mark ⟨tag, [BitVec.ofNat 8 w.val]⟩) s tag 7 .range [] ∧
      (9 < code.toNat → Refused c s tag 7 .range []) ∧
      (code.toNat ≤ 9 → s.mode w = .idle ∨ s.mode w = .brk → Refused c s tag 7 .state []) ∧
      (code.toNat ≤ 9 → s.mode w ≠ .idle → s.mode w ≠ .brk →
        (t.queue = [] → Refused c s tag 7 .state []) ∧
        (fresh → Refused c s tag 7 .busy []) ∧
        (t.queue ≠ [] → ¬ fresh → code = 1 →
          (¬ spare → Refused c s tag 7 .state []) ∧
          (spare → s.leadWeb h = w → s.tracker.jobs.get h ≠ none → Refused c s tag 7 .busy []) ∧
          (spare → s.leadWeb h = w → s.tracker.jobs.get h = none →
            ¬ (((∀ i ∈ (s.profiles.get h).indicators, i = some .p) ∧ (s.profiles.get h).bankQ.state = .valid) ∨
              ((∀ i ∈ (s.profiles.get h).indicators, i = some .q) ∧ (s.profiles.get h).bankP.state = .valid)) →
            Refused c s tag 7 .state [])))) ∧
  (∀ (w : Fin 4) (code tag : Byte) (k : MarkerKind) (extra : List Byte) (s : State), InService s → MarkTaken s w →
      markerOfCode code.toNat = some k →
      let c := Instr.mark ⟨tag, BitVec.ofNat 8 w.val :: code :: extra⟩
      let t := s.track w
      let h := housingOf w
      let p := s.params w
      let dropNotice := fun (b : Bool) (k : MarkerKind) (src : MarkerSource) =>
        if b then [Instr.noticeRaised (.markerDropped w k src)] else []
      (k ≠ .jobcut → ∃ t' dropped,
        let wash := if k = .wash then p.washLength else t.wash
        Placed ⟨k, .request, 0, false⟩ (min 4000 (t.currentRun.load + if 0 < wash ∨ k = .wash then p.washLoad else 0))
          { t with wash := wash } t' dropped ∧
        Done c s tag 7 (sending (tracked w t' (s.tracker.jobs.get h) (passed s)) (dropNotice dropped k .request))) ∧
      (k = .jobcut → ∀ a b : CoverageBank,
        (t.bankA.state = .active ∧ t.bankB.state = .valid ∧ a = { t.bankA with state := .valid } ∧
            b = { t.bankB with state := .active }) ∨
          (t.bankB.state = .active ∧ t.bankA.state = .valid ∧ a = { t.bankA with state := .active } ∧
            b = { t.bankB with state := .valid }) →
        let run := if t.bankA.state = .active then t.bankB.runs.get 0 else t.bankA.runs.get 0
        let load := min 4000 (run.load + if 0 < t.wash then p.washLoad else 0)
        let program := run.marker.toList.map fun n => Instr.noticeRaised (.markerDropped w (.note n) .program)
        (s.leadWeb h ≠ w → ∃ t' dropped,
          Placed ⟨.jobcut, .request, 0, false⟩ load
            { t with bankA := a, bankB := b, cursorRun := 0, cursorLeft := run.length } t' dropped ∧
          Done c s tag 7 (sending (tracked w t' (s.tracker.jobs.get h) (passed s))
            (program ++ dropNotice dropped .jobcut .request))) ∧
        (∀ inc, s.leadWeb h = w → s.tracker.jobs.get h = none →
          (∀ i ∈ (s.profiles.get h).indicators, i = some (otherBank inc)) →
          ((s.profiles.get h).bank inc).state = .valid → ∃ t' dropped,
            Placed ⟨.jobcut, .request, 0, true⟩ load
              { t with bankA := a, bankB := b, cursorRun := 0, cursorLeft := run.length } t' dropped ∧
            Done c s tag 7 (sending
              { tracked w t' (if dropped then none else some inc) (passed s) with
                profiles := s.profiles.set h { s.profiles.get h with switch := some inc } }
              (program ++ dropNotice dropped .jobcut .request ++
                (if dropped then [.completionSignal h inc] else []))))))

/-- One record's marker fires the stations its head distance has reached, in index order and no further, and sends for
each, in that order, the lead-web JOBCUT's station effect, MARKER_PASSED where the mask enables it, and the trigger
signal to the eight slots. In a piece of an advance the records fire oldest first, after the open one has grown and
before any retires. (With an empty queue what a piece moves is the model's choice: log entry 23; that the trigger signal
goes to all eight slots, each judging itself, is its reading: log entry 21.) -/
def Obligations.MarkersFireAtStations : Prop :=
  (∀ (env : TrackEnv) (stations : Tab Nat 7) (mask : BitVec 7) (seq : BitVec 16) (dist : Nat) (m : Marker)
      (job : Option Bank), m.next ≤ 7 →
    let r := fireMarker env stations mask seq dist 7 m job
    r.1.kind = m.kind ∧ r.1.source = m.source ∧ r.1.lead = m.lead ∧ m.next ≤ r.1.next ∧ r.1.next ≤ 7 ∧
      (∀ i : Fin 7, m.next ≤ i.val → i.val < r.1.next → stations.get i ≤ dist) ∧
      (∀ i : Fin 7, i.val = r.1.next → dist < stations.get i) ∧
      (∀ i : Fin 7, .noticeRaised (.markerPassed env.web m.kind i seq) ∈ r.2.2 ↔
        m.next ≤ i.val ∧ i.val < r.1.next ∧ mask.getLsbD i.val = true) ∧
      (∀ (i : Fin 7) (j : Fin 8), .trigger j (.marker env.web m.kind i) ∈ r.2.2 ↔ m.next ≤ i.val ∧ i.val < r.1.next) ∧
      (r.2.1 = if m.lead = true ∧ m.kind = .jobcut ∧ m.next ≤ 5 ∧ 5 < r.1.next then none else job) ∧
      r.2.2 = (stationsFrom m.next r.1.next).flatMap fun i =>
        stationEffect env job m i seq ++
          (if mask.getLsbD i.val then [.noticeRaised (.markerPassed env.web m.kind i seq)] else []) ++
          (List.finRange 8).map fun j => .trigger j (.marker env.web m.kind i)) ∧
  (∀ (env : TrackEnv) (inc : Bank) (m : Marker) (seq : BitVec 16), m.lead = true → m.kind = .jobcut →
    let h := housingOf env.web
    (∀ z : Fin 4, stationEffect env (some inc) m ⟨z.val, by omega⟩ seq = [.zoneSwitchSignal h z inc seq]) ∧
    stationEffect env (some inc) m 4 seq = [.damperSwitchSignal h inc seq] ∧
    stationEffect env (some inc) m 5 seq = [.chillSwitchSignal h inc seq] ∧
    stationEffect env (some inc) m 6 seq = []) ∧
  (∀ (env : TrackEnv) (job : Option Bank) (m : Marker) (st : Fin 7) (seq : BitVec 16),
    m.lead = false ∨ m.kind ≠ .jobcut ∨ job = none → stationEffect env job m st seq = []) ∧
  (∀ (env : TrackEnv) (stations : Tab Nat 7) (mask : BitVec 7) (path : BitVec 32) (q : List Segment)
      (job : Option Bank),
    let r := fireQueue env stations mask path q job
    QueueFired env stations mask path q job r.1 r.2.1 r.2.2) ∧
  (∀ (env : TrackEnv) (p : Nat) (r : TrackRun), ∃ out,
    (takePiece env p r).out = r.out ++ out ∧
      PieceTaken env p r.web r.job (takePiece env p r).web (takePiece env p r).job out)

/-! ## Web Mode Control -/

/-- WEB_ENABLE: STATE unless the seven checks hold and a dark housing has a VALID bank; accepted, the web is in STANDBY
with MODE_CHANGE, tracking start and the change of activity signalled, and a dark housing is lit on bank P if VALID,
else Q, a housing-dark signal not yet taken being done first. (Of two banks it frees P is reported first: the model's
choice, log entry 24; that the trigger signal goes to all eight slots, log entry 21, and that bytes beyond the arguments
are ignored, log entry 11, are its readings.) -/
def Obligations.WebEnabled : Prop :=
  ∀ (w : Fin 4) (tag : Byte) (extra : List Byte) (s : State), InService s →
    let c := Instr.webEnable ⟨tag, BitVec.ofNat 8 w.val :: extra⟩
    let h := housingOf w
    let t := s.track w
    let p := s.params w
    let m := s.housing h
    let ready := s.mode w = .idle ∧ t.stationsSet = true ∧
      (t.bankA.state ≠ .invalid ∨ t.bankB.state ≠ .invalid) ∧
      (s.inputs.get (encCh w)).sub.enabled = true ∧ (s.inputs.get (brkCh w)).sub.enabled = true ∧
      (∀ i, ¬ LaneActive s w i) ∧
      (200 ≤ p.width ∧ p.width ≤ 2000 ∧ 30 ≤ p.grammage ∧ p.grammage ≤ 150 ∧ 10 ≤ p.vMove ∧ p.vMove ≤ 500 ∧
        500 ≤ p.vRun ∧ p.vRun ≤ 20000 ∧ p.hysteresis ≤ 2000 ∧ 100 ≤ p.maxJump ∧ p.maxJump ≤ 10000 ∧
        p.washLoad ≤ 2000 ∧ p.washLength ≤ 20000 ∧ p.chillMin ≤ 10000) ∧
      ¬ (m.lelClear = 0 ∧ m.lelLimit = 0 ∧ m.lelTrip = 0)
    let standby := fun x : State => sending { x with webs := s.webs.set w { s.webs.get w with mode := .standby } }
      (transition w .idle .standby ++ [.trackingStart w, .activitySignal w])
    (¬ ready → Refused c s tag 4 .state []) ∧
    (ready → s.mode (otherWeb w) ≠ .idle → Done c s tag 4 (standby (passed s))) ∧
    (ready → s.mode (otherWeb w) = .idle →
      let q := s.profiles.get h
      let q0 := if ∃ i ∈ q.indicators, i ≠ none then ({ q with switch := none }.pointAll none).settled else q
      let freed := if ∃ i ∈ q.indicators, i ≠ none then
          (if q.bankP.state = .inUse then [Instr.noticeRaised (.bankFree h .p .dark)] else []) ++
            (if q.bankQ.state = .inUse then [Instr.noticeRaised (.bankFree h .q .dark)] else []) else []
      let lit := fun b : Bank => standby
        (sending { passed s with profiles := s.profiles.set h (q0.pointAll (some b)).settled } freed)
      (q0.bankP.state = .valid → Done c s tag 4 (lit .p)) ∧
      (q0.bankP.state ≠ .valid → q0.bankQ.state = .valid → Done c s tag 4 (lit .q)) ∧
      (q0.bankP.state ≠ .valid → q0.bankQ.state ≠ .valid → Refused c s tag 4 .state []))

/-- ENC_SPEED: no speed lane, no action; else v is the lane clamped to 0..20000. In a motion mode a plan within 50 of v
is cleared and the mode moves by v_move, v_run and hysteresis, each transition reported; a web that would leave STANDBY
while its BRK input is STALE enters BREAK with the cause STALE. (That trigger and break signals go to all eight slots,
each judging itself, is the model's reading: log entry 21.) -/
def Obligations.SpeedTaken : Prop :=
  ∀ (w : Fin 4) (s : State), Released s →
    ((s.record (encCh w)).lanes.get 2 = none → Runs (.encSpeed w) s s) ∧
    (∀ x, (s.record (encCh w)).lanes.get 2 = some x →
      let v : Nat := (max 0 (min x 20000)).toNat
      let c := s.webs.get w
      let p := c.params
      let c' := { c with v := v, plan := c.plan.filter fun q => decide (50 < ((q.target : Int) - v).natAbs) }
      let moved := fun (path : List Mode) (last : Mode) => Runs (.encSpeed w) s
        (sending { s with webs := s.webs.set w { c' with mode := last } }
          (match path with
            | [] => []
            | [a] => transition w c.mode a
            | a :: b :: _ => transition w c.mode a ++ transition w a b))
      (c.mode = .idle ∨ c.mode = .brk → Runs (.encSpeed w) s { s with webs := s.webs.set w { c with v := v } }) ∧
      (c.mode = .standby → v < p.vMove → moved [] .standby) ∧
      (c.mode = .standby → p.vMove ≤ v → (s.record (brkCh w)).fresh = false →
        Runs (.encSpeed w) s (broken w c' 16 s)) ∧
      (c.mode = .standby → p.vMove ≤ v → (s.record (brkCh w)).fresh = true → v < p.vRun → moved [.crawl] .crawl) ∧
      (c.mode = .standby → p.vMove ≤ v → (s.record (brkCh w)).fresh = true → p.vRun ≤ v →
        moved [.crawl, .run] .run) ∧
      (c.mode = .crawl → p.vRun ≤ v → moved [.run] .run) ∧
      (c.mode = .crawl → v < p.vRun → v < p.vMove → moved [.standby] .standby) ∧
      (c.mode = .crawl → v < p.vRun → p.vMove ≤ v → moved [] .crawl) ∧
      (c.mode = .run → p.vRun ≤ v + p.hysteresis → moved [] .run) ∧
      (c.mode = .run → v + p.hysteresis < p.vRun → p.vMove ≤ v → moved [.crawl] .crawl) ∧
      (c.mode = .run → v + p.hysteresis < p.vRun → v < p.vMove → moved [.crawl, .standby] .standby))

/-- BRK_SAMPLE, BRK_STALE_SIGNAL and ENC_STALE_SIGNAL: an active lane breaks a web in motion with the detectors whose
lanes are active, and adds them in BREAK; a stale BRK input breaks a web in CRAWL or RUN with the cause STALE, and adds
it in BREAK; a stale ENC input changes nothing. An entry to BREAK empties the queue, drops the plan, stops the programs,
claims the twelve channels and is reported. (That trigger and break signals go to all eight slots, each judging itself,
is the model's reading: log entry 21.) -/
def Obligations.BreakEvents : Prop :=
  ∀ (w : Fin 4) (s : State), Released s →
    let c := s.webs.get w
    let motion := c.mode = .standby ∨ c.mode = .crawl ∨ c.mode = .run
    (∀ d : BitVec 5, (∀ i : Fin 4, d.getLsbD i.val = true ↔ LaneActive s w i) → d.getLsbD 4 = false →
      ((∀ i, ¬ LaneActive s w i) → Runs (.brkSample w) s s) ∧
      ((∃ i, LaneActive s w i) → motion → Runs (.brkSample w) s (broken w c d s)) ∧
      ((∃ i, LaneActive s w i) → c.mode = .brk →
        Runs (.brkSample w) s { s with webs := s.webs.set w { c with causes := c.causes ||| d } }) ∧
      (c.mode = .idle → Runs (.brkSample w) s s)) ∧
    (c.mode = .crawl ∨ c.mode = .run → Runs (.brkStaleSignal w) s (broken w c 16 s)) ∧
    (c.mode = .brk → Runs (.brkStaleSignal w) s { s with webs := s.webs.set w { c with causes := c.causes ||| 16 } }) ∧
    (c.mode = .idle ∨ c.mode = .standby → Runs (.brkStaleSignal w) s s) ∧
    Runs (.encStaleSignal w) s s

/-- CLEAR_BREAK and WEB_DISABLE: STATE and no change unless the web is in BREAK, at rest and with no active BRK lane, or
is not IDLE and at rest. CLEAR_BREAK leaves STANDBY with tracking start signalled and the twelve BREAK claims released;
WEB_DISABLE leaves IDLE without a plan, the queue emptied, BREAK claims released, activity judged and a housing whose
other web is IDLE signalled dark. (The model's readings: trigger signals go to all eight slots, log entry 21; bytes
beyond the arguments are ignored, log entry 11.) -/
def Obligations.WebClearedAndDisabled : Prop :=
  ∀ (w : Fin 4) (tag : Byte) (extra : List Byte) (s : State), InService s →
    let x := s.webs.get w
    let clear := Instr.clearBreak ⟨tag, BitVec.ofNat 8 w.val :: extra⟩
    let disable := Instr.webDisable ⟨tag, BitVec.ofNat 8 w.val :: extra⟩
    let released := (reachedBy w).map fun ch => Instr.holderRelease ch (.web w)
    (x.mode = .brk → x.v = 0 → (∀ i, ¬ LaneActive s w i) → Done clear s tag 8
      (sending { passed s with webs := s.webs.set w { x with mode := .standby, causes := 0 } }
        (transition w .brk .standby ++ [.trackingStart w] ++ released))) ∧
    (x.mode ≠ .brk ∨ x.v ≠ 0 ∨ (∃ i, LaneActive s w i) → Refused clear s tag 8 .state []) ∧
    (x.mode ≠ .idle → x.v = 0 → Done disable s tag 5
      (sending { passed s with webs := s.webs.set w { x with mode := .idle, plan := none, causes := 0 } }
        (transition w x.mode .idle ++ [.queueEmptying w] ++ (if x.mode = .brk then released else []) ++
          [.activitySignal w] ++
          (if s.mode (otherWeb w) = .idle then [.housingDarkSignal (housingOf w)] else [])))) ∧
    (x.mode = .idle ∨ x.v ≠ 0 → Refused disable s tag 5 .state [])

/-- SPEED_PLAN: RANGE with fewer than five argument bytes; STATE in IDLE and BREAK; else DONE with target and rate
clamped, CLAMPED when a clamp acted, and the plan replaced, or absent when its target lies within 50 of v. The demand
speed looks ahead along the plan by T_lead, never past its target, is v without a plan, and 0 in IDLE and BREAK. (That
bytes beyond the arguments are ignored is the model's reading: log entry 11.) -/
def Obligations.SpeedPlanAndDemand : Prop :=
  (∀ (w : Fin 4) (tag th tl rh rl : Byte) (extra : List Byte) (s : State), InService s →
    let c := Instr.speedPlan ⟨tag, BitVec.ofNat 8 w.val :: th :: tl :: rh :: rl :: extra⟩
    let x := s.webs.get w
    let target := th.toNat * 256 + tl.toNat
    let rate := rh.toNat * 256 + rl.toNat
    let target' := min target 20000
    let rate' := max 10 (min rate 2000)
    (x.mode = .idle ∨ x.mode = .brk → Refused c s tag 6 .state []) ∧
    (x.mode = .standby ∨ x.mode = .crawl ∨ x.mode = .run →
      Answered c s tag 6 .done (decide (target' ≠ target ∨ rate' ≠ rate)) []
        { passed s with
          webs := s.webs.set w
            { x with plan := if ((target' : Int) - x.v).natAbs ≤ 50 then none else some ⟨target', rate'⟩ } })) ∧
  (∀ (tag : Byte) (short : List Byte) (s : State), InService s → short.length < 5 →
    Refused (.speedPlan ⟨tag, short⟩) s tag 6 .range []) ∧
  (∀ (w : Fin 4) (s : State),
    let x := s.webs.get w
    let reach := (s.housing (housingOf w)).tLead
    let motion := x.mode = .standby ∨ x.mode = .crawl ∨ x.mode = .run
    (¬ motion → s.demandSpeed w = 0) ∧
    (motion → x.plan = none → s.demandSpeed w = x.v) ∧
    (∀ p, motion → x.plan = some p → x.v < p.target → s.demandSpeed w = min p.target (x.v + p.rate * reach)) ∧
    (∀ p, motion → x.plan = some p → p.target ≤ x.v →
      (s.demandSpeed w : Int) = max (p.target : Int) (x.v - p.rate * reach)))

/-! ## Sample Intake -/

/-- INTAKE_SAMPLE: a sample that the channel's enabled subscription does not name, or that leaves every lane of the role
absent, changes nothing. An arrival replaces the record with the selected, offset and scaled lanes, FRESH, at the present
time with its age timer running, and signals the consumers, after INPUT_RESTORED when the record was STALE.
AGE_TIMER_EXPIRY: once max age has passed since the arrival the record is STALE, reported and signalled. (That an expiry
given before then changes nothing is the model's reading: log entry 17.) -/
def Obligations.SamplesTakenAndAged : Prop :=
  ∀ (ch : Fin 32) (s : State), Released s →
    let c := s.inputs.get ch
    (∀ (x : Sample) (lanes : Tab (Option Int) 8),
      (∀ i : Fin 8, lanes.get i =
        if i.val < lanesUsed ch ∧ c.sub.laneMap.get i < min x.laneCount 8 ∧
            x.validity.getLsbD (c.sub.laneMap.get i) = true then
          some (scaleLane c.sub.scale (offsetLane c.sub.offset (x.lanes.items.getD (c.sub.laneMap.get i) 0)))
        else none) →
      let named := c.sub.enabled = true ∧ c.sub.node = x.node.toNat ∧ c.sub.setId = x.setId.toNat
      let arrival := ∃ i, lanes.get i ≠ none
      (¬ named ∨ ¬ arrival → Runs (.intakeSample ch x) s s) ∧
      (∀ mask, named → arrival → MasksPresent mask lanes → Runs (.intakeSample ch x) s
        (sending
          { s with inputs := s.inputs.set ch { c with record := ⟨true, lanes, s.now, true⟩ } }
          ((if c.record.fresh = true then [] else [.noticeRaised (.inputRestored ch mask)]) ++
            arrivalSignals (inRole ch))))) ∧
    (∀ mask, c.record.ageRunning = true → c.sub.maxAge ≤ (s.now - c.record.arrival).toNat →
      MasksPresent mask c.record.lanes → Runs (.ageTimerExpiry ch) s
        (sending
          { s with
            inputs := s.inputs.set ch { c with record := { c.record with fresh := false, ageRunning := false } } }
          (.noticeRaised (.inputStale ch mask) :: staleSignals (inRole ch)))) ∧
    (c.record.ageRunning = false ∨ (s.now - c.record.arrival).toNat < c.sub.maxAge → Runs (.ageTimerExpiry ch) s s)

/-- The lane operations and the consumers: OFFSET saturates a sum, SCALE multiplies with saturation or divides with
floor, DEADBAND clears small values, SHIFT divides with floor, MEAN is the floored mean of the present lanes and lies
between them; the present mask; and by Tables 3-1 and 3-4 the channel, the number of lanes and the consumers of each
role. -/
def Obligations.LaneOperationsAndConsumers : Prop :=
  (∀ d x : Int, offsetLane d x = max (-32768) (min (x + d) 32767)) ∧
  (∀ x : Int, scaleLane 0 x = max (-32768) (min x 32767) ∧
    ∀ k : Nat, k ≤ 15 → 1 ≤ k →
      scaleLane k x = max (-32768) (min (x * 2 ^ k) 32767) ∧ scaleLane (-k) x = x / 2 ^ k) ∧
  (∀ (d : Nat) (x : Int), deadbandLane d x = if x.natAbs ≤ d then 0 else x) ∧
  (∀ (x : Int) (k : Nat), -32768 ≤ x → x ≤ 32767 → shiftLane x k = x / 2 ^ min k 15) ∧
  (∀ r : InputRecord, r.mean = meanOf (presentLanes r.lanes) ∧ ∀ x, x ∈ presentLanes r.lanes ↔ ∃ i, r.lanes.get i = some x) ∧
  (∀ xs : List Int, xs ≠ [] → ∃ m, meanOf xs = some m ∧ m = xs.sum / xs.length ∧ (∃ a ∈ xs, a ≤ m) ∧ ∃ b ∈ xs, m ≤ b) ∧
  meanOf [] = none ∧
  (∀ lanes, MasksPresent (presentMask lanes) lanes) ∧ (∀ ch, (inRole ch).lanes = lanesUsed ch) ∧
  (∀ (h : Fin 2) (z : Fin 4), (zairCh h z).val = 6 * h.val + z.val ∧ (lelCh h).val = 6 * h.val + 4 ∧
    (exhtCh h).val = 6 * h.val + 5) ∧
  (∀ w : Fin 4, (dexitCh w).val = 12 + 5 * w.val ∧ (cexitCh w).val = 13 + 5 * w.val ∧ (cwretCh w).val = 14 + 5 * w.val ∧
    (encCh w).val = 15 + 5 * w.val ∧ (brkCh w).val = 16 + 5 * w.val) ∧
  (∀ (h : Fin 2) (z : Fin 4), inRole (zairCh h z) = .zair h z ∧ inRole (lelCh h) = .lel h ∧
    inRole (exhtCh h) = .exht h ∧ arrivalSignals (.zair h z) = [.fullUpdate h z, .zairTripCheck h z] ∧
    staleSignals (.zair h z) = [.zairStale h z] ∧ arrivalSignals (.lel h) = [.lelArrival h] ∧
    staleSignals (.lel h) = [.lelStale h] ∧ arrivalSignals (.exht h) = [.exhtArrival h] ∧
    staleSignals (.exht h) = []) ∧
  (∀ w : Fin 4, inRole (dexitCh w) = .dexit w ∧ inRole (cexitCh w) = .cexit w ∧ inRole (cwretCh w) = .cwret w ∧
    inRole (encCh w) = .enc w ∧ inRole (brkCh w) = .brk w ∧ arrivalSignals (.dexit w) = [.dexitArrival w] ∧
    staleSignals (.dexit w) = [.dexitStale w] ∧ arrivalSignals (.cexit w) = [.cexitArrival w] ∧
    staleSignals (.cexit w) = [.cexitStale w] ∧ arrivalSignals (.cwret w) = [.cwretArrival w] ∧
    staleSignals (.cwret w) = [] ∧
    arrivalSignals (.enc w) = [.advance w, .encSpeed w] ++
      (List.finRange 4).map (fun z => .feedforwardRefresh (housingOf w) z) ++
      [.monitorEncArrival (housingOf w), .finishingEncArrival w] ∧
    staleSignals (.enc w) = [.encStaleSignal w] ∧ arrivalSignals (.brk w) = [.brkSample w] ∧
    staleSignals (.brk w) = [.brkStaleSignal w])

/-! ## The Profile Store -/

/-- HOUSING_DARK_SIGNAL, ZONE_, DAMPER_, CHILL_SWITCH_SIGNAL and COMPLETION_SIGNAL: taken only in a dark housing with an
indicator in use, or while the switch record names the carried incoming bank; then the indicators named that refer to
the outgoing bank move, each reported, and a bank that no indicator refers to any longer is freed. (The model's choices:
of two banks freed by one darkening P is reported first, log entry 24; the indicators that one signal moves are reported
zones first, then dampers, then chills, log entry 33.) -/
def Obligations.IndicatorsSwitched : Prop :=
  ∀ (h : Fin 2) (s : State), Released s →
    let p := s.profiles.get h
    let put := fun (q : ProfileHousing) (cs : List Instr) => sending { s with profiles := s.profiles.set h q } cs
    let freed := fun (b : Bank) (cause : FreeCause) =>
      if (p.bank b).state = .inUse then [Instr.noticeRaised (.bankFree h b cause)] else []
    (s.mode (firstWeb h) = .idle ∧ s.mode (secondWeb h) = .idle ∧ (∃ i ∈ p.indicators, i ≠ none) →
      Runs (.housingDarkSignal h) s
        (put ({ p with switch := none }.pointAll none).settled (freed .p .dark ++ freed .q .dark))) ∧
    (¬ (s.mode (firstWeb h) = .idle ∧ s.mode (secondWeb h) = .idle ∧ ∃ i ∈ p.indicators, i ≠ none) →
      Runs (.housingDarkSignal h) s s) ∧
    (∀ (inc : Bank) (seq : BitVec 16),
      let out := otherBank inc
      let move := fun i : Option Bank => if i = some out then some inc else i
      let told := fun (cause : SwitchCause) (ind : Indicator) (i : Option Bank) =>
        if i = some out then [Instr.noticeRaised (.profileSwitched ind inc cause)] else []
      let finish := fun (q : ProfileHousing) (cs : List Instr) =>
        if ∃ i ∈ q.indicators, i = some out then put q.settled cs
        else put { q with switch := none }.settled (cs ++ freed out .switch)
      let signals := [Instr.damperSwitchSignal h inc seq, .chillSwitchSignal h inc seq, .completionSignal h inc] ++
        (List.finRange 4).map fun z => .zoneSwitchSignal h z inc seq
      let dampers : Tab (Option Bank) 2 := Tab.ofFn fun k => move (p.dampers.get k)
      let chills : Tab (Option Bank) 2 := Tab.ofFn fun k => move (p.chills.get k)
      (p.switch ≠ some inc → ∀ c ∈ signals, Runs c s s) ∧
      (p.switch = some inc →
        (∀ z, Runs (.zoneSwitchSignal h z inc seq) s
          (put { p with zones := p.zones.set z (move (p.zones.get z)) }.settled
            (told (.marker seq) (.zone h z) (p.zones.get z)))) ∧
        Runs (.damperSwitchSignal h inc seq) s (finish { p with dampers := dampers }
          (told (.marker seq) (.damper (firstWeb h)) (p.dampers.get 0) ++
            told (.marker seq) (.damper (secondWeb h)) (p.dampers.get 1))) ∧
        Runs (.chillSwitchSignal h inc seq) s (finish { p with chills := chills }
          (told (.marker seq) (.chill (firstWeb h)) (p.chills.get 0) ++
            told (.marker seq) (.chill (secondWeb h)) (p.chills.get 1))) ∧
        Runs (.completionSignal h inc) s (put
          { p with zones := Tab.ofFn fun z => move (p.zones.get z), dampers := dampers, chills := chills,
                   switch := none }.settled
          ((List.finRange 4).flatMap (fun z => told .discard (.zone h z) (p.zones.get z)) ++
            told .discard (.damper (firstWeb h)) (p.dampers.get 0) ++
            told .discard (.damper (secondWeb h)) (p.dampers.get 1) ++
            told .discard (.chill (firstWeb h)) (p.chills.get 0) ++
            told .discard (.chill (secondWeb h)) (p.chills.get 1) ++ freed out .switch))))

/-- The interpolated set point: on breakpoints that rise from 0, with i, fs, j and fl as the two inputs place
themselves, it is A + (B - A) fs / 256 of the four cells, every division floored, and lies between the least and the
greatest of them. -/
def Obligations.SetPointInterpolated : Prop :=
  ∀ (p : Profile) (z : Fin 4) (s l i j fs fl : Nat), 2 ≤ p.n → p.n ≤ 8 → 2 ≤ p.m → p.m ≤ 6 →
    (p.speeds.items.take p.n).Pairwise (· < ·) → (p.loads.items.take p.m).Pairwise (· < ·) →
    p.speeds.items.getD 0 0 = 0 → p.loads.items.getD 0 0 = 0 →
    let S := fun k => p.speeds.items.getD k 0
    let L := fun k => p.loads.items.getD k 0
    let v := fun a b : Nat => ((p.grid.items.getD ((a * 6 + b) * 4 + z.val) 0 : Nat) : Int)
    ((S (p.n - 1) ≤ s ∧ i = p.n - 2 ∧ fs = 256) ∨
      (i + 2 ≤ p.n ∧ S i ≤ s ∧ s < S (i + 1) ∧ fs = (s - S i) * 256 / (S (i + 1) - S i))) →
    ((L (p.m - 1) ≤ l ∧ j = p.m - 2 ∧ fl = 256) ∨
      (j + 2 ≤ p.m ∧ L j ≤ l ∧ l < L (j + 1) ∧ fl = (l - L j) * 256 / (L (j + 1) - L j))) →
    let a := v i j + (v i (j + 1) - v i j) * fl / 256
    let b := v (i + 1) j + (v (i + 1) (j + 1) - v (i + 1) j) * fl / 256
    (interpolate p z s l : Int) = a + (b - a) * fs / 256 ∧
      min (v i j) (v i (j + 1)) ≤ a ∧ a ≤ max (v i j) (v i (j + 1)) ∧
      min (v (i + 1) j) (v (i + 1) (j + 1)) ≤ b ∧ b ≤ max (v (i + 1) j) (v (i + 1) (j + 1)) ∧
      min a b ≤ (interpolate p z s l : Int) ∧ (interpolate p z s l : Int) ≤ max a b ∧
      min (min (v i j) (v i (j + 1))) (min (v (i + 1) j) (v (i + 1) (j + 1))) ≤ (interpolate p z s l : Int) ∧
      (interpolate p z s l : Int) ≤ max (max (v i j) (v i (j + 1))) (max (v (i + 1) j) (v (i + 1) (j + 1)))

/-! ## The Zone Loops -/

namespace Sys2Proof.Statements

/-- The part as a ramp signal tells it to the reader of target `t`: with `v` for its ramp value (log entry 27). -/
def toldTo (s : State) (t : RampTarget) (v : Option Nat) : State :=
  { s with ramp := { s.ramp with owners := s.ramp.owners.set (targetIx t) ⟨some 0, v⟩ } }

end Sys2Proof.Statements

/-- What a zone computation forms: averages and rates of a web in motion (0 otherwise) from the overlap sums of its queue
with the zone, the set point from a ramp value or the interpolation at the greater demand speed and load, the evaporation
and web-heating terms, each floored once, and the feedforward, capped at 10000. -/
def Obligations.ZoneTermsFormed : Prop :=
  ∀ (s : State) (h : Fin 2) (z : Fin 4) (l : ZoneLoop),
    let a := firstWeb h
    let b := secondWeb h
    let bank := (s.profiles.get h).zones.get z
    let p := s.profile h bank
    let motion := fun w => s.mode w = .standby ∨ s.mode w = .crawl ∨ s.mode w = .run
    let numerator := fun w =>
      s.demandSpeed w * (s.params w).width * coveredSum (s.track w) z * p.bWeb.get z
    let la := zoneLength (s.track a) z
    let lb := zoneLength (s.track b) z
    let l' := formLoop s h z l
    (∀ w, let t := s.track w
      let start := t.stations.get ⟨z.val, by omega⟩
      let stop := t.stations.get ⟨z.val + 1, by omega⟩
      let overlap := fun x : Segment =>
        min stop (t.path - x.head).toNat - max start ((t.path - x.head).toNat - x.length)
      zoneLength t z = stop - start ∧ coveredSum t z = (t.queue.map overlap).sum ∧
        weightedSum t z = (t.queue.map fun x => x.load * overlap x).sum) ∧
    (∀ w, motion w → avgLoad s w z = weightedSum (s.track w) z / zoneLength (s.track w) z ∧
      solventRate s w z = avgLoad s w z * (s.params w).width * s.demandSpeed w / 10 ^ 6) ∧
    (∀ w, ¬ motion w → avgLoad s w z = 0 ∧ solventRate s w z = 0) ∧
    (∀ v, s.rampValue (.zoneSp h z) = some v → l'.setPoint = v ∧ l'.source = .ramp) ∧
    (s.rampValue (.zoneSp h z) = none →
      l'.setPoint = interpolate p z (max (s.demandSpeed a) (s.demandSpeed b)) (max (avgLoad s a z) (avgLoad s b z)) ∧
      (bank = some .p → l'.source = .p) ∧ (bank = some .q → l'.source = .q)) ∧
    l'.ffEvap = (solventRate s a z + solventRate s b z) * p.share.get z * p.kEvap.get z / 256000 ∧
    (motion a → motion b → l'.ffWeb = (numerator a * lb + numerator b * la) / (10 ^ 6 * la * lb)) ∧
    (motion a → ¬ motion b → l'.ffWeb = numerator a / (10 ^ 6 * la)) ∧
    (¬ motion a → motion b → l'.ffWeb = numerator b / (10 ^ 6 * lb)) ∧
    (¬ motion a → ¬ motion b → l'.ffWeb = 0) ∧
    l'.ff = min 10000 (l'.ffEvap + l'.ffWeb) ∧
    l' = { l with setPoint := l'.setPoint, source := l'.source, ffEvap := l'.ffEvap, ffWeb := l'.ffWeb, ff := l'.ff }

/-- The six events of a zone loop: nothing in a dark housing. In a lit one set point and feedforward are formed; a full
update forms error, proportional term, integral (skipped at the ends of the range) and trim; a refresh keeps the trim,
or drops its proportional term while the record is STALE, as the stale signal does; a ramp signal keeps it; an operator
return presets the integral for the value V; a protective return clears the trim. HEAT is the feedforward with the trim
scaled by the governing web's authority, within 0..10000, FAN the ramp value or the profile's value for its mode; both
are recorded and handed. A ramp signal is taken with the ramp values it carries (log entry 27). (A full update without a
mean does nothing: log entry 14.) -/
def Obligations.ZoneLoopEvents : Prop :=
  ∀ (h : Fin 2) (z : Fin 4) (s : State), Released s →
    let i := loopIx h z
    let l := s.loops.get i
    let r := s.record (zairCh h z)
    let dark := s.mode (firstWeb h) = .idle ∧ s.mode (secondWeb h) = .idle
    let factor : Trim := match s.governing h with
      | some g => (match s.mode g with
        | .standby => (s.params g).trimStandby
        | .crawl => (s.params g).trimCrawl
        | .run => (s.params g).trimRun
        | _ => .zero)
      | none => .zero
    let scaled : Int → Int := fun x => match factor with
      | .zero => 0
      | .half => x / 2
      | .one => x
      | .two => max (-10000) (min (2 * x) 10000)
    let fanFor : Option Nat → Nat := fun ramp => match ramp, s.governing h with
      | some v, _ => v
      | none, some g =>
        if s.mode g = .crawl ∨ s.mode g = .run then (s.profile h ((s.profiles.get h).zones.get z)).fanRun.get z
        else (s.profile h ((s.profiles.get h).zones.get z)).fanStandby.get z
      | none, none => (s.profile h ((s.profiles.get h).zones.get z)).fanStandby.get z
    let bounded : Int → Int := fun acc => max (-(l.iLimit * 4096 : Int)) (min acc (l.iLimit * 4096 : Int))
    let endsWith := fun (l1 : ZoneLoop) (ramp : Option Nat) (c : Instr) (e p acc trim : Int) =>
      let fan := fanFor ramp
      let heat : Nat := (max 0 (min ((l1.ff : Int) + scaled trim) 10000)).toNat
      let l' := { l1 with lastE := e, lastP := p, iAcc := acc, lastTrim := trim, factor := factor, heat := heat, fan := fan }
      Runs c s (sending { s with loops := s.loops.set i l' }
        [.scheduleValue (heatOut h z) [heat], .scheduleValue (fanOut h z) [fan]])
    let l1 := formLoop s h z l
    let ends := endsWith l1 (s.rampValue (.fan h z))
    (dark → ∀ c ∈ [Instr.fullUpdate h z, .feedforwardRefresh h z, .zairStale h z], Runs c s s) ∧
    (dark → ∀ sp fan, Runs (.zoneRampSignal h ⟨z, sp, fan⟩) s s) ∧
    (dark → ∀ v lv, Runs (.operatorReturn h z v) s s ∧ Runs (.protectiveReturn h z lv) s s) ∧
    (¬ dark →
      (r.mean = none → Runs (.fullUpdate h z) s s) ∧
      (∀ t, r.mean = some t →
        let e := max (-32768) (min ((l1.setPoint : Int) - t) 32767)
        let p := e * l.kp / 16
        let acc := if (l.heat = 10000 ∧ 0 < e) ∨ (l.heat = 0 ∧ e < 0) then l.iAcc else bounded (l.iAcc + e * l.ki)
        ends (.fullUpdate h z) e p acc (p + acc / 4096)) ∧
      (r.fresh = true → ends (.feedforwardRefresh h z) l.lastE l.lastP l.iAcc l.lastTrim) ∧
      (r.fresh = false → ends (.feedforwardRefresh h z) l.lastE 0 l.iAcc (l.iAcc / 4096)) ∧
      ends (.zairStale h z) l.lastE 0 l.iAcc (l.iAcc / 4096) ∧
      (∀ sp fan, endsWith (formLoop (toldTo (toldTo s (.zoneSp h z) sp) (.fan h z) fan) h z l) fan
        (.zoneRampSignal h ⟨z, sp, fan⟩) l.lastE l.lastP l.iAcc l.lastTrim) ∧
      (∀ v : Nat,
        let d : Int := (v : Int) - l1.ff
        let required : Int := match factor with
          | .half => 2 * d
          | .two => d / 2
          | _ => d
        let p := if r.fresh = true then l.lastP else 0
        let acc := bounded ((required - p) * 4096)
        ends (.operatorReturn h z v) l.lastE p acc (p + acc / 4096)) ∧
      (∀ lv, ends (.protectiveReturn h z lv) l.lastE 0 0 0))

/-! ## Web Finishing -/

/-- The damper bank at an event, after its alignment, which changes nothing but the bank, its base with its source and
the mark of RUN: outside RUN, and at the first event in RUN, every lane is the base; afterwards a DEXIT arrival in RUN
moves each present lane by its deviation's step, clamped, and re-centres the present lanes on the base, clamped again;
absent lanes stand. The chill part: target, its source and temperature drop by ramp value, bank and held dryer-exit
mean, feedforward from the last speed; by the web's mode the split of the feedforward with circuit B's scaled trim, or
both circuits at the minimum opening, and in BREAK the trim cleared. -/
def Obligations.DamperAndChillPartsFormed : Prop :=
  (∀ (s : State) (w : Fin 4) (f : Finishing),
      let f1 := alignDampers s w f
      let p := s.damperProfile w
      let lanes := (s.record (dexitCh w)).lanes
      f1 = { f with
        dampers := f1.dampers, dampBase := f1.dampBase, dampSource := f1.dampSource, runSeen := f1.runSeen } ∧
      (∀ v, s.rampValue (.dampBase w) = some v → f1.dampBase = v ∧ f1.dampSource = .ramp) ∧
      (s.rampValue (.dampBase w) = none → f1.dampBase = p.dampBase ∧
        (s.damperBank w = some .p → f1.dampSource = .p) ∧ (s.damperBank w = some .q → f1.dampSource = .q)) ∧
      (f1.runSeen = true ↔ s.mode w = .run) ∧
      (s.mode w = .run → f.runSeen = true → f1.dampers = f.dampers) ∧
      (s.mode w ≠ .run ∨ f.runSeen = false → ∀ i, f1.dampers.get i = f1.dampBase) ∧
      (∀ m, (s.record (dexitCh w)).mean = some m →
        let low : Int := p.dampMin
        let high : Int := p.dampMax
        let step := fun x : Int =>
          let dev := max (-32768) (min (x - m) 32767)
          shiftLane (if dev.natAbs ≤ p.dampDeadband then 0 else dev) p.dampShift
        let moved := fun i : Fin 8 => (lanes.get i).map fun x => max low (min ((f.dampers.get i : Int) - step x) high)
        let present := (List.finRange 8).filterMap moved
        let c := present.sum / present.length - (f.dampBase : Int)
        updateDampers s w f = { f with dampers := (updateDampers s w f).dampers } ∧
        ∀ i, ((updateDampers s w f).dampers.get i : Int) =
          match moved i with
          | some d => max low (min (d - c) high)
          | none => f.dampers.get i)) ∧
  (∀ (s : State) (w : Fin 4) (f : Finishing),
      let p := s.chillProfile w
      let q := s.params w
      let f1 := formChill s w f
      let f2 := scheduleChill s w f
      let a := f.ff * p.shareA / 256
      (∀ v, s.rampValue (.chillTarget w) = some v → f1.target = v ∧ f1.targetSource = .ramp) ∧
      (s.rampValue (.chillTarget w) = none → f1.target = p.chillTarget ∧
        (s.chillBank w = some .p → f1.targetSource = .p) ∧ (s.chillBank w = some .q → f1.targetSource = .q)) ∧
      ((s.record (dexitCh w)).mean = none → f1.deltaT = 0) ∧
      (∀ m, (s.record (dexitCh w)).mean = some m → (f1.deltaT : Int) = max 0 (m - f1.target)) ∧
      f1.ff = (s.webs.get w).v * q.width * q.grammage * f1.deltaT * p.kc / 10 ^ 12 ∧
      f1 = { f with target := f1.target, targetSource := f1.targetSource, deltaT := f1.deltaT, ff := f1.ff } ∧
      (s.mode w = .crawl ∨ s.mode w = .run →
        let k := if s.mode w = .crawl then q.trimCrawl else q.trimRun
        let scaled : Int := match k with
          | .zero => 0
          | .half => f.lastTrim / 2
          | .one => f.lastTrim
          | .two => max (-10000) (min (2 * f.lastTrim) 10000)
        f2 = { f with
          factor := k
          chillA := min 10000 (max q.chillMin a)
          chillB := (max (q.chillMin : Int) (min (((f.ff - a : Nat) : Int) + scaled) 10000)).toNat }) ∧
      (s.mode w = .idle ∨ s.mode w = .standby →
        f2 = { f with factor := .zero, chillA := q.chillMin, chillB := q.chillMin }) ∧
      (s.mode w = .brk →
        f2 = { f with factor := .zero, chillA := q.chillMin, chillB := q.chillMin, iAcc := 0, lastP := 0, lastTrim := 0 }))

/-- The eight events of Web Finishing: nothing on an IDLE web. A DEXIT arrival aligns and in RUN moves the dampers,
judges the dry window and takes a chill full update; a CEXIT arrival judges the chill window and takes one; a CWRET
arrival judges the return windows; ENC arrivals and the stale DEXIT align and refresh the chill part; the stale CEXIT
drops the trim's proportional term; the ramp signals align the dampers or refresh the chill part, with the ramp value
they carry (log entry 27). Each part hands its channels, and a window reports only a change of side (two notices of one
CWRET arrival go A before B: log entry 31). -/
def Obligations.FinishingEvents : Prop :=
  ∀ (w : Fin 4) (s : State), Released s →
    let f := s.finishing.get w
    let dexit := s.record (dexitCh w)
    let cexit := s.record (cexitCh w)
    let cwret := s.record (cwretCh w)
    let moves := s.mode w = .crawl ∨ s.mode w = .run
    let leaves := fun (c : Instr) (f' : Finishing) (cs : List Instr) =>
      Runs c s (sending { s with finishing := s.finishing.set w f' } cs)
    let dampers := fun f' : Finishing => [Instr.scheduleValue (dampOut w) f'.dampers.items]
    let chill := fun f' : Finishing =>
      [Instr.scheduleValue (chillAOut w) [f'.chillA], .scheduleValue (chillBOut w) [f'.chillB]]
    let judged := fun (win : Window) (was out : Bool) (value bound : Int) =>
      if out = was then [] else
        [Instr.noticeRaised (if out then .outOfWindow win value bound else .windowRestored win value bound)]
    let dropped := fun g : Finishing => { g with lastP := 0, lastTrim := g.iAcc / 4096 }
    let updated := fun g : Finishing =>
      if moves then
        (match cexit.fresh, cexit.mean with
        | true, some m =>
          let e := max (-32768) (min (m - g.target) 32767)
          let acc := if (g.chillB = 10000 ∧ 0 < e) ∨ (g.chillB = (s.params w).chillMin ∧ e < 0) then g.iAcc
            else max (-(g.iLimit * 4096 : Int)) (min (g.iAcc + e * g.ki) (g.iLimit * 4096 : Int))
          { g with lastE := e, lastP := e * g.kp / 16, iAcc := acc, lastTrim := e * g.kp / 16 + acc / 4096 }
        | _, _ => dropped g)
      else g
    let full := fun g : Finishing => scheduleChill s w (updated (formChill s w g))
    let refreshedFrom := fun (view : State) (g : Finishing) => scheduleChill s w
      (if moves ∧ cexit.fresh = false then dropped (formChill view w g) else formChill view w g)
    let refreshed := refreshedFrom s
    let aligned := alignDampers s w f
    (s.mode w = .idle → ∀ c ∈ [Instr.dexitArrival w, .cexitArrival w, .cwretArrival w, .finishingEncArrival w,
      .dexitStale w, .cexitStale w], Runs c s s) ∧
    (s.mode w = .idle → ∀ v, Runs (.dampBaseRampSignal ⟨w, v⟩) s s ∧ Runs (.chillTargetRampSignal ⟨w, v⟩) s s) ∧
    (s.mode w ≠ .idle →
      (let g := if s.mode w = .run then updateDampers s w aligned else aligned
       let bound : Int := (s.damperProfile w).dryTarget - (s.damperProfile w).dryWindow
       (∀ m, s.mode w = .run → dexit.fresh = true → dexit.mean = some m →
         let f' := full { g with dryOut := decide (m < bound) }
         leaves (.dexitArrival w) f'
           (dampers f' ++ judged (.dry w) f.dryOut (decide (m < bound)) m bound ++ chill f')) ∧
       (s.mode w ≠ .run ∨ dexit.fresh = false ∨ dexit.mean = none →
         leaves (.dexitArrival w) (full g) (dampers (full g) ++ chill (full g)))) ∧
      (let bound : Int := (formChill s w f).target + (s.chillProfile w).chillWindow
       (∀ m, s.mode w = .run → cexit.fresh = true → cexit.mean = some m →
         let f' := full { f with chillOut := decide (bound < m) }
         leaves (.cexitArrival w) f'
           (judged (.chillExit w) f.chillOut (decide (bound < m)) m bound ++ chill f')) ∧
       (s.mode w ≠ .run ∨ cexit.fresh = false ∨ cexit.mean = none →
         leaves (.cexitArrival w) (full f) (chill (full f)))) ∧
      (let limit : Int := (s.housing (housingOf w)).returnLimit
       let side := fun (lane : Option Int) (was : Bool) => match lane with
         | some x => decide (limit < x)
         | none => was
       let told := fun (c : Circuit) (lane : Option Int) (was : Bool) => match lane with
         | some x => judged (.waterReturn w c) was (decide (limit < x)) x limit
         | none => []
       (cwret.fresh = true → leaves (.cwretArrival w)
         { f with returnAOut := side (cwret.lanes.get 0) f.returnAOut, returnBOut := side (cwret.lanes.get 1) f.returnBOut }
         (told .a (cwret.lanes.get 0) f.returnAOut ++ told .b (cwret.lanes.get 1) f.returnBOut)) ∧
       (cwret.fresh = false → Runs (.cwretArrival w) s s)) ∧
      (∀ c ∈ [Instr.finishingEncArrival w, .dexitStale w],
        leaves c (refreshed aligned) (dampers (refreshed aligned) ++ chill (refreshed aligned))) ∧
      (let f' := scheduleChill s w (formChill s w (dropped f))
       leaves (.cexitStale w) f' (chill f')) ∧
      (∀ v, let f' := alignDampers (toldTo s (.dampBase w) v) w f
        leaves (.dampBaseRampSignal ⟨w, v⟩) f' (dampers f')) ∧
      (∀ v, let f' := refreshedFrom (toldTo s (.chillTarget w) v) f
        leaves (.chillTargetRampSignal ⟨w, v⟩) f' (chill f')))

/-! ## The Solvent Monitor -/

/-- The events of the Solvent Monitor: nothing in a dark housing. LEL and ENC arrivals form and hand the exhaust
schedule; an LEL arrival then judges LIMIT and the trip; a stale LEL record, a zone or the exhaust at its trip
temperature trips. A trip event sets the latch, adds its cause, reports a new one and claims the nine channels. (The
model's choices: the reading is carried with every TRIP notice that has one, log entry 16; a record without its lane
judges nothing, log entry 25.) -/
def Obligations.SolventMonitorEvents : Prop :=
  ∀ (h : Fin 2) (s : State), Released s →
    let m := s.monitors.get h
    let p := m.params
    let dark := s.mode (firstWeb h) = .idle ∧ s.mode (secondWeb h) = .idle
    let nine := [heatOut h 0, heatOut h 1, heatOut h 2, heatOut h 3, fanOut h 0, fanOut h 1, fanOut h 2, fanOut h 3,
      exhOut h]
    let lel : Option Nat := ((s.record (lelCh h)).lanes.get 0).map fun x => (max 0 (min x 1000)).toNat
    let share := fun z => (s.profile h ((s.profiles.get h).zones.get z)).share.get z
    let rate := fun z => (solventRate s (firstWeb h) z + solventRate s (secondWeb h) z) * share z
    let total := (rate 0 + rate 1 + rate 2 + rate 3) / 256
    let term : Nat := match lel with
      | some v => (max 0 (((v : Int) - p.lelTarget) * p.kLel / 16)).toNat
      | none => 0
    let exh := min 10000 (p.eBase + total * p.kExh / 1000 + term)
    let m1 := { m with exhaust := ⟨total, lel, term, exh⟩ }
    let handed := [Instr.scheduleValue (exhOut h) [exh]]
    let tripped := fun (c : TripCause) (reading : Option Int) (x : Monitor) =>
      let set := if x.latch = true then x.causes ||| causeBit c else causeBit c
      ({ x with latch := true, causes := set },
        (if x.latch = true ∧ x.causes &&& causeBit c ≠ 0 then [] else [Instr.noticeRaised (.trip h set reading)]) ++
          nine.map fun ch => .claim ch (.cause c) [])
    let limited := fun (v : Nat) (x : Monitor) =>
      if x.limitOn = false ∧ p.lelLimit ≤ v then
        ({ x with limitOn := true }, nine.map (fun ch => Instr.claim ch .lel []) ++ [.noticeRaised (.limitOn h v)])
      else if x.limitOn = true ∧ v ≤ p.lelClear then
        ({ x with limitOn := false }, nine.map (fun ch => Instr.holderRelease ch .lel) ++ [.noticeRaised (.limitOff h v)])
      else (x, [])
    let leaves := fun (c : Instr) (x : Monitor) (cs : List Instr) =>
      Runs c s (sending { s with monitors := s.monitors.set h x } cs)
    let heated := fun (c : Instr) (cause : TripCause) (trip : Nat) (t : Option Int) =>
      (∀ x : Int, t = some x → (trip : Int) ≤ x → leaves c (tripped cause (some x) m).1 (tripped cause (some x) m).2) ∧
      (∀ x : Int, t = some x → x < (trip : Int) → Runs c s s) ∧ (t = none → Runs c s s)
    (dark → (∀ c ∈ [Instr.lelArrival h, .monitorEncArrival h, .exhtArrival h, .lelStale h], Runs c s s) ∧
      ∀ z, Runs (.zairTripCheck h z) s s) ∧
    (¬ dark →
      (∀ v, lel = some v → p.lelTrip ≤ v →
        leaves (.lelArrival h) (tripped .lelHigh (some v) (limited v m1).1).1
          (handed ++ (limited v m1).2 ++ (tripped .lelHigh (some v) (limited v m1).1).2)) ∧
      (∀ v, lel = some v → v < p.lelTrip → leaves (.lelArrival h) (limited v m1).1 (handed ++ (limited v m1).2)) ∧
      (lel = none → leaves (.lelArrival h) m1 handed) ∧
      ((s.record (lelCh h)).fresh = true → leaves (.monitorEncArrival h) m1 handed) ∧
      ((s.record (lelCh h)).fresh = false →
        leaves (.monitorEncArrival h) (tripped .lelStale none m1).1 (handed ++ (tripped .lelStale none m1).2)) ∧
      leaves (.lelStale h) (tripped .lelStale none m).1 (tripped .lelStale none m).2 ∧
      heated (.exhtArrival h) .exhHigh p.exhTrip ((s.record (exhtCh h)).lanes.get 0) ∧
      ∀ z, heated (.zairTripCheck h z) (.zone z) p.zoneTrip ((s.record (zairCh h z)).lanes.get 0))

/-- CLEAR_TRIP: STATE with the number of the first condition that fails; accepted, the latch is clear, every cause is
released on the nine channels and TRIP_CLEARED carries the set. PURGE_CLAIM_SIGNAL starts the purge timer for the dwell
as it stands; PURGE_TIMER_EXPIRY, once due, stops it and signals the end of the dwell. (When an expiry counts as due, log
entries 7 and 17, and that bytes beyond the arguments are ignored, log entry 11, are the model's readings.) -/
def Obligations.TripClearedAndPurged : Prop :=
  (∀ (h : Fin 2) (tag : Byte) (extra : List Byte) (s : State), InService s →
    let c := Instr.clearTrip ⟨tag, BitVec.ofNat 8 h.val :: extra⟩
    let m := s.monitors.get h
    let p := m.params
    let below := fun (ch : Fin 32) (trip : Nat) => ∀ x, (s.record ch).lanes.get 0 = some x → x < (trip : Int)
    let conds : List Prop :=
      [m.latch = true, (s.record (lelCh h)).fresh = true,
        ∃ x, (s.record (lelCh h)).lanes.get 0 = some x ∧ max 0 (min x 1000) < p.lelLimit,
        ∀ z, below (zairCh h z) p.zoneTrip, below (exhtCh h) p.exhTrip]
    let released := (allCauses.filter fun x => m.causes &&& causeBit x != 0).flatMap fun x =>
      (housingChannels h).map fun ch => Instr.holderRelease ch (.cause x)
    ((∀ q ∈ conds, q) → Done c s tag 9
      (sending { passed s with monitors := s.monitors.set h { m with latch := false, causes := 0 } }
        (released ++ [.noticeRaised (.tripCleared h m.causes)]))) ∧
    (∀ i, i < 5 → ¬ conds.getD i True → (∀ j, j < i → conds.getD j True) →
      Refused c s tag 9 .state [BitVec.ofNat 8 (i + 1)])) ∧
  (∀ (h : Fin 2) (s : State), Released s →
    let m := s.monitors.get h
    Runs (.purgeClaimSignal h) s { s with
      monitors := s.monitors.set h { m with purge := some (s.now + BitVec.ofNat 32 (m.params.purgeDwell * 1000)) } } ∧
    (∀ t, m.purge = some t → (s.now - t).toNat < 2 ^ 31 → Runs (.purgeTimerExpiry h) s
      (sending { s with monitors := s.monitors.set h { m with purge := none } } [.dwellEnd h])) ∧
    ((∀ t, m.purge = some t → 2 ^ 31 ≤ (s.now - t).toNat) → Runs (.purgeTimerExpiry h) s s))

/-! ## Output Authority -/

namespace Sys2Proof.Statements

/-- How an event closes that turns output channel `ch` of `s` into `o'` (R140 to R142): origin and movement timer are set
at a change of target or top and stand otherwise; the return hold is cleared above SCHEDULE, set to the output of before
when a HEAT channel falls to SCHEDULE, and else `held`; and it sends `extra`, the change of top with the return of a HEAT
channel to SCHEDULE, and the output changed by a jump. -/
def ClosedAt (s : State) (ch : Fin 30) (o' : OutputChannel) (held : Option Nat) (extra cs : List Instr) : Prop :=
  let o := s.outputs.get ch
  let before := o.output s.now
  let jump := o'.top = .brk ∨ o'.top = .trip ∨ o'.binding.slew = 0
  let heat := ch.val < 18 ∧ ch.val % 9 < 4
  let back : List Instr := match outRole ch with
    | .heat h z =>
      if o'.top ≠ .schedule ∨ o.top = .schedule then []
      else if o.top = .operator then [.operatorReturn h z (o.target.headD 0)] else [.protectiveReturn h z o.top]
    | _ => []
  (o'.target = o.target → o'.top = o.top →
    o'.originValue = o.originValue ∧ o'.originTime = o.originTime ∧ o'.moveTimer = o.moveTimer) ∧
  (o'.target ≠ o.target ∨ o'.top ≠ o.top →
    o'.originTime = s.now ∧ (jump → o'.originValue = o'.target) ∧ (¬ jump → o'.originValue = before) ∧
      o'.moveTimer = o'.movement s.now (s.emission.records.get ch).lastSent) ∧
  (o'.top ≠ .schedule → o'.returnHold = none) ∧
  (o'.top = .schedule → o.top ≠ .schedule → heat → o'.returnHold = some (before.headD 0)) ∧
  (o'.top = .schedule → o.top = .schedule ∨ ¬ heat → o'.returnHold = held) ∧
  cs = extra ++ (if o'.top = o.top then [] else .topChange ch :: back) ++
    (if jump ∧ o'.target ≠ before then [.outputChange ch] else [])

end Sys2Proof.Statements

/-- Top, target and output: the top is the highest entry; the target its value, under SCHEDULE the return hold or the
last value handed; the output is the target at once under BREAK, TRIP or no slew limit, and otherwise each lane has
moved from its origin toward the target by floor(slew × elapsed / 1000), stopping there. The movement timer runs only on
an active channel on its way whose last-sent is known, and expires at the first ms at which some lane differs from
last-sent by the deadband and by 1; it stops when none ever does. (A difference first reached at the target itself
counts: log entry 18.) -/
def Obligations.OutputsFollowTheStack : Prop :=
  ∀ (o : OutputChannel) (now : PartTime),
    let at' := fun i => o.entries.get i
    let moved := o.binding.slew * (now - o.originTime).toNat / 1000
    (∀ e, at' 3 = some e → o.top = .trip ∧ o.target = e.value) ∧
    (∀ e, at' 3 = none → at' 2 = some e → o.top = .brk ∧ o.target = e.value) ∧
    (∀ e, at' 3 = none → at' 2 = none → at' 1 = some e → o.top = .limit ∧ o.target = e.value) ∧
    (∀ e, at' 3 = none → at' 2 = none → at' 1 = none → at' 0 = some e → o.top = .operator ∧ o.target = e.value) ∧
    ((∀ i, at' i = none) → o.top = .schedule ∧
      o.target = match o.returnHold with | some v => [v] | none => o.schedule) ∧
    (o.top = .brk ∨ o.top = .trip ∨ o.binding.slew = 0 → o.output now = o.target) ∧
    (o.top ≠ .brk → o.top ≠ .trip → o.binding.slew ≠ 0 → o.originValue.length = o.target.length →
      (o.output now).length = o.target.length ∧
      ∀ (k a b : Nat), o.originValue[k]? = some a → o.target[k]? = some b →
        (o.output now)[k]? = some (if a ≤ b then min b (a + moved) else max b (a - moved))) ∧
    (o.movement now none = none) ∧
    (∀ ls, o.active = false ∨ o.output now = o.target → o.movement now ls = none) ∧
    (∀ ls : Lanes, o.active = true → o.top ≠ .brk → o.top ≠ .trip → o.binding.slew ≠ 0 → o.output now ≠ o.target →
      let differs := fun d : Nat => ∃ k a b l : Nat, o.originValue[k]? = some a ∧ o.target[k]? = some b ∧
        ls[k]? = some l ∧
        let x := if a ≤ b then min b (a + o.binding.slew * d / 1000) else max b (a - o.binding.slew * d / 1000)
        max o.binding.deadband 1 ≤ ((x : Int) - l).natAbs
      let reached := (now - o.originTime).toNat
      (∀ d, reached ≤ d → differs d → (∀ d', reached ≤ d' → d' < d → ¬ differs d') →
        o.movement now (some ls) = some (o.originTime + BitVec.ofNat 32 d)) ∧
      ((∀ d, reached ≤ d → ¬ differs d) → o.movement now (some ls) = none))

/-- CLAIM and HOLDER_RELEASE at one channel. A claim makes an entry (the operator's value, a park value, or the present
output held) or joins the one standing, which keeps its value but for the operator's, takes the claim time and is no
longer release-pending; a BREAK claim on a DAMP or CHILL channel starts its dwell timer; a BREAK or TRIP claim on a
housing channel is signalled to the monitor. A release of a holder that is not there changes nothing; otherwise the
holder leaves, and an emptied entry leaves too unless its dwell runs, when it stays release-pending. Each closes as an
event at the channel does, with its origin, timer, return hold and signals. Other levels and channels are not touched.
(Operator values are fitted to the channel's lanes and range, which every value handed meets:
log entry 22.) -/
def Obligations.ClaimsAndReleases : Prop :=
  ∀ (ch : Fin 30) (party : Party) (values : Lanes) (s : State), Released s →
    let o := s.outputs.get ch
    let i := partyIx party
    let protective := partyLevel party = .brk ∨ partyLevel party = .trip
    let made : ValueSource × Lanes :=
      match party with
      | .operator => (.stored, fitLanes (laneCount ch) values)
      | _ => match (match party with
          | .lel => o.protection.get 0
          | .web _ => o.protection.get 1
          | _ => o.protection.get 2) with
        | some v => (.park, List.replicate (laneCount ch) v)
        | none => (.held, o.output s.now)
    let ended := if ch.val < 18 then (s.monitors.get (channelHousing ch)).purge = none else o.dwell = none
    let dwellMs := (s.housing (channelHousing ch)).purgeDwell * 1000
    (∃ o' cs, Runs (.claim ch party values) s (sending { s with outputs := s.outputs.set ch o' } cs) ∧
      (o.entries.get i = none → o'.entries.get i = some ⟨partyBit party, made.1, made.2, s.now, false⟩) ∧
      (∀ e, o.entries.get i = some e → o'.entries.get i = some
        { e with holders := e.holders ||| partyBit party, claimTime := s.now, releasePending := false,
                 value := if party = .operator then made.2 else e.value }) ∧
      (∀ k, k ≠ i → o'.entries.get k = o.entries.get k) ∧
      ((∃ w, party = .web w) ∧ 18 ≤ ch.val → o'.dwell = some (s.now + BitVec.ofNat 32 dwellMs)) ∧
      (¬ ((∃ w, party = .web w) ∧ 18 ≤ ch.val) → o'.dwell = o.dwell) ∧
      o'.schedule = o.schedule ∧ o'.binding = o.binding ∧ o'.active = o.active ∧ o'.protection = o.protection ∧
      (.purgeClaimSignal (channelHousing ch) ∈ cs ↔ protective ∧ ch.val < 18) ∧
      (.topChange ch ∈ cs ↔ o'.top ≠ o.top) ∧
      ClosedAt s ch o' o.returnHold
        (if protective ∧ ch.val < 18 then [.purgeClaimSignal (channelHousing ch)] else []) cs) ∧
    (o.entries.get i = none ∨ (∀ e, o.entries.get i = some e → e.holders &&& partyBit party = 0) →
      Runs (.holderRelease ch party) s s) ∧
    (∀ e, o.entries.get i = some e → e.holders &&& partyBit party ≠ 0 →
      let left := e.holders &&& ~~~ partyBit party
      ∃ o' cs, Runs (.holderRelease ch party) s (sending { s with outputs := s.outputs.set ch o' } cs) ∧
        (left ≠ 0 → o'.entries.get i = some { e with holders := left }) ∧
        (left = 0 → ¬ protective ∨ ended → o'.entries.get i = none) ∧
        (left = 0 → protective → ¬ ended →
          o'.entries.get i = some { e with holders := 0, releasePending := true }) ∧
        (∀ k, k ≠ i → o'.entries.get k = o.entries.get k) ∧
        o'.schedule = o.schedule ∧ o'.binding = o.binding ∧ o'.active = o.active ∧ o'.protection = o.protection ∧
        o'.dwell = o.dwell ∧ (.topChange ch ∈ cs ↔ o'.top ≠ o.top) ∧ ClosedAt s ch o' o.returnHold [] cs)

/-- What an event at a channel does to its movement and to the zone loop: the origin is set, from the output before, at a
change of target or top; when the top of a HEAT channel falls to SCHEDULE the return hold takes the output at the change
and the zone loop is told of the operator's value or of the level that left; a jump that changes the output is offered.
Said of the step that closes every event at a channel. -/
def Obligations.EventsCloseAtTheChannel : Prop :=
  ∀ (s : State) (ch : Fin 30) (o' : OutputChannel),
    let o := s.outputs.get ch
    let t := s.endEvent ch false o' []
    let c := t.outputs.get ch
    let heat := ∃ h z, outRole ch = .heat h z
    o'.binding.slew = o.binding.slew →
    c.entries = o'.entries ∧ c.schedule = o'.schedule ∧ c.top = o'.top ∧
      (c.target = o.target → c.top = o.top → c.originValue = o'.originValue ∧ c.originTime = o'.originTime) ∧
      (c.target ≠ o.target ∨ c.top ≠ o.top → c.originTime = s.now ∧
        c.originValue = if c.top = .brk ∨ c.top = .trip ∨ c.binding.slew = 0 then c.target else o.output s.now) ∧
      (o'.top ≠ .schedule → c.returnHold = none) ∧
      (heat → o'.top = .schedule → o.top ≠ .schedule → c.returnHold = some ((o.output s.now).headD 0)) ∧
      (o'.top = .schedule → o.top = .schedule ∨ ¬ heat → c.returnHold = o'.returnHold) ∧
      (∀ h z, outRole ch = .heat h z → c.top = .schedule → o.top = .operator →
        .operatorReturn h z (o.target.headD 0) ∈ t.signals) ∧
      (∀ h z, outRole ch = .heat h z → c.top = .schedule → o.top = .limit ∨ o.top = .brk ∨ o.top = .trip →
        .protectiveReturn h z o.top ∈ t.signals) ∧
      (c.top ≠ o.top → .topChange ch ∈ t.signals) ∧
      (c.top = .brk ∨ c.top = .trip ∨ c.binding.slew = 0 → c.target ≠ o.output s.now →
        .outputChange ch ∈ t.signals)

/-- DWELL_END and DWELL_TIMER_EXPIRY: a purge timer that runs again keeps every entry; stopped, each release-pending
BREAK or TRIP entry of the nine channels leaves and the others stay. A dwell timer due stops and lets its channel's
release-pending BREAK entry leave. Each channel closes as an event does, in the order HEAT, FAN, EXH.
MOVEMENT_TIMER_EXPIRY, when due, stops the timer and offers the channel. (When an expiry counts as due is the model's
reading: log entries 7 and 17; BREAK and TRIP leaving at one dwell end are one change of top: log entry 26.) -/
def Obligations.DwellsAndMovementEnd : Prop :=
  (∀ (h : Fin 2) (s : State), Released s →
    ((s.monitors.get h).purge ≠ none → Runs (.dwellEnd h) s s) ∧
    ((s.monitors.get h).purge = none → ∃ (outs : Tab OutputChannel 30) (sent : Fin 30 → List Instr),
      Runs (.dwellEnd h) s (sending { s with outputs := outs } ((housingChannels h).flatMap sent)) ∧
      (∀ ch, ch ∉ housingChannels h → outs.get ch = s.outputs.get ch) ∧
      (∀ ch ∈ housingChannels h, ∀ i : Fin 4,
        (i = 0 ∨ i = 1 → (outs.get ch).entries.get i = (s.outputs.get ch).entries.get i) ∧
        (i = 2 ∨ i = 3 → (outs.get ch).entries.get i =
          ((s.outputs.get ch).entries.get i).filter fun e => !e.releasePending)) ∧
      (∀ ch ∈ housingChannels h, (outs.get ch).schedule = (s.outputs.get ch).schedule ∧
        (outs.get ch).binding = (s.outputs.get ch).binding ∧ (outs.get ch).active = (s.outputs.get ch).active ∧
        (outs.get ch).protection = (s.outputs.get ch).protection ∧ (outs.get ch).dwell = (s.outputs.get ch).dwell ∧
        ClosedAt s ch (outs.get ch) (s.outputs.get ch).returnHold [] (sent ch)))) ∧
  (∀ (ch : Fin 30) (s : State), Released s →
    let o := s.outputs.get ch
    (∀ t, o.dwell = some t → (s.now - t).toNat < 2 ^ 31 →
      ∃ o' cs, Runs (.dwellTimerExpiry ch) s (sending { s with outputs := s.outputs.set ch o' } cs) ∧
        o'.dwell = none ∧ o'.entries.get 2 = (o.entries.get 2).filter (fun e => !e.releasePending) ∧
        (∀ k, k ≠ 2 → o'.entries.get k = o.entries.get k) ∧ o'.schedule = o.schedule ∧ o'.binding = o.binding ∧
        o'.active = o.active ∧ o'.protection = o.protection ∧ ClosedAt s ch o' o.returnHold [] cs) ∧
    ((∀ t, o.dwell = some t → 2 ^ 31 ≤ (s.now - t).toNat) → Runs (.dwellTimerExpiry ch) s s) ∧
    (∀ t, o.moveTimer = some t → (s.now - t).toNat < 2 ^ 31 → Runs (.movementTimerExpiry ch) s
      (sending { s with outputs := s.outputs.set ch { o with moveTimer := none } } [.outputChange ch])) ∧
    ((∀ t, o.moveTimer = some t → 2 ^ 31 ≤ (s.now - t).toNat) → Runs (.movementTimerExpiry ch) s s))

/-- SCHEDULE_VALUE stores the value handed and clears the return hold, touches no entry and closes as an event at the
channel does; ACTIVITY_SIGNAL judges the twelve channels of the web anew, a channel being active when bound and its
owner live, and signals each change and nothing else. -/
def Obligations.ScheduleAndActivity : Prop :=
  (∀ (ch : Fin 30) (vs : Lanes) (s : State), Released s → vs.length = laneCount ch → (∀ v ∈ vs, v ≤ 10000) →
    let o := s.outputs.get ch
    ∃ o' cs, Runs (.scheduleValue ch vs) s (sending { s with outputs := s.outputs.set ch o' } cs) ∧
      o'.schedule = vs ∧ o'.returnHold = none ∧ o'.entries = o.entries ∧ o'.binding = o.binding ∧
      o'.active = o.active ∧ o'.dwell = o.dwell ∧ o'.protection = o.protection ∧
      (o.top = .schedule → o'.target = vs) ∧ (o.top ≠ .schedule → o'.target = o.target) ∧
      (o'.target = o.target → o'.originValue = o.originValue ∧ o'.originTime = o.originTime) ∧
      ClosedAt s ch o' none [] cs) ∧
  (∀ (w : Fin 4) (s : State), Released s →
    let live := fun ch : Fin 30 => match outRole ch with
      | .heat h _ => s.mode (firstWeb h) ≠ .idle ∨ s.mode (secondWeb h) ≠ .idle
      | .fan h _ => s.mode (firstWeb h) ≠ .idle ∨ s.mode (secondWeb h) ≠ .idle
      | .exh h => s.mode (firstWeb h) ≠ .idle ∨ s.mode (secondWeb h) ≠ .idle
      | .damp v => s.mode v ≠ .idle
      | .chillA v => s.mode v ≠ .idle
      | .chillB v => s.mode v ≠ .idle
    ∃ (outs : Tab OutputChannel 30) (cs : List Instr),
      Runs (.activitySignal w) s (sending { s with outputs := outs } cs) ∧
      (∀ ch ∉ reachedBy w, outs.get ch = s.outputs.get ch) ∧
      (∀ ch ∈ reachedBy w,
        let o := s.outputs.get ch
        ((outs.get ch).active = true ↔ o.binding.bound = true ∧ live ch) ∧
        outs.get ch = { o with active := (outs.get ch).active, moveTimer := (outs.get ch).moveTimer } ∧
        ((outs.get ch).active = o.active → (outs.get ch).moveTimer = o.moveTimer) ∧
        ((outs.get ch).active ≠ o.active →
          (outs.get ch).moveTimer = (outs.get ch).movement s.now (s.emission.records.get ch).lastSent)) ∧
      cs = (reachedBy w).flatMap fun ch =>
        if (outs.get ch).active = (s.outputs.get ch).active then []
        else if (outs.get ch).active = true then [.channelActive ch] else [.channelInactive ch])

/-- OVERRIDE: no value count, a count other than 1 and 8, or fewer values than its count RANGE, eight values for a
single lane CHECK; otherwise the clamped values, one for every lane or eight, stand in the OPERATOR entry, a new one or
the one there was, with the time of the request; it is answered DONE or, beneath LIMIT, BREAK or TRIP, DEFERRED, with
the top level and CLAMPED. RELEASE: DONE, with the OPERATOR entry gone and nothing changed when there is none. Both
close as an event at the channel does. (Bytes beyond the arguments are ignored: log entry 11.) -/
def Obligations.OperatorRequests : Prop :=
  ∀ (ch : Fin 30) (tag : Byte) (s : State), InService s →
    let o := s.outputs.get ch
    (∀ (index : Byte) (args : List Byte), 30 ≤ index.toNat →
      Refused (.overrideValue ⟨tag, index :: args⟩) s tag 10 .range [] ∧
      Refused (.release ⟨tag, index :: args⟩) s tag 11 .range []) ∧
    (∀ (count : Byte) (rest : List Byte), count ≠ 1 → count ≠ 8 →
      Refused (.overrideValue ⟨tag, BitVec.ofNat 8 ch.val :: count :: rest⟩) s tag 10 .range []) ∧
    (∀ short : List Byte, short.length < 2 → Refused (.overrideValue ⟨tag, short⟩) s tag 10 .range []) ∧
    (∀ (count : Byte) (data : List Byte), data.length < 2 * count.toNat →
      Refused (.overrideValue ⟨tag, BitVec.ofNat 8 ch.val :: count :: data⟩) s tag 10 .range []) ∧
    Refused (.release ⟨tag, []⟩) s tag 11 .range [] ∧
    (∀ (vs : List Nat) (extra : List Byte), (∀ v ∈ vs, v < 65536) → vs.length = 1 ∨ vs.length = 8 →
      let c := Instr.overrideValue
        ⟨tag, BitVec.ofNat 8 ch.val :: BitVec.ofNat 8 vs.length :: bytesOfWords vs ++ extra⟩
      (vs.length = 8 → laneCount ch = 1 → Refused c s tag 10 .check []) ∧
      (vs.length = 1 ∨ laneCount ch = 8 →
        let values := if vs.length = 1 then List.replicate (laneCount ch) (min (vs.headD 0) 10000)
          else vs.map fun v => min v 10000
        ∃ o' cs,
          Answered c s tag 10 (if o'.top = .operator then .done else .deferred) (vs.any fun v => decide (10000 < v))
            [BitVec.ofNat 8 (levelCode o'.top)] (sending { passed s with outputs := s.outputs.set ch o' } cs) ∧
          (o.entries.get 0 = none → o'.entries.get 0 = some
            { holders := 1, source := .stored, value := values, claimTime := s.now, releasePending := false }) ∧
          (∀ e, o.entries.get 0 = some e → o'.entries.get 0 = some
            { e with holders := e.holders ||| 1, value := values, claimTime := s.now, releasePending := false }) ∧
          (∀ k, k ≠ 0 → o'.entries.get k = o.entries.get k) ∧ o'.schedule = o.schedule ∧ o'.binding = o.binding ∧
          o'.active = o.active ∧ o'.dwell = o.dwell ∧ o'.protection = o.protection ∧
          ClosedAt s ch o' o.returnHold [] cs)) ∧
    (∀ extra, o.entries.get 0 = none → Done (.release ⟨tag, BitVec.ofNat 8 ch.val :: extra⟩) s tag 11 (passed s)) ∧
    (∀ e extra, o.entries.get 0 = some e → e.holders = 1 → ∃ o' cs,
      Done (.release ⟨tag, BitVec.ofNat 8 ch.val :: extra⟩) s tag 11
        (sending { passed s with outputs := s.outputs.set ch o' } cs) ∧
      o'.entries.get 0 = none ∧ (∀ k, k ≠ 0 → o'.entries.get k = o.entries.get k) ∧ o'.schedule = o.schedule ∧
      o'.binding = o.binding ∧ o'.active = o.active ∧ (.topChange ch ∈ cs ↔ o.top = .operator) ∧
      o'.dwell = o.dwell ∧ o'.protection = o.protection ∧ ClosedAt s ch o' o.returnHold [] cs)

/-! ## Command emission and notices -/

/-- CHANNEL_ACTIVE and TOP_CHANGE put an active channel in the emission set; OUTPUT_CHANGE does when some lane of the
output differs from last-sent by the deadband and by 1; REFRESH_TIMER_EXPIRY, when due, stops the timer and does;
CHANNEL_INACTIVE takes the channel out and stops its timer. Last-sent is kept throughout, and an inactive channel does
not join. (When an expiry counts as due is the model's reading: log entries 7 and 17.) -/
def Obligations.EmissionSetJoinedAndLeft : Prop :=
  ∀ (ch : Fin 30) (s : State), Released s →
    let o := s.outputs.get ch
    let r := s.emission.records.get ch
    let leaves := fun (c : Instr) (r' : EmissionRecord) =>
      Runs c s { s with emission := { s.emission with records := s.emission.records.set ch r' } }
    let differs := ∃ (ls : Lanes) (k a b : Nat), r.lastSent = some ls ∧ (o.output s.now)[k]? = some a ∧ ls[k]? = some b ∧
      o.binding.deadband ≤ ((a : Int) - (b : Int)).natAbs ∧ a ≠ b
    (o.active = true → leaves (.channelActive ch) { r with pending := true } ∧
      leaves (.topChange ch) { r with pending := true } ∧
      (differs → leaves (.outputChange ch) { r with pending := true }) ∧
      (∀ t, r.refresh = some t → (s.now - t).toNat < 2 ^ 31 →
        leaves (.refreshTimerExpiry ch) { r with refresh := none, pending := true })) ∧
    (¬ differs → Runs (.outputChange ch) s s) ∧
    (o.active = false → Runs (.channelActive ch) s s ∧ Runs (.topChange ch) s s ∧ Runs (.outputChange ch) s s ∧
      (∀ t, r.refresh = some t → (s.now - t).toNat < 2 ^ 31 →
        leaves (.refreshTimerExpiry ch) { r with refresh := none })) ∧
    ((∀ t, r.refresh = some t → 2 ^ 31 ≤ (s.now - t).toNat) → Runs (.refreshTimerExpiry ch) s s) ∧
    leaves (.channelInactive ch) { r with pending := false, refresh := none }

/-- NOTICE_RAISED: discarded when its kind is masked; taken into the entry of its kind and subject, which keeps its
place and overflow flag; else added as the newest while fewer than 16 wait; else dropped with the newest entry's
overflow flag set. NOTICE_MASK replaces the whole mask and answers it. (A notice's time is the part time at which it is
taken: log entry 7. The ignored bits of the mask are answered as 0: the model's choice, log entry 32. Bytes beyond the
arguments are ignored: log entry 11.) -/
def Obligations.NoticesQueuedAndMasked : Prop :=
  (∀ (n : Notice) (s : State), Released s →
    let q := s.emission.queue
    let leaves := fun q' : List NoticeEntry => Runs (.noticeRaised n) s { s with emission := { s.emission with queue := q' } }
    let same := fun e : NoticeEntry => (noticeView e.notice).kind = (noticeView n).kind ∧
      (noticeView e.notice).subject = (noticeView n).subject
    let enabled := s.emission.mask.getLsbD (noticeView n).kind = true
    (¬ enabled → Runs (.noticeRaised n) s s) ∧
    (∀ older e newer, enabled → q = older ++ e :: newer → same e → (∀ x ∈ older, ¬ same x) →
      leaves (older ++ { e with notice := n, count := min (e.count + 1) 255, time := s.now } :: newer)) ∧
    (enabled → (∀ e ∈ q, ¬ same e) → q.length < 16 → leaves (q ++ [⟨n, 1, s.now, false⟩])) ∧
    (∀ older e, enabled → (∀ x ∈ q, ¬ same x) → 16 ≤ q.length → q = older ++ [e] →
      leaves (older ++ [{ e with overflow := true }]))) ∧
  (∀ (tag a b c : Byte) (extra : List Byte) (s : State), InService s →
    ∃ mask : BitVec 18, (∀ k : Fin 18, mask.getLsbD k.val =
        (a.toNat * 65536 + b.toNat * 256 + c.toNat).testBit k.val) ∧
      Answered (.noticeMask ⟨tag, a :: b :: c :: extra⟩) s tag 13 .done false
        [BitVec.ofNat 8 (mask.toNat / 65536), BitVec.ofNat 8 (mask.toNat / 256), BitVec.ofNat 8 mask.toNat]
        { passed s with emission := { s.emission with mask := mask } }) ∧
  (∀ (tag : Byte) (short : List Byte) (s : State), InService s → short.length < 3 →
    Refused (.noticeMask ⟨tag, short⟩) s tag 13 .range [])

/-! ## The Ramp Engine -/

/-- One step, one transfer and one completion. A step writes the clamped memory word to the target at index N - n,
signals its reader, and moves pointer and counters by Table 9-5. A STEP transfer is one step; a LINE transfer that
begins a line takes N + 1 steps, and the last moves pointer and counters to the next line, the next block or the end of
the pass. A transfer that ends a pass completes it: RELEASE frees the targets, HOLD keeps them, REPEAT runs on; then
PROGRAM_DONE and the chain signals to the other seven slots. Each signal carries the ramp values of its reader's targets
as they stand after the write or release it tells, so that a RELEASE reaches the readers as the last write and then the
return to profile (log entry 27); that a chain signal goes to every other slot, each judging itself, is the model's
reading (log entry 21). The pass count of a slot stands at 65535 once there, as the detail does: the model's choice (log entry 34). -/
def Obligations.RampTransfers : Prop :=
  (∀ (o : Tab Ownership 24),
    let value := fun u : RampTarget =>
      if (o.get (targetIx u)).owner = none then none else (o.get (targetIx u)).value
    (∀ h z, readerSignal o (.zoneSp h z) = .zoneRampSignal h ⟨z, value (.zoneSp h z), value (.fan h z)⟩ ∧
      readerSignal o (.fan h z) = .zoneRampSignal h ⟨z, value (.zoneSp h z), value (.fan h z)⟩) ∧
    ∀ w, readerSignal o (.chillTarget w) = .chillTargetRampSignal ⟨w, value (.chillTarget w)⟩ ∧
      readerSignal o (.dampBase w) = .dampBaseRampSignal ⟨w, value (.dampBase w)⟩) ∧
  (∀ (m : RampMemory) (r : RampRun) (t : RampTarget),
    let x := r.slot
    let d := x.desc
    let r' := takeStep m r
    let word := (RampMemory.read m x.pointer).toInt
    let wrap := fun p : Int => (p % 1024).toNat
    x.targetList[d.n.getD 0 - x.n]? = some t →
      r'.owners = r.owners.set (targetIx t) { r.owners.get (targetIx t) with
        value := some (max 0 (min word (targetMax t))).toNat } ∧
      r'.out = r.out ++ [readerSignal r'.owners t] ∧
      (0 < x.n → r'.completed = false ∧
        r'.slot = { x with pointer := wrap (x.pointer + 1), n := x.n - 1 }) ∧
      (x.n = 0 → 0 < x.l → r'.completed = false ∧
        r'.slot = { x with pointer := wrap (x.pointer + d.off1.getD 0), l := x.l - 1, n := d.n.getD 0 }) ∧
      (x.n = 0 → x.l = 0 → 0 < x.b → r'.completed = false ∧
        r'.slot = { x with pointer := wrap (x.pointer + d.off2.getD 0), b := x.b - 1, l := lineLoad d,
                           n := d.n.getD 0 }) ∧
      (x.n = 0 → x.l = 0 → x.b = 0 → r'.completed = true ∧
        r'.slot = { x with pointer := d.base.getD 0, n := d.n.getD 0, l := lineLoad d, b := blockLoad d })) ∧
  (∀ (m : RampMemory) (r : RampRun) (ts : List RampTarget), r.slot.desc.transfer = some .line →
    r.slot.desc.targets = some ts → r.slot.desc.n = some (ts.length - 1) → 1 ≤ ts.length → ts.length ≤ 8 → ts.Nodup →
    r.slot.n = ts.length - 1 → r.slot.pointer < 1024 →
    let x := r.slot
    let d := x.desc
    let r' := transferSteps m r
    let last := x.pointer + (ts.length - 1)
    let wrap := fun p : Int => (p % 1024).toNat
    (∃ tables : List (Tab Ownership 24), tables.length = ts.length ∧
      r'.out = r.out ++ List.zipWith readerSignal tables ts ∧
      ∀ i (hi : i < tables.length) k,
        ((∃ t ∈ ts.take (i + 1), targetIx t = k) → tables[i].get k = r'.owners.get k) ∧
        ((∀ t ∈ ts.take (i + 1), targetIx t ≠ k) → tables[i].get k = r.owners.get k)) ∧
    r'.slot.n = ts.length - 1 ∧
      (∀ i (hi : i < ts.length), r'.owners.get (targetIx ts[i]) = { r.owners.get (targetIx ts[i]) with
        value := some (max 0 (min (RampMemory.read m ((x.pointer + i) % 1024)).toInt (targetMax ts[i]))).toNat }) ∧
      (∀ k, (∀ t ∈ ts, targetIx t ≠ k) → r'.owners.get k = r.owners.get k) ∧
      (0 < x.l → r'.completed = false ∧
        r'.slot = { x with pointer := wrap (last + d.off1.getD 0), l := x.l - 1 }) ∧
      (x.l = 0 → 0 < x.b → r'.completed = false ∧
        r'.slot = { x with pointer := wrap (last + d.off2.getD 0), b := x.b - 1, l := lineLoad d }) ∧
      (x.l = 0 → x.b = 0 → r'.completed = true ∧
        r'.slot = { x with pointer := d.base.getD 0, l := lineLoad d, b := blockLoad d })) ∧
  (∀ (m : RampMemory) (r : RampRun), r.slot.desc.transfer = some .step → transferSteps m r = takeStep m r) ∧
  (∀ (j : Fin 8) (m : RampMemory) (r : RampRun),
    ((transferSteps m r).completed = true → takeTransfer j m r = completePass j (transferSteps m r)) ∧
    ((transferSteps m r).completed = false → takeTransfer j m r = transferSteps m r)) ∧
  (∀ d : RampDescriptor,
    lineLoad d = (if d.mode = some .two ∨ d.mode = some .three then d.l.getD 0 else 0) ∧
    blockLoad d = (if d.mode = some .three then d.bk.getD 0 else 0) ∧
    ∀ r k, d.reload = some r → d.tick = some k → pacePeriod d =
      (r + 1) * match k with | .ms10 => 10 | .ms100 => 100 | .s1 => 1000 | .s10 => 10000) ∧
  (∀ (j : Fin 8) (r : RampRun) (e : EndAction), r.slot.desc.endAction = some e →
    let x := r.slot
    let passes := min (x.passes + 1) 65535
    let r' := completePass j r
    let told := [Instr.noticeRaised (.programDone j e passes)] ++
      ((List.finRange 8).filter fun k => decide (k ≠ j)).map fun k => .trigger k (.chain j)
    (e = .hold → r'.owners = r.owners ∧ r'.out = r.out ++ told ∧
      r'.slot = { x with passes := passes, timer := none, saved := none, state := .holding }) ∧
    (e = .repeatPass → r'.owners = r.owners ∧ r'.out = r.out ++ told ∧ r'.slot = { x with passes := passes }) ∧
    (e = .release →
      r'.slot = { x with passes := passes, timer := none, saved := none,
                         state := if x.desc.rearm = some true then .armed else .loaded } ∧
      (∀ t ∈ x.targetList, r'.owners.get (targetIx t) = ⟨none, none⟩) ∧
      (∀ k, (∀ t ∈ x.targetList, targetIx t ≠ k) → r'.owners.get k = r.owners.get k) ∧
      r'.out = r.out ++ (x.targetList.filter fun t => (r.owners.get (targetIx t)).value.isSome).map
          (readerSignal r'.owners) ++
        told))

/-- ARM, DISARM, START, PAUSE, RESUME and STOP by the slot's state (Table 9-4), STATE outside it. A START that meets an
owned target is BUSY; else the slot owns its targets, its counters and pointer are at their preloads, it runs with the
pace timer set and takes its first transfer. A pause at a line boundary saves the remaining pace time, within a line it
waits for the line's end; a stop releases the targets and reloads. (What a reader's signal carries: log entry 27. Bytes
beyond the arguments are ignored: log entry 11.) -/
def Obligations.RampRequests : Prop :=
  ∀ (j : Fin 8) (tag : Byte) (extra : List Byte) (s : State), InService s →
    let x := s.ramp.slots.get j
    let rq : Request := ⟨tag, BitVec.ofNat 8 j.val :: extra⟩
    let put := fun (x' : RampSlot) => { passed s with ramp := { s.ramp with slots := s.ramp.slots.set j x' } }
    let taken := fun (c : Instr) (r : RampRun) => Done c s tag 12 (sending
      { passed s with ramp := { s.ramp with slots := s.ramp.slots.set j r.slot, owners := r.owners } } r.out)
    let owned := ∃ t ∈ x.targetList, (s.ramp.owners.get (targetIx t)).owner ≠ none
    let boundary := x.desc.transfer = some .line ∨ x.n = x.desc.n.getD 0
    let runs := x.state = .running ∨ x.state = .pausing ∨ x.state = .paused ∨ x.state = .holding
    let reloaded := { x with pointer := x.desc.base.getD 0, n := x.desc.n.getD 0, l := lineLoad x.desc,
                             b := blockLoad x.desc }
    (x.state = .loaded → Done (.arm rq) s tag 12 (put { x with state := .armed })) ∧
    (x.state ≠ .loaded → Refused (.arm rq) s tag 12 .state []) ∧
    (x.state = .armed → Done (.disarm rq) s tag 12 (put { x with state := .loaded })) ∧
    (x.state ≠ .armed → Refused (.disarm rq) s tag 12 .state []) ∧
    (x.state ≠ .loaded → x.state ≠ .armed → Refused (.start rq) s tag 12 .state []) ∧
    (x.state = .loaded ∨ x.state = .armed → owned → Refused (.start rq) s tag 12 .busy []) ∧
    (x.state = .loaded ∨ x.state = .armed → ¬ owned → ∃ owners : Tab Ownership 24,
      (∀ t ∈ x.targetList, owners.get (targetIx t) = ⟨some j, none⟩) ∧
      (∀ k, (∀ t ∈ x.targetList, targetIx t ≠ k) → owners.get k = s.ramp.owners.get k) ∧
      taken (.start rq) (takeTransfer j s.ramp.memory
        { slot := { reloaded with state := .running, timer := some (s.now + BitVec.ofNat 32 (pacePeriod x.desc)),
                                  saved := none, passes := 0 }
          owners := owners, out := [], completed := false })) ∧
    (x.state = .running → boundary → Done (.pause rq) s tag 12
      (put { x with state := .paused, saved := x.timer.map (· - s.now), timer := none })) ∧
    (x.state = .running → ¬ boundary → Done (.pause rq) s tag 12 (put { x with state := .pausing })) ∧
    (x.state ≠ .running → Refused (.pause rq) s tag 12 .state []) ∧
    (∀ left, x.state = .paused → x.saved = some left → Done (.resume rq) s tag 12
      (put { x with state := .running, timer := some (s.now + left), saved := none })) ∧
    (x.state = .pausing → Done (.resume rq) s tag 12 (put { x with state := .running })) ∧
    (x.state ≠ .paused → x.state ≠ .pausing → Refused (.resume rq) s tag 12 .state []) ∧
    (¬ runs → Refused (.stop rq) s tag 12 .state []) ∧
    (runs → ∃ owners : Tab Ownership 24,
      (∀ t ∈ x.targetList, owners.get (targetIx t) = ⟨none, none⟩) ∧
      (∀ k, (∀ t ∈ x.targetList, targetIx t ≠ k) → owners.get k = s.ramp.owners.get k) ∧
      taken (.stop rq)
        { slot := { reloaded with state := .loaded, timer := none, saved := none }, owners := owners,
          out := (x.targetList.filter fun t => (s.ramp.owners.get (targetIx t)).value.isSome).map (readerSignal owners),
          completed := false })

/-- PACE_TIMER_EXPIRY: in RUNNING and PAUSING, when due, the timer goes on from its old expiry by one pace period and
one transfer is taken; a PAUSING slot then at the end of its line is PAUSED with the remaining time saved. TRIGGER: an
ARMED slot whose trigger it is starts, or reports PROGRAM_BLOCKED with the first owned target, its owner and the
trigger's kind. BREAK_STOP: a slot with a target of the broken web's housing, or its chill target or damper base, is
stopped or disarmed. (When an expiry counts as due is the model's reading: log entries 7 and 17; what a reader's signal
carries: log entry 27.) -/
def Obligations.RampEvents : Prop :=
  ∀ (j : Fin 8) (s : State), Released s →
    let x := s.ramp.slots.get j
    let put := fun (x' : RampSlot) => { s with ramp := { s.ramp with slots := s.ramp.slots.set j x' } }
    let taken := fun (c : Instr) (r : RampRun) => Runs c s (sending
      { s with ramp := { s.ramp with slots := s.ramp.slots.set j r.slot, owners := r.owners } } r.out)
    let paces := x.state = .running ∨ x.state = .pausing
    let reloaded := { x with pointer := x.desc.base.getD 0, n := x.desc.n.getD 0, l := lineLoad x.desc,
                             b := blockLoad x.desc }
    let period := BitVec.ofNat 32 (pacePeriod x.desc)
    (∀ t, paces → x.timer = some t → (s.now - t).toNat < 2 ^ 31 →
      let r := takeTransfer j s.ramp.memory
        { slot := { x with timer := some (t + period) }, owners := s.ramp.owners, out := [], completed := false }
      (r.slot.state = .pausing ∧ r.slot.n = r.slot.desc.n.getD 0 → taken (.paceTimerExpiry j)
        { r with slot := { r.slot with state := .paused, saved := r.slot.timer.map (· - s.now), timer := none } }) ∧
      (¬ (r.slot.state = .pausing ∧ r.slot.n = r.slot.desc.n.getD 0) → taken (.paceTimerExpiry j) r)) ∧
    (¬ paces ∨ (∀ t, x.timer = some t → 2 ^ 31 ≤ (s.now - t).toNat) → Runs (.paceTimerExpiry j) s s) ∧
    (∀ sig : TriggerSignal,
      (x.state ≠ .armed ∨ x.desc.trigger ≠ some (.on sig) → Runs (.trigger j sig) s s) ∧
      (x.state = .armed → x.desc.trigger = some (.on sig) →
        (∀ before t after k, x.targetList = before ++ t :: after →
          (∀ u ∈ before, (s.ramp.owners.get (targetIx u)).owner = none) →
          (s.ramp.owners.get (targetIx t)).owner = some k →
          Runs (.trigger j sig) s (sending s [.noticeRaised (.programBlocked j t k
            (match sig with | .mode _ _ => 1 | .marker _ _ _ => 2 | .chain _ => 3))])) ∧
        ((∀ t ∈ x.targetList, (s.ramp.owners.get (targetIx t)).owner = none) → ∃ owners : Tab Ownership 24,
          (∀ t ∈ x.targetList, owners.get (targetIx t) = ⟨some j, none⟩) ∧
          (∀ k, (∀ t ∈ x.targetList, targetIx t ≠ k) → owners.get k = s.ramp.owners.get k) ∧
          taken (.trigger j sig) (takeTransfer j s.ramp.memory
            { slot := { reloaded with state := .running, timer := some (s.now + period), saved := none, passes := 0 }
              owners := owners, out := [], completed := false })))) ∧
    (∀ w : Fin 4,
      let affected := ∃ t ∈ x.targetList, match t with
        | .zoneSp h _ => h = housingOf w
        | .fan h _ => h = housingOf w
        | .chillTarget v => v = w
        | .dampBase v => v = w
      (¬ affected ∨ x.state = .empty ∨ x.state = .loaded → Runs (.breakStop j w) s s) ∧
      (affected → x.state = .armed → Runs (.breakStop j w) s (put { x with state := .loaded })) ∧
      (affected → x.state = .running ∨ x.state = .pausing ∨ x.state = .paused ∨ x.state = .holding →
        ∃ owners : Tab Ownership 24,
          (∀ t ∈ x.targetList, owners.get (targetIx t) = ⟨none, none⟩) ∧
          (∀ k, (∀ t ∈ x.targetList, targetIx t ≠ k) → owners.get k = s.ramp.owners.get k) ∧
          taken (.breakStop j w)
            { slot := { reloaded with state := .loaded, timer := none, saved := none }, owners := owners,
              out := (x.targetList.filter fun t => (s.ramp.owners.get (targetIx t)).value.isSome).map
                (readerSignal owners),
              completed := false }))

/-! ## RESTART -/

/-- RESTART: STATE and no change unless every web is IDLE and no trip latch is set. Accepted, it is DONE: the written
configuration, the path counters, the node address and the ring state are kept, every block holds its values after
RESTART, with the pointer and counters of every slot reloaded, and the reader of each target that held a ramp value is
signalled. (The model's choices: what waits at its inputs is kept, log entry 3; part time is kept, log entry 4; signals
not yet taken are dropped and the readers signalled in the order of target codes, log entry 10; what a reader's signal
carries, log entry 27; an absent preload counts as 0, log entry 28.) -/
def Obligations.Restarted : Prop :=
  ∀ (tag : Byte) (s : State), InService s →
    let c := Instr.restart ⟨tag, []⟩
    let accepted := (∀ w, s.mode w = .idle) ∧ ∀ h, (s.monitors.get h).latch = false
    let targets : List RampTarget :=
      [.zoneSp 0 0, .zoneSp 0 1, .zoneSp 0 2, .zoneSp 0 3, .zoneSp 1 0, .zoneSp 1 1, .zoneSp 1 2, .zoneSp 1 3,
        .fan 0 0, .fan 0 1, .fan 0 2, .fan 0 3, .fan 1 0, .fan 1 1, .fan 1 2, .fan 1 3,
        .chillTarget 0, .chillTarget 1, .chillTarget 2, .chillTarget 3, .dampBase 0, .dampBase 1, .dampBase 2,
        .dampBase 3]
    (¬ accepted → Refused c s tag 14 .state []) ∧
    (accepted → ∃ t, Done c s tag 14 t ∧
      t.pending = s.pending ∧ t.ringIn = s.ringIn ∧ t.now = s.now ∧ t.ring = (passed s).ring ∧
      t.signals = (targets.filter fun u => (s.ramp.owners.get (targetIx u)).value.isSome).map
        (readerSignal t.ramp.owners) ∧
      (∀ w, (t.track w).stations = (s.track w).stations ∧ (t.track w).mask = (s.track w).mask ∧
        (t.track w).stationsSet = (s.track w).stationsSet ∧ (t.track w).bankA = (s.track w).bankA ∧
        (t.track w).bankB = (s.track w).bankB ∧ (t.track w).path = (s.track w).path ∧ (t.track w).queue = [] ∧
        (t.track w).encRef = none ∧ (t.track w).seqCounter = 0 ∧ (t.track w).wash = 0 ∧
        (t.track w).cursorRun = 0 ∧
        (∀ b, (s.track w).activeBank = some b →
          (t.track w).cursorLeft = (((s.track w).bank b).runs.get 0).length) ∧
        ((s.track w).activeBank = none → (t.track w).cursorLeft = 0)) ∧
      (∀ w, t.webs.get w = { mode := .idle, v := 0, plan := none, causes := 0, params := s.params w }) ∧
      (∀ ch, t.inputs.get ch = { s.inputs.get ch with record := ⟨false, Tab.replicate 8 none, 0, false⟩ }) ∧
      (∀ h, t.tracker.jobs.get h = none ∧
        t.profiles.get h = ({ s.profiles.get h with switch := none }.pointAll none).settled) ∧
      (∀ i, t.loops.get i = { State.reset.loops.get i with
        kp := (s.loops.get i).kp, ki := (s.loops.get i).ki, iLimit := (s.loops.get i).iLimit }) ∧
      (∀ w, t.finishing.get w = { State.reset.finishing.get w with
        kp := (s.finishing.get w).kp, ki := (s.finishing.get w).ki, iLimit := (s.finishing.get w).iLimit }) ∧
      (∀ h, t.monitors.get h = { State.reset.monitors.get h with params := s.housing h }) ∧
      (∀ ch, t.outputs.get ch = { State.reset.outputs.get ch with
        binding := (s.outputs.get ch).binding, protection := (s.outputs.get ch).protection }) ∧
      t.ramp.memory = s.ramp.memory ∧ (∀ i, t.ramp.owners.get i = ⟨none, none⟩) ∧
      (∀ j, let d := (s.ramp.slots.get j).desc
        t.ramp.slots.get j =
          { desc := d, state := if (s.ramp.slots.get j).state = .empty then .empty else .loaded
            pointer := d.base.getD 0, n := d.n.getD 0, l := lineLoad d, b := blockLoad d, timer := none
            saved := none, passes := 0 }) ∧
      t.emission = { State.reset.emission with mask := s.emission.mask })

/-! ## Invariants: what every step keeps, whatever commands come -/

namespace Sys2Proof.Statements

/-- A coverage bank that passes validation (R7). -/
def SoundBank (b : CoverageBank) : Prop :=
  1 ≤ b.runCount ∧ b.runCount ≤ 32 ∧ 200 ≤ b.repeatLength ∧ b.repeatLength ≤ 2000 ∧
    (∀ r ∈ b.runs.items.take b.runCount, 5 ≤ r.length ∧ r.length ≤ 4000) ∧
    ((b.runs.items.take b.runCount).map CoverageRun.length).sum = b.repeatLength

/-- Records tile the path from the entry down (R13): each begins where the older one ends, the open one ends at the path
counter. -/
def Tiles (path : BitVec 32) : List Segment → Prop
  | [] => True
  | [o] => path = o.head + BitVec.ofNat 32 o.length
  | a :: b :: rest => b.head = a.head + BitVec.ofNat 32 a.length ∧ Tiles path (b :: rest)

/-- The tracking state of every web is in order: banks that are VALID or ACTIVE are sound and one at most is ACTIVE, the
cursor stands within a used run of the ACTIVE bank with length left, and at most 64 records tile the path, none loaded
above 4000. -/
def TrackingOrdered (s : State) : Prop :=
  ∀ w, let t := s.track w
    (t.bankA.state ≠ .invalid → SoundBank t.bankA) ∧ (t.bankB.state ≠ .invalid → SoundBank t.bankB) ∧
    ¬ (t.bankA.state = .active ∧ t.bankB.state = .active) ∧
    (∀ b, t.activeBank = some b → t.cursorRun.val < (t.bank b).runCount ∧ 1 ≤ t.cursorLeft) ∧
    t.queue.length ≤ 64 ∧ Tiles t.path t.queue ∧
    (∀ seg ∈ t.queue, seg.load ≤ 4000 ∧ ∀ m, seg.marker = some m → m.next ≤ 7)

/-- The notice queue holds at most 16 entries, no two of one kind and subject, each counted 1 to 255. -/
def NoticesOrdered (s : State) : Prop :=
  s.emission.queue.length ≤ 16 ∧
    s.emission.queue.Pairwise (fun a b =>
      ¬ ((noticeView a.notice).kind = (noticeView b.notice).kind ∧
        (noticeView a.notice).subject = (noticeView b.notice).subject)) ∧
    ∀ e ∈ s.emission.queue, 1 ≤ e.count ∧ e.count ≤ 255

/-- Ramp memory is canonical; a target's owner is a slot that runs, pauses or holds and lists it, such a slot owns every
target of its list, and a ramp value stands only on an owned target and in its range. -/
def RampsOrdered (s : State) : Prop :=
  let running := fun j : Fin 8 => (s.ramp.slots.get j).state = .running ∨ (s.ramp.slots.get j).state = .pausing ∨
    (s.ramp.slots.get j).state = .paused ∨ (s.ramp.slots.get j).state = .holding
  RampMemory.wf s.ramp.memory = true ∧
    (∀ (t : RampTarget) (j : Fin 8), (s.ramp.owners.get (targetIx t)).owner = some j ↔
      running j ∧ t ∈ (s.ramp.slots.get j).targetList) ∧
    (∀ (t : RampTarget) (v : Nat), (s.ramp.owners.get (targetIx t)).value = some v →
      (s.ramp.owners.get (targetIx t)).owner ≠ none ∧ v ≤ targetMax t)

/-- Controllers and protections are in order: each integrator lies within its limit, each last trim is its proportional
term plus the integral, each schedule within 0..10000; a profile bank is IN_USE exactly while an indicator refers to it;
a trip latch is set exactly while its cause set has a member. -/
def ControlsOrdered (s : State) : Prop :=
  (∀ i, let l := s.loops.get i
    l.lastTrim = l.lastP + l.iAcc / 4096 ∧ -(l.iLimit * 4096 : Int) ≤ l.iAcc ∧ l.iAcc ≤ (l.iLimit * 4096 : Int) ∧
      l.heat ≤ 10000 ∧ l.ff ≤ 10000) ∧
  (∀ w, let f := s.finishing.get w
    f.lastTrim = f.lastP + f.iAcc / 4096 ∧ -(f.iLimit * 4096 : Int) ≤ f.iAcc ∧ f.iAcc ≤ (f.iLimit * 4096 : Int)) ∧
  (∀ h, (s.monitors.get h).exhaust.exh ≤ 10000 ∧
    ((s.monitors.get h).latch = true ↔ (s.monitors.get h).causes ≠ 0)) ∧
  (∀ h b, ((s.profiles.get h).bank b).state = .inUse ↔ some b ∈ (s.profiles.get h).indicators)

/-- Every output channel is in order: SCHEDULE, entries, origin, park values and return hold give every lane of the
channel a value in 0..10000, and an entry is release-pending exactly while it has no holder, which only BREAK and TRIP
entries are. -/
def OutputsOrdered (s : State) : Prop :=
  ∀ ch, let o := s.outputs.get ch
    let fit := fun vs : Lanes => vs.length = laneCount ch ∧ ∀ v ∈ vs, v ≤ 10000
    fit o.schedule ∧ fit o.originValue ∧ fit o.target ∧ (∀ now, fit (o.output now)) ∧
    (∀ v, o.returnHold = some v → v ≤ 10000 ∧ laneCount ch = 1) ∧
    (∀ k v, o.protection.get k = some v → v ≤ 10000) ∧
    (∀ i e, o.entries.get i = some e → fit e.value ∧ (e.releasePending = true ↔ e.holders = 0) ∧
      (i = 0 ∨ i = 1 → e.releasePending = false))

end Sys2Proof.Statements

/-- Every step keeps the tracking state in order. -/
def Obligations.TrackingInvariantKept : Prop :=
  ∀ s t : State, TrackingOrdered s → step s = .next t → TrackingOrdered t

/-- Every step keeps the notice queue in order, and every step keeps the ramp memory and the ownership table in order. -/
def Obligations.NoticeAndRampInvariantsKept : Prop :=
  (∀ s t : State, NoticesOrdered s → step s = .next t → NoticesOrdered t) ∧
    ∀ s t : State, RampsOrdered s → step s = .next t → RampsOrdered t

/-- Every step keeps controllers, profile banks and trip latches in order, and every step keeps the output channels in
order. -/
def Obligations.ControlAndOutputInvariantsKept : Prop :=
  (∀ s t : State, ControlsOrdered s → step s = .next t → ControlsOrdered t) ∧
    ∀ s t : State, OutputsOrdered s → step s = .next t → OutputsOrdered t

/-- The part after a power-on reset meets every one of these invariants. -/
def Obligations.ResetMeetsInvariants : Prop :=
  TrackingOrdered State.reset ∧ NoticesOrdered State.reset ∧ RampsOrdered State.reset ∧ ControlsOrdered State.reset ∧
    OutputsOrdered State.reset
end

