-- ==== Sys2Proof/Laws/Memory.lean ====
section
/-! SUPPORT. Ramp memory (R148): a write keeps the canonical form, and what a word reads after a write. -/

namespace Sys2Proof.Laws

open Sys2Proof.Machine

theorem wfAbove_cons (b : Nat) (x : BitVec 16) (rest : RampMemory) (lo : Nat) :
    RampMemory.wfAbove ((b, x) :: rest) lo = true ↔
      lo ≤ b ∧ b < Config.rampWords ∧ x ≠ 0 ∧ RampMemory.wfAbove rest (b + 1) = true := by
  simp only [RampMemory.wfAbove, Bool.and_eq_true, decide_eq_true_eq, and_assoc]

theorem wfAbove_mono (m : RampMemory) {lo hi : Nat} (h : lo ≤ hi) (w : RampMemory.wfAbove m hi = true) :
    RampMemory.wfAbove m lo = true := by
  cases m with
  | nil => rfl
  | cons c rest =>
    obtain ⟨b, x⟩ := c
    rw [wfAbove_cons] at w ⊢
    exact ⟨by omega, w.2⟩

/-- A word below every listed address reads 0. -/
theorem read_below (m : RampMemory) {a lo : Nat} (h : a < lo) (w : RampMemory.wfAbove m lo = true) :
    RampMemory.read m a = 0 := by
  induction m generalizing lo with
  | nil => rfl
  | cons c rest ih =>
    obtain ⟨b, x⟩ := c
    rw [wfAbove_cons] at w
    have hb : a ≠ b := by omega
    simp only [RampMemory.read, if_neg hb]
    exact ih (lo := b + 1) (by omega) w.2.2.2

theorem write_wfAbove (m : RampMemory) {a lo : Nat} (v : BitVec 16) (hlo : lo ≤ a) (ha : a < Config.rampWords)
    (w : RampMemory.wfAbove m lo = true) : RampMemory.wfAbove (RampMemory.write m a v) lo = true := by
  induction m generalizing lo with
  | nil =>
    unfold RampMemory.write
    split
    · rfl
    · next hv => rw [wfAbove_cons]; exact ⟨hlo, ha, hv, rfl⟩
  | cons c rest ih =>
    obtain ⟨b, x⟩ := c
    have w' := (wfAbove_cons b x rest lo).mp w
    obtain ⟨h1, h2, h3, h4⟩ := w'
    unfold RampMemory.write
    split
    · split
      · exact w
      · next hv =>
        rw [wfAbove_cons]
        refine ⟨hlo, ha, hv, ?_⟩
        rw [wfAbove_cons]
        exact ⟨by omega, h2, h3, h4⟩
    · split
      · split
        · exact wfAbove_mono rest (by omega) h4
        · next hab hv =>
          subst hab
          rw [wfAbove_cons]
          exact ⟨hlo, ha, hv, h4⟩
      · rw [wfAbove_cons]
        exact ⟨h1, h2, h3, ih (lo := b + 1) (by omega) h4⟩

/-- A write keeps the canonical form. -/
theorem write_wf (m : RampMemory) {a : Nat} (v : BitVec 16) (ha : a < Config.rampWords)
    (w : RampMemory.wf m = true) : RampMemory.wf (RampMemory.write m a v) = true :=
  write_wfAbove m v (Nat.zero_le a) ha w

/-- Consecutive writes within the memory keep the canonical form. -/
theorem writeAll_wf (m : RampMemory) (a : Nat) (vs : List (BitVec 16)) (ha : a + vs.length ≤ Config.rampWords)
    (w : RampMemory.wf m = true) : RampMemory.wf (RampMemory.writeAll m a vs) = true := by
  induction vs generalizing m a with
  | nil => exact w
  | cons v rest ih =>
    rw [List.length_cons] at ha
    exact ih (RampMemory.write m a v) (a + 1) (by omega) (write_wf m v (by omega) w)

theorem read_write_above (m : RampMemory) {a b lo : Nat} (v : BitVec 16) (w : RampMemory.wfAbove m lo = true) :
    RampMemory.read (RampMemory.write m a v) b = if b = a then v else RampMemory.read m b := by
  induction m generalizing lo with
  | nil =>
    unfold RampMemory.write
    split
    · next hv => simp [RampMemory.read, hv]
    · simp only [RampMemory.read]
  | cons c rest ih =>
    obtain ⟨k, x⟩ := c
    have w' := (wfAbove_cons k x rest lo).mp w
    obtain ⟨h1, h2, h3, h4⟩ := w'
    unfold RampMemory.write
    split
    · next hk =>
      have hab : RampMemory.read ((k, x) :: rest) a = 0 :=
        read_below _ (lo := k) hk ((wfAbove_cons k x rest k).mpr ⟨Nat.le_refl k, h2, h3, h4⟩)
      split
      · next hv =>
        split
        · next e => rw [e, hab, hv]
        · rfl
      · rfl
    · split
      · next hk e =>
        subst e
        split
        · next hv =>
          split
          · next eb => rw [eb, hv]; exact read_below rest (Nat.lt_succ_self a) h4
          · next eb => simp only [RampMemory.read, if_neg eb]
        · simp only [RampMemory.read]
          split <;> rfl
      · next hk e =>
        simp only [RampMemory.read]
        rw [ih (lo := k + 1) h4]
        by_cases hb : b = k
        · simp [hb]
          intro hka
          omega
        · simp [hb]

/-- What a word reads after a write: the written value at its address, the old value at every other. -/
theorem read_write (m : RampMemory) {a b : Nat} (v : BitVec 16) (w : RampMemory.wf m = true) :
    RampMemory.read (RampMemory.write m a v) b = if b = a then v else RampMemory.read m b :=
  read_write_above m v w

/-- What a word reads after consecutive writes. -/
theorem read_writeAll (m : RampMemory) (a b : Nat) (vs : List (BitVec 16)) (ha : a + vs.length ≤ Config.rampWords)
    (w : RampMemory.wf m = true) :
    RampMemory.read (RampMemory.writeAll m a vs) b =
      if a ≤ b ∧ b < a + vs.length then vs.getD (b - a) 0 else RampMemory.read m b := by
  induction vs generalizing m a with
  | nil => simp only [RampMemory.writeAll, List.length_nil]; rw [if_neg (by omega)]
  | cons v rest ih =>
    rw [List.length_cons] at ha
    have hw := write_wf m v (a := a) (by omega) w
    rw [RampMemory.writeAll, ih (RampMemory.write m a v) (a + 1) (by omega) hw, read_write m v w]
    rw [List.length_cons]
    by_cases h : b = a
    · subst h
      rw [if_neg (by omega), if_pos rfl, if_pos (by omega)]
      simp
    · rw [if_neg h]
      by_cases h2 : a + 1 ≤ b ∧ b < a + 1 + rest.length
      · rw [if_pos h2, if_pos (by omega)]
        obtain ⟨k, hk⟩ : ∃ k, b = a + 1 + k := ⟨b - (a + 1), by omega⟩
        subst hk
        have e1 : a + 1 + k - a = k + 1 := by omega
        have e2 : a + 1 + k - (a + 1) = k := by omega
        rw [e1, e2, List.getD_cons_succ]
      · rw [if_neg h2, if_neg (by omega)]

/-- The memory of the reset state has the canonical form. -/
theorem reset_memory_wf : RampMemory.wf State.reset.ramp.memory = true := rfl

end Sys2Proof.Laws
end

