-- ==== Sys2Proof/Laws/Tab.lean ====
section
/-! SUPPORT. Reading a table after it is built or changed. -/

namespace Sys2Proof.Laws

theorem tab_ext {α : Type} {n : Nat} {s t : Tab α n} (h : s.items = t.items) : s = t := by
  cases s; cases t; cases h; rfl

/-- Reading an entry is reading the list at its index. -/
theorem tab_get_eq {α : Type} {n : Nat} (t : Tab α n) (i : Fin n) (h : i.val < t.items.length) :
    t.get i = t.items[i.val] := rfl

@[simp] theorem tab_get_set_same {α : Type} {n : Nat} (t : Tab α n) (i : Fin n) (x : α) : (t.set i x).get i = x := by
  rw [tab_get_eq _ _ (by rw [Tab.size]; exact i.isLt)]
  exact List.getElem_set_self _

@[simp] theorem tab_get_set_other {α : Type} {n : Nat} (t : Tab α n) {i j : Fin n} (x : α) (h : j ≠ i) :
    (t.set i x).get j = t.get j := by
  have h' : i.val ≠ j.val := fun e => h (Fin.ext e.symm)
  rw [tab_get_eq _ _ (by rw [Tab.size]; exact j.isLt), tab_get_eq _ _ (by rw [Tab.size]; exact j.isLt)]
  exact List.getElem_set_ne h' _

theorem tab_get_set {α : Type} {n : Nat} (t : Tab α n) (i j : Fin n) (x : α) :
    (t.set i x).get j = if j = i then x else t.get j := by
  split
  · next h => subst h; simp
  · next h => simp [h]

@[simp] theorem tab_get_modify_same {α : Type} {n : Nat} (t : Tab α n) (i : Fin n) (f : α → α) :
    (t.modify i f).get i = f (t.get i) := by
  simp [Tab.modify]

@[simp] theorem tab_get_modify_other {α : Type} {n : Nat} (t : Tab α n) {i j : Fin n} (f : α → α) (h : j ≠ i) :
    (t.modify i f).get j = t.get j := by
  simp [Tab.modify, h]

@[simp] theorem tab_get_ofFn {α : Type} {n : Nat} (f : Fin n → α) (i : Fin n) : (Tab.ofFn f).get i = f i := by
  rw [tab_get_eq _ _ (by rw [Tab.size]; exact i.isLt)]
  exact List.getElem_ofFn _

@[simp] theorem tab_get_replicate {α : Type} {n : Nat} (x : α) (i : Fin n) : (Tab.replicate n x).get i = x := by
  simp [Tab.get, Tab.replicate]

theorem tab_get_ext {α : Type} {n : Nat} {s t : Tab α n} (h : ∀ i, s.get i = t.get i) : s = t := by
  apply tab_ext
  apply List.ext_getElem
  · rw [s.size, t.size]
  · intro i h1 h2
    have hi : i < n := by rw [← s.size]; exact h1
    have := h ⟨i, hi⟩
    simpa [Tab.get] using this

theorem tab_set_get {α : Type} {n : Nat} (t : Tab α n) (i : Fin n) : t.set i (t.get i) = t := by
  apply tab_get_ext
  intro j
  rw [tab_get_set]
  split
  · next h => rw [h]
  · rfl

theorem tab_set_set {α : Type} {n : Nat} (t : Tab α n) (i : Fin n) (x y : α) : (t.set i x).set i y = t.set i y := by
  apply tab_get_ext
  intro j
  simp only [tab_get_set]
  split <;> rfl

theorem tab_mem_items {α : Type} {n : Nat} (t : Tab α n) (x : α) : x ∈ t.items ↔ ∃ i, t.get i = x := by
  constructor
  · intro h
    obtain ⟨i, hi, e⟩ := List.getElem_of_mem h
    exact ⟨⟨i, t.size ▸ hi⟩, by simpa [Tab.get] using e⟩
  · rintro ⟨i, rfl⟩
    simp [Tab.get]

end Sys2Proof.Laws
end

