-- ==== Sys2Proof/Laws/State.lean ====
section
/-! SUPPORT. Each field of State after each update of State, so that no proof unfolds a record update. -/

namespace Sys2Proof.Laws

open Sys2Proof.Machine

@[simp] theorem send_pending (s : State) (cs : List Instr) : (s.send cs).pending = s.pending := rfl
@[simp] theorem send_ringIn (s : State) (cs : List Instr) : (s.send cs).ringIn = s.ringIn := rfl
@[simp] theorem send_signals (s : State) (cs : List Instr) : (s.send cs).signals = s.signals ++ cs := rfl
@[simp] theorem send_now (s : State) (cs : List Instr) : (s.send cs).now = s.now := rfl
@[simp] theorem send_ring (s : State) (cs : List Instr) : (s.send cs).ring = s.ring := rfl
@[simp] theorem send_tracker (s : State) (cs : List Instr) : (s.send cs).tracker = s.tracker := rfl
@[simp] theorem send_webs (s : State) (cs : List Instr) : (s.send cs).webs = s.webs := rfl
@[simp] theorem send_inputs (s : State) (cs : List Instr) : (s.send cs).inputs = s.inputs := rfl
@[simp] theorem send_profiles (s : State) (cs : List Instr) : (s.send cs).profiles = s.profiles := rfl
@[simp] theorem send_loops (s : State) (cs : List Instr) : (s.send cs).loops = s.loops := rfl
@[simp] theorem send_finishing (s : State) (cs : List Instr) : (s.send cs).finishing = s.finishing := rfl
@[simp] theorem send_monitors (s : State) (cs : List Instr) : (s.send cs).monitors = s.monitors := rfl
@[simp] theorem send_outputs (s : State) (cs : List Instr) : (s.send cs).outputs = s.outputs := rfl
@[simp] theorem send_ramp (s : State) (cs : List Instr) : (s.send cs).ramp = s.ramp := rfl
@[simp] theorem send_emission (s : State) (cs : List Instr) : (s.send cs).emission = s.emission := rfl

@[simp] theorem putOut_pending (s : State) (slot : Slot) : (s.putOut slot).pending = s.pending := rfl
@[simp] theorem putOut_ringIn (s : State) (slot : Slot) : (s.putOut slot).ringIn = s.ringIn := rfl
@[simp] theorem putOut_signals (s : State) (slot : Slot) : (s.putOut slot).signals = s.signals := rfl
@[simp] theorem putOut_now (s : State) (slot : Slot) : (s.putOut slot).now = s.now := rfl
@[simp] theorem putOut_ring (s : State) (slot : Slot) : (s.putOut slot).ring = { s.ring with ringOut := slot } := rfl
@[simp] theorem putOut_tracker (s : State) (slot : Slot) : (s.putOut slot).tracker = s.tracker := rfl
@[simp] theorem putOut_webs (s : State) (slot : Slot) : (s.putOut slot).webs = s.webs := rfl
@[simp] theorem putOut_inputs (s : State) (slot : Slot) : (s.putOut slot).inputs = s.inputs := rfl
@[simp] theorem putOut_profiles (s : State) (slot : Slot) : (s.putOut slot).profiles = s.profiles := rfl
@[simp] theorem putOut_loops (s : State) (slot : Slot) : (s.putOut slot).loops = s.loops := rfl
@[simp] theorem putOut_finishing (s : State) (slot : Slot) : (s.putOut slot).finishing = s.finishing := rfl
@[simp] theorem putOut_monitors (s : State) (slot : Slot) : (s.putOut slot).monitors = s.monitors := rfl
@[simp] theorem putOut_outputs (s : State) (slot : Slot) : (s.putOut slot).outputs = s.outputs := rfl
@[simp] theorem putOut_ramp (s : State) (slot : Slot) : (s.putOut slot).ramp = s.ramp := rfl
@[simp] theorem putOut_emission (s : State) (slot : Slot) : (s.putOut slot).emission = s.emission := rfl

@[simp] theorem boundary_pending (s : State) (good : Bool) : (s.boundary good).pending = s.pending := rfl
@[simp] theorem boundary_ringIn (s : State) (good : Bool) : (s.boundary good).ringIn = s.ringIn := rfl
@[simp] theorem boundary_signals (s : State) (good : Bool) :
    (s.boundary good).signals =
      s.signals ++ (if good && decide (s.ring.ring = .down) then raise (.ringRestored s.ring.downAt) else []) := rfl
@[simp] theorem boundary_now (s : State) (good : Bool) : (s.boundary good).now = s.now := rfl
@[simp] theorem boundary_ring (s : State) (good : Bool) :
    (s.boundary good).ring =
      { s.ring with boundary := some (after s.now Config.ringTimeout), ring := if good && decide (s.ring.ring = .down) then .up else s.ring.ring } := rfl
@[simp] theorem boundary_tracker (s : State) (good : Bool) : (s.boundary good).tracker = s.tracker := rfl
@[simp] theorem boundary_webs (s : State) (good : Bool) : (s.boundary good).webs = s.webs := rfl
@[simp] theorem boundary_inputs (s : State) (good : Bool) : (s.boundary good).inputs = s.inputs := rfl
@[simp] theorem boundary_profiles (s : State) (good : Bool) : (s.boundary good).profiles = s.profiles := rfl
@[simp] theorem boundary_loops (s : State) (good : Bool) : (s.boundary good).loops = s.loops := rfl
@[simp] theorem boundary_finishing (s : State) (good : Bool) : (s.boundary good).finishing = s.finishing := rfl
@[simp] theorem boundary_monitors (s : State) (good : Bool) : (s.boundary good).monitors = s.monitors := rfl
@[simp] theorem boundary_outputs (s : State) (good : Bool) : (s.boundary good).outputs = s.outputs := rfl
@[simp] theorem boundary_ramp (s : State) (good : Bool) : (s.boundary good).ramp = s.ramp := rfl
@[simp] theorem boundary_emission (s : State) (good : Bool) : (s.boundary good).emission = s.emission := rfl

@[simp] theorem putWeb_pending (s : State) (w : Fin 4) (c : WebControl) (cs : List Instr) :
    (s.putWeb w c cs).pending =
      s.pending := rfl
@[simp] theorem putWeb_ringIn (s : State) (w : Fin 4) (c : WebControl) (cs : List Instr) :
    (s.putWeb w c cs).ringIn =
      s.ringIn := rfl
@[simp] theorem putWeb_signals (s : State) (w : Fin 4) (c : WebControl) (cs : List Instr) :
    (s.putWeb w c cs).signals =
      s.signals ++ cs := rfl
@[simp] theorem putWeb_now (s : State) (w : Fin 4) (c : WebControl) (cs : List Instr) :
    (s.putWeb w c cs).now =
      s.now := rfl
@[simp] theorem putWeb_ring (s : State) (w : Fin 4) (c : WebControl) (cs : List Instr) :
    (s.putWeb w c cs).ring =
      s.ring := rfl
@[simp] theorem putWeb_tracker (s : State) (w : Fin 4) (c : WebControl) (cs : List Instr) :
    (s.putWeb w c cs).tracker =
      s.tracker := rfl
@[simp] theorem putWeb_webs (s : State) (w : Fin 4) (c : WebControl) (cs : List Instr) :
    (s.putWeb w c cs).webs =
      s.webs.set w c := rfl
@[simp] theorem putWeb_inputs (s : State) (w : Fin 4) (c : WebControl) (cs : List Instr) :
    (s.putWeb w c cs).inputs =
      s.inputs := rfl
@[simp] theorem putWeb_profiles (s : State) (w : Fin 4) (c : WebControl) (cs : List Instr) :
    (s.putWeb w c cs).profiles =
      s.profiles := rfl
@[simp] theorem putWeb_loops (s : State) (w : Fin 4) (c : WebControl) (cs : List Instr) :
    (s.putWeb w c cs).loops =
      s.loops := rfl
@[simp] theorem putWeb_finishing (s : State) (w : Fin 4) (c : WebControl) (cs : List Instr) :
    (s.putWeb w c cs).finishing =
      s.finishing := rfl
@[simp] theorem putWeb_monitors (s : State) (w : Fin 4) (c : WebControl) (cs : List Instr) :
    (s.putWeb w c cs).monitors =
      s.monitors := rfl
@[simp] theorem putWeb_outputs (s : State) (w : Fin 4) (c : WebControl) (cs : List Instr) :
    (s.putWeb w c cs).outputs =
      s.outputs := rfl
@[simp] theorem putWeb_ramp (s : State) (w : Fin 4) (c : WebControl) (cs : List Instr) :
    (s.putWeb w c cs).ramp =
      s.ramp := rfl
@[simp] theorem putWeb_emission (s : State) (w : Fin 4) (c : WebControl) (cs : List Instr) :
    (s.putWeb w c cs).emission =
      s.emission := rfl

@[simp] theorem setTrack_pending (s : State) (w : Fin 4) (t : TrackWeb) : (s.setTrack w t).pending = s.pending := rfl
@[simp] theorem setTrack_ringIn (s : State) (w : Fin 4) (t : TrackWeb) : (s.setTrack w t).ringIn = s.ringIn := rfl
@[simp] theorem setTrack_signals (s : State) (w : Fin 4) (t : TrackWeb) : (s.setTrack w t).signals = s.signals := rfl
@[simp] theorem setTrack_now (s : State) (w : Fin 4) (t : TrackWeb) : (s.setTrack w t).now = s.now := rfl
@[simp] theorem setTrack_ring (s : State) (w : Fin 4) (t : TrackWeb) : (s.setTrack w t).ring = s.ring := rfl
@[simp] theorem setTrack_tracker (s : State) (w : Fin 4) (t : TrackWeb) :
    (s.setTrack w t).tracker =
      { s.tracker with webs := s.tracker.webs.set w t } := rfl
@[simp] theorem setTrack_webs (s : State) (w : Fin 4) (t : TrackWeb) : (s.setTrack w t).webs = s.webs := rfl
@[simp] theorem setTrack_inputs (s : State) (w : Fin 4) (t : TrackWeb) : (s.setTrack w t).inputs = s.inputs := rfl
@[simp] theorem setTrack_profiles (s : State) (w : Fin 4) (t : TrackWeb) :
    (s.setTrack w t).profiles =
      s.profiles := rfl
@[simp] theorem setTrack_loops (s : State) (w : Fin 4) (t : TrackWeb) : (s.setTrack w t).loops = s.loops := rfl
@[simp] theorem setTrack_finishing (s : State) (w : Fin 4) (t : TrackWeb) :
    (s.setTrack w t).finishing =
      s.finishing := rfl
@[simp] theorem setTrack_monitors (s : State) (w : Fin 4) (t : TrackWeb) :
    (s.setTrack w t).monitors =
      s.monitors := rfl
@[simp] theorem setTrack_outputs (s : State) (w : Fin 4) (t : TrackWeb) : (s.setTrack w t).outputs = s.outputs := rfl
@[simp] theorem setTrack_ramp (s : State) (w : Fin 4) (t : TrackWeb) : (s.setTrack w t).ramp = s.ramp := rfl
@[simp] theorem setTrack_emission (s : State) (w : Fin 4) (t : TrackWeb) :
    (s.setTrack w t).emission =
      s.emission := rfl

@[simp] theorem putTrackRun_pending (s : State) (w : Fin 4) (r : TrackRun) :
    (s.putTrackRun w r).pending =
      s.pending := rfl
@[simp] theorem putTrackRun_ringIn (s : State) (w : Fin 4) (r : TrackRun) :
    (s.putTrackRun w r).ringIn =
      s.ringIn := rfl
@[simp] theorem putTrackRun_signals (s : State) (w : Fin 4) (r : TrackRun) :
    (s.putTrackRun w r).signals =
      s.signals ++ r.out := rfl
@[simp] theorem putTrackRun_now (s : State) (w : Fin 4) (r : TrackRun) : (s.putTrackRun w r).now = s.now := rfl
@[simp] theorem putTrackRun_ring (s : State) (w : Fin 4) (r : TrackRun) : (s.putTrackRun w r).ring = s.ring := rfl
@[simp] theorem putTrackRun_tracker (s : State) (w : Fin 4) (r : TrackRun) :
    (s.putTrackRun w r).tracker =
      { webs := s.tracker.webs.set w r.web, jobs := s.tracker.jobs.set (housingOf w) r.job } := rfl
@[simp] theorem putTrackRun_webs (s : State) (w : Fin 4) (r : TrackRun) : (s.putTrackRun w r).webs = s.webs := rfl
@[simp] theorem putTrackRun_inputs (s : State) (w : Fin 4) (r : TrackRun) :
    (s.putTrackRun w r).inputs =
      s.inputs := rfl
@[simp] theorem putTrackRun_profiles (s : State) (w : Fin 4) (r : TrackRun) :
    (s.putTrackRun w r).profiles =
      s.profiles := rfl
@[simp] theorem putTrackRun_loops (s : State) (w : Fin 4) (r : TrackRun) : (s.putTrackRun w r).loops = s.loops := rfl
@[simp] theorem putTrackRun_finishing (s : State) (w : Fin 4) (r : TrackRun) :
    (s.putTrackRun w r).finishing =
      s.finishing := rfl
@[simp] theorem putTrackRun_monitors (s : State) (w : Fin 4) (r : TrackRun) :
    (s.putTrackRun w r).monitors =
      s.monitors := rfl
@[simp] theorem putTrackRun_outputs (s : State) (w : Fin 4) (r : TrackRun) :
    (s.putTrackRun w r).outputs =
      s.outputs := rfl
@[simp] theorem putTrackRun_ramp (s : State) (w : Fin 4) (r : TrackRun) : (s.putTrackRun w r).ramp = s.ramp := rfl
@[simp] theorem putTrackRun_emission (s : State) (w : Fin 4) (r : TrackRun) :
    (s.putTrackRun w r).emission =
      s.emission := rfl

@[simp] theorem reserve_pending (s : State) (h : Fin 2) (inc : Bank) : (s.reserve h inc).pending = s.pending := rfl
@[simp] theorem reserve_ringIn (s : State) (h : Fin 2) (inc : Bank) : (s.reserve h inc).ringIn = s.ringIn := rfl
@[simp] theorem reserve_signals (s : State) (h : Fin 2) (inc : Bank) : (s.reserve h inc).signals = s.signals := rfl
@[simp] theorem reserve_now (s : State) (h : Fin 2) (inc : Bank) : (s.reserve h inc).now = s.now := rfl
@[simp] theorem reserve_ring (s : State) (h : Fin 2) (inc : Bank) : (s.reserve h inc).ring = s.ring := rfl
@[simp] theorem reserve_tracker (s : State) (h : Fin 2) (inc : Bank) : (s.reserve h inc).tracker = s.tracker := rfl
@[simp] theorem reserve_webs (s : State) (h : Fin 2) (inc : Bank) : (s.reserve h inc).webs = s.webs := rfl
@[simp] theorem reserve_inputs (s : State) (h : Fin 2) (inc : Bank) : (s.reserve h inc).inputs = s.inputs := rfl
@[simp] theorem reserve_profiles (s : State) (h : Fin 2) (inc : Bank) :
    (s.reserve h inc).profiles =
      s.profiles.modify h fun p => { p with switch := some inc } := rfl
@[simp] theorem reserve_loops (s : State) (h : Fin 2) (inc : Bank) : (s.reserve h inc).loops = s.loops := rfl
@[simp] theorem reserve_finishing (s : State) (h : Fin 2) (inc : Bank) :
    (s.reserve h inc).finishing =
      s.finishing := rfl
@[simp] theorem reserve_monitors (s : State) (h : Fin 2) (inc : Bank) : (s.reserve h inc).monitors = s.monitors := rfl
@[simp] theorem reserve_outputs (s : State) (h : Fin 2) (inc : Bank) : (s.reserve h inc).outputs = s.outputs := rfl
@[simp] theorem reserve_ramp (s : State) (h : Fin 2) (inc : Bank) : (s.reserve h inc).ramp = s.ramp := rfl
@[simp] theorem reserve_emission (s : State) (h : Fin 2) (inc : Bank) : (s.reserve h inc).emission = s.emission := rfl

@[simp] theorem putProfiles_pending (s : State) (h : Fin 2) (p : ProfileHousing) (cs : List Instr) :
    (s.putProfiles h p cs).pending =
      s.pending := rfl
@[simp] theorem putProfiles_ringIn (s : State) (h : Fin 2) (p : ProfileHousing) (cs : List Instr) :
    (s.putProfiles h p cs).ringIn =
      s.ringIn := rfl
@[simp] theorem putProfiles_signals (s : State) (h : Fin 2) (p : ProfileHousing) (cs : List Instr) :
    (s.putProfiles h p cs).signals =
      s.signals ++ cs := rfl
@[simp] theorem putProfiles_now (s : State) (h : Fin 2) (p : ProfileHousing) (cs : List Instr) :
    (s.putProfiles h p cs).now =
      s.now := rfl
@[simp] theorem putProfiles_ring (s : State) (h : Fin 2) (p : ProfileHousing) (cs : List Instr) :
    (s.putProfiles h p cs).ring =
      s.ring := rfl
@[simp] theorem putProfiles_tracker (s : State) (h : Fin 2) (p : ProfileHousing) (cs : List Instr) :
    (s.putProfiles h p cs).tracker =
      s.tracker := rfl
@[simp] theorem putProfiles_webs (s : State) (h : Fin 2) (p : ProfileHousing) (cs : List Instr) :
    (s.putProfiles h p cs).webs =
      s.webs := rfl
@[simp] theorem putProfiles_inputs (s : State) (h : Fin 2) (p : ProfileHousing) (cs : List Instr) :
    (s.putProfiles h p cs).inputs =
      s.inputs := rfl
@[simp] theorem putProfiles_profiles (s : State) (h : Fin 2) (p : ProfileHousing) (cs : List Instr) :
    (s.putProfiles h p cs).profiles =
      s.profiles.set h p := rfl
@[simp] theorem putProfiles_loops (s : State) (h : Fin 2) (p : ProfileHousing) (cs : List Instr) :
    (s.putProfiles h p cs).loops =
      s.loops := rfl
@[simp] theorem putProfiles_finishing (s : State) (h : Fin 2) (p : ProfileHousing) (cs : List Instr) :
    (s.putProfiles h p cs).finishing =
      s.finishing := rfl
@[simp] theorem putProfiles_monitors (s : State) (h : Fin 2) (p : ProfileHousing) (cs : List Instr) :
    (s.putProfiles h p cs).monitors =
      s.monitors := rfl
@[simp] theorem putProfiles_outputs (s : State) (h : Fin 2) (p : ProfileHousing) (cs : List Instr) :
    (s.putProfiles h p cs).outputs =
      s.outputs := rfl
@[simp] theorem putProfiles_ramp (s : State) (h : Fin 2) (p : ProfileHousing) (cs : List Instr) :
    (s.putProfiles h p cs).ramp =
      s.ramp := rfl
@[simp] theorem putProfiles_emission (s : State) (h : Fin 2) (p : ProfileHousing) (cs : List Instr) :
    (s.putProfiles h p cs).emission =
      s.emission := rfl

@[simp] theorem putMonitor_pending (s : State) (h : Fin 2) (m : Monitor) (cs : List Instr) :
    (s.putMonitor h m cs).pending =
      s.pending := rfl
@[simp] theorem putMonitor_ringIn (s : State) (h : Fin 2) (m : Monitor) (cs : List Instr) :
    (s.putMonitor h m cs).ringIn =
      s.ringIn := rfl
@[simp] theorem putMonitor_signals (s : State) (h : Fin 2) (m : Monitor) (cs : List Instr) :
    (s.putMonitor h m cs).signals =
      s.signals ++ cs := rfl
@[simp] theorem putMonitor_now (s : State) (h : Fin 2) (m : Monitor) (cs : List Instr) :
    (s.putMonitor h m cs).now =
      s.now := rfl
@[simp] theorem putMonitor_ring (s : State) (h : Fin 2) (m : Monitor) (cs : List Instr) :
    (s.putMonitor h m cs).ring =
      s.ring := rfl
@[simp] theorem putMonitor_tracker (s : State) (h : Fin 2) (m : Monitor) (cs : List Instr) :
    (s.putMonitor h m cs).tracker =
      s.tracker := rfl
@[simp] theorem putMonitor_webs (s : State) (h : Fin 2) (m : Monitor) (cs : List Instr) :
    (s.putMonitor h m cs).webs =
      s.webs := rfl
@[simp] theorem putMonitor_inputs (s : State) (h : Fin 2) (m : Monitor) (cs : List Instr) :
    (s.putMonitor h m cs).inputs =
      s.inputs := rfl
@[simp] theorem putMonitor_profiles (s : State) (h : Fin 2) (m : Monitor) (cs : List Instr) :
    (s.putMonitor h m cs).profiles =
      s.profiles := rfl
@[simp] theorem putMonitor_loops (s : State) (h : Fin 2) (m : Monitor) (cs : List Instr) :
    (s.putMonitor h m cs).loops =
      s.loops := rfl
@[simp] theorem putMonitor_finishing (s : State) (h : Fin 2) (m : Monitor) (cs : List Instr) :
    (s.putMonitor h m cs).finishing =
      s.finishing := rfl
@[simp] theorem putMonitor_monitors (s : State) (h : Fin 2) (m : Monitor) (cs : List Instr) :
    (s.putMonitor h m cs).monitors =
      s.monitors.set h m := rfl
@[simp] theorem putMonitor_outputs (s : State) (h : Fin 2) (m : Monitor) (cs : List Instr) :
    (s.putMonitor h m cs).outputs =
      s.outputs := rfl
@[simp] theorem putMonitor_ramp (s : State) (h : Fin 2) (m : Monitor) (cs : List Instr) :
    (s.putMonitor h m cs).ramp =
      s.ramp := rfl
@[simp] theorem putMonitor_emission (s : State) (h : Fin 2) (m : Monitor) (cs : List Instr) :
    (s.putMonitor h m cs).emission =
      s.emission := rfl

@[simp] theorem putOutput_pending (s : State) (ch : Fin 30) (o : OutputChannel) (cs : List Instr) :
    (s.putOutput ch o cs).pending =
      s.pending := rfl
@[simp] theorem putOutput_ringIn (s : State) (ch : Fin 30) (o : OutputChannel) (cs : List Instr) :
    (s.putOutput ch o cs).ringIn =
      s.ringIn := rfl
@[simp] theorem putOutput_signals (s : State) (ch : Fin 30) (o : OutputChannel) (cs : List Instr) :
    (s.putOutput ch o cs).signals =
      s.signals ++ cs := rfl
@[simp] theorem putOutput_now (s : State) (ch : Fin 30) (o : OutputChannel) (cs : List Instr) :
    (s.putOutput ch o cs).now =
      s.now := rfl
@[simp] theorem putOutput_ring (s : State) (ch : Fin 30) (o : OutputChannel) (cs : List Instr) :
    (s.putOutput ch o cs).ring =
      s.ring := rfl
@[simp] theorem putOutput_tracker (s : State) (ch : Fin 30) (o : OutputChannel) (cs : List Instr) :
    (s.putOutput ch o cs).tracker =
      s.tracker := rfl
@[simp] theorem putOutput_webs (s : State) (ch : Fin 30) (o : OutputChannel) (cs : List Instr) :
    (s.putOutput ch o cs).webs =
      s.webs := rfl
@[simp] theorem putOutput_inputs (s : State) (ch : Fin 30) (o : OutputChannel) (cs : List Instr) :
    (s.putOutput ch o cs).inputs =
      s.inputs := rfl
@[simp] theorem putOutput_profiles (s : State) (ch : Fin 30) (o : OutputChannel) (cs : List Instr) :
    (s.putOutput ch o cs).profiles =
      s.profiles := rfl
@[simp] theorem putOutput_loops (s : State) (ch : Fin 30) (o : OutputChannel) (cs : List Instr) :
    (s.putOutput ch o cs).loops =
      s.loops := rfl
@[simp] theorem putOutput_finishing (s : State) (ch : Fin 30) (o : OutputChannel) (cs : List Instr) :
    (s.putOutput ch o cs).finishing =
      s.finishing := rfl
@[simp] theorem putOutput_monitors (s : State) (ch : Fin 30) (o : OutputChannel) (cs : List Instr) :
    (s.putOutput ch o cs).monitors =
      s.monitors := rfl
@[simp] theorem putOutput_outputs (s : State) (ch : Fin 30) (o : OutputChannel) (cs : List Instr) :
    (s.putOutput ch o cs).outputs =
      s.outputs.set ch o := rfl
@[simp] theorem putOutput_ramp (s : State) (ch : Fin 30) (o : OutputChannel) (cs : List Instr) :
    (s.putOutput ch o cs).ramp =
      s.ramp := rfl
@[simp] theorem putOutput_emission (s : State) (ch : Fin 30) (o : OutputChannel) (cs : List Instr) :
    (s.putOutput ch o cs).emission =
      s.emission := rfl

@[simp] theorem putRecord_pending (s : State) (ch : Fin 30) (r : EmissionRecord) :
    (s.putRecord ch r).pending =
      s.pending := rfl
@[simp] theorem putRecord_ringIn (s : State) (ch : Fin 30) (r : EmissionRecord) :
    (s.putRecord ch r).ringIn =
      s.ringIn := rfl
@[simp] theorem putRecord_signals (s : State) (ch : Fin 30) (r : EmissionRecord) :
    (s.putRecord ch r).signals =
      s.signals := rfl
@[simp] theorem putRecord_now (s : State) (ch : Fin 30) (r : EmissionRecord) : (s.putRecord ch r).now = s.now := rfl
@[simp] theorem putRecord_ring (s : State) (ch : Fin 30) (r : EmissionRecord) :
    (s.putRecord ch r).ring =
      s.ring := rfl
@[simp] theorem putRecord_tracker (s : State) (ch : Fin 30) (r : EmissionRecord) :
    (s.putRecord ch r).tracker =
      s.tracker := rfl
@[simp] theorem putRecord_webs (s : State) (ch : Fin 30) (r : EmissionRecord) :
    (s.putRecord ch r).webs =
      s.webs := rfl
@[simp] theorem putRecord_inputs (s : State) (ch : Fin 30) (r : EmissionRecord) :
    (s.putRecord ch r).inputs =
      s.inputs := rfl
@[simp] theorem putRecord_profiles (s : State) (ch : Fin 30) (r : EmissionRecord) :
    (s.putRecord ch r).profiles =
      s.profiles := rfl
@[simp] theorem putRecord_loops (s : State) (ch : Fin 30) (r : EmissionRecord) :
    (s.putRecord ch r).loops =
      s.loops := rfl
@[simp] theorem putRecord_finishing (s : State) (ch : Fin 30) (r : EmissionRecord) :
    (s.putRecord ch r).finishing =
      s.finishing := rfl
@[simp] theorem putRecord_monitors (s : State) (ch : Fin 30) (r : EmissionRecord) :
    (s.putRecord ch r).monitors =
      s.monitors := rfl
@[simp] theorem putRecord_outputs (s : State) (ch : Fin 30) (r : EmissionRecord) :
    (s.putRecord ch r).outputs =
      s.outputs := rfl
@[simp] theorem putRecord_ramp (s : State) (ch : Fin 30) (r : EmissionRecord) :
    (s.putRecord ch r).ramp =
      s.ramp := rfl
@[simp] theorem putRecord_emission (s : State) (ch : Fin 30) (r : EmissionRecord) :
    (s.putRecord ch r).emission =
      { s.emission with records := s.emission.records.set ch r } := rfl

@[simp] theorem putRun_pending (s : State) (j : Fin 8) (r : RampRun) : (s.putRun j r).pending = s.pending := rfl
@[simp] theorem putRun_ringIn (s : State) (j : Fin 8) (r : RampRun) : (s.putRun j r).ringIn = s.ringIn := rfl
@[simp] theorem putRun_signals (s : State) (j : Fin 8) (r : RampRun) :
    (s.putRun j r).signals =
      s.signals ++ r.out := rfl
@[simp] theorem putRun_now (s : State) (j : Fin 8) (r : RampRun) : (s.putRun j r).now = s.now := rfl
@[simp] theorem putRun_ring (s : State) (j : Fin 8) (r : RampRun) : (s.putRun j r).ring = s.ring := rfl
@[simp] theorem putRun_tracker (s : State) (j : Fin 8) (r : RampRun) : (s.putRun j r).tracker = s.tracker := rfl
@[simp] theorem putRun_webs (s : State) (j : Fin 8) (r : RampRun) : (s.putRun j r).webs = s.webs := rfl
@[simp] theorem putRun_inputs (s : State) (j : Fin 8) (r : RampRun) : (s.putRun j r).inputs = s.inputs := rfl
@[simp] theorem putRun_profiles (s : State) (j : Fin 8) (r : RampRun) : (s.putRun j r).profiles = s.profiles := rfl
@[simp] theorem putRun_loops (s : State) (j : Fin 8) (r : RampRun) : (s.putRun j r).loops = s.loops := rfl
@[simp] theorem putRun_finishing (s : State) (j : Fin 8) (r : RampRun) : (s.putRun j r).finishing = s.finishing := rfl
@[simp] theorem putRun_monitors (s : State) (j : Fin 8) (r : RampRun) : (s.putRun j r).monitors = s.monitors := rfl
@[simp] theorem putRun_outputs (s : State) (j : Fin 8) (r : RampRun) : (s.putRun j r).outputs = s.outputs := rfl
@[simp] theorem putRun_ramp (s : State) (j : Fin 8) (r : RampRun) :
    (s.putRun j r).ramp =
      { s.ramp with slots := s.ramp.slots.set j r.slot, owners := r.owners } := rfl
@[simp] theorem putRun_emission (s : State) (j : Fin 8) (r : RampRun) : (s.putRun j r).emission = s.emission := rfl

@[simp] theorem told_pending (s : State) (t : RampTarget) (v : Option Nat) : (s.told t v).pending = s.pending := rfl
@[simp] theorem told_ringIn (s : State) (t : RampTarget) (v : Option Nat) : (s.told t v).ringIn = s.ringIn := rfl
@[simp] theorem told_signals (s : State) (t : RampTarget) (v : Option Nat) : (s.told t v).signals = s.signals := rfl
@[simp] theorem told_now (s : State) (t : RampTarget) (v : Option Nat) : (s.told t v).now = s.now := rfl
@[simp] theorem told_ring (s : State) (t : RampTarget) (v : Option Nat) : (s.told t v).ring = s.ring := rfl
@[simp] theorem told_tracker (s : State) (t : RampTarget) (v : Option Nat) : (s.told t v).tracker = s.tracker := rfl
@[simp] theorem told_webs (s : State) (t : RampTarget) (v : Option Nat) : (s.told t v).webs = s.webs := rfl
@[simp] theorem told_inputs (s : State) (t : RampTarget) (v : Option Nat) : (s.told t v).inputs = s.inputs := rfl
@[simp] theorem told_profiles (s : State) (t : RampTarget) (v : Option Nat) : (s.told t v).profiles = s.profiles := rfl
@[simp] theorem told_loops (s : State) (t : RampTarget) (v : Option Nat) : (s.told t v).loops = s.loops := rfl
@[simp] theorem told_finishing (s : State) (t : RampTarget) (v : Option Nat) : (s.told t v).finishing = s.finishing := rfl
@[simp] theorem told_monitors (s : State) (t : RampTarget) (v : Option Nat) : (s.told t v).monitors = s.monitors := rfl
@[simp] theorem told_outputs (s : State) (t : RampTarget) (v : Option Nat) : (s.told t v).outputs = s.outputs := rfl
@[simp] theorem told_emission (s : State) (t : RampTarget) (v : Option Nat) : (s.told t v).emission = s.emission := rfl
@[simp] theorem told_ramp (s : State) (t : RampTarget) (v : Option Nat) : (s.told t v).ramp =
    { s.ramp with owners := s.ramp.owners.set (targetIx t) ⟨some 0, v⟩ } := rfl

end Sys2Proof.Laws
end

