-- ==== Sys2Proof/Laws/Ops.lean ====
section
/-! SUPPORT. What each shared operation can do, said once. -/

namespace Sys2Proof.Laws

open Sys2Proof.Machine

/-! ## The two shapes of a meaning -/

/-- An event of a part whose reset pin is released acts. -/
theorem event_next (f : State → State) (s : State) (h : s.ring.resetHeld = false) : event f s = .next (f s) := by
  simp [event, h]

/-- Under a held reset pin an event changes nothing. -/
theorem event_held (f : State → State) (s : State) (h : s.ring.resetHeld = true) : event f s = .next s := by
  simp [event, h]

/-- A request in service is answered by its owner on the state after the slot boundary. -/
theorem request_next (code : Nat) (rq : Request) (owner : List Byte → State → Answer) (s : State)
    (h : s.ring.inService = true) :
    request code rq owner s =
      .next ((owner rq.args (s.boundary true)).state.putOut
        (replyFrame (owner rq.args (s.boundary true)).state rq code (owner rq.args (s.boundary true)))) := by
  simp [request, h]

/-- Out of service a request changes nothing. -/
theorem request_out (code : Nat) (rq : Request) (owner : List Byte → State → Answer) (s : State)
    (h : s.ring.inService = false) : request code rq owner s = .next s := by
  simp [request, h]

/-- An event answers a next state, whatever the state. -/
theorem event_answers (f : State → State) (s : State) : ∃ t, event f s = .next t := ⟨_, rfl⟩

/-- A request answers a next state, whatever the state. -/
theorem request_answers (code : Nat) (rq : Request) (owner : List Byte → State → Answer) (s : State) :
    ∃ t, request code rq owner s = .next t := ⟨_, rfl⟩

/-- Being in service implies that the reset pin is released. -/
theorem inService_released (r : RingPort) (h : r.inService = true) : r.resetHeld = false := by
  unfold RingPort.inService at h
  cases hr : r.resetHeld
  · rfl
  · rw [hr] at h; exact absurd h (by simp)

/-! ## Answers -/

@[simp] theorem refuse_state (st : Status) (s : State) : (refuse st s).state = s := rfl
@[simp] theorem refuse_status (st : Status) (s : State) : (refuse st s).status = st := rfl
@[simp] theorem refuse_data (st : Status) (s : State) : (refuse st s).data = [] := rfl
@[simp] theorem refuse_clamped (st : Status) (s : State) : (refuse st s).clamped = false := rfl
@[simp] theorem refuseWith_state (st : Status) (d : List Byte) (s : State) : (refuseWith st d s).state = s := rfl
@[simp] theorem refuseWith_status (st : Status) (d : List Byte) (s : State) : (refuseWith st d s).status = st := rfl
@[simp] theorem refuseWith_data (st : Status) (d : List Byte) (s : State) : (refuseWith st d s).data = d := rfl
@[simp] theorem done_state (s : State) : (done s).state = s := rfl
@[simp] theorem done_status (s : State) : (done s).status = .done := rfl
@[simp] theorem done_data (s : State) : (done s).data = [] := rfl
@[simp] theorem done_clamped (s : State) : (done s).clamped = false := rfl

/-! ## The Decoder's checks -/

/-- A missing first argument is refused with RANGE. -/
@[simp] theorem indexed_nil (n : Nat) (f : Fin n → List Byte → State → Answer) (s : State) :
    indexed n f [] s = refuse .range s := rfl

/-- A first argument in range reaches the owner. -/
theorem indexed_cons (n : Nat) (f : Fin n → List Byte → State → Answer) (b : Byte) (rest : List Byte) (s : State)
    (h : b.toNat < n) : indexed n f (b :: rest) s = f ⟨b.toNat, h⟩ rest s := by
  simp [indexed, asFin, h]

/-- A first argument out of range is refused with RANGE. -/
theorem indexed_out (n : Nat) (f : Fin n → List Byte → State → Answer) (b : Byte) (rest : List Byte) (s : State)
    (h : n ≤ b.toNat) : indexed n f (b :: rest) s = refuse .range s := by
  simp [indexed, asFin, Nat.not_lt.mpr h]

/-- A property that a refusal has and every owner's answer has holds of the whole request. -/
theorem indexed_induction (n : Nat) (f : Fin n → List Byte → State → Answer) (s : State) (P : Answer → Prop)
    (hr : P (refuse .range s)) (hf : ∀ i rest, P (f i rest s)) (args : List Byte) : P (indexed n f args s) := by
  unfold indexed
  split
  · exact hr
  · split
    · exact hr
    · exact hf _ _

/-- The same for a WRITE, whose span may also be refused. -/
theorem writeObject_induction (n words : Nat) (owner : Fin n → Span → State → Answer) (s : State)
    (P : Answer → Prop) (hr : ∀ st, P (refuse st s)) (hf : ∀ i sp, P (owner i sp s)) (args : List Byte) :
    P (writeObject n words owner args s) := by
  unfold writeObject
  apply indexed_induction
  · exact hr .range
  · intro i rest
    show P (match readSpan words rest with
      | .error st => refuse st s
      | .ok sp => owner i sp s)
    split
    · exact hr _
    · exact hf _ _

/-- What a span that is not refused is: an even offset and count within the image, with its words. -/
theorem readSpan_ok (words : Nat) (bs : List Byte) (sp : Span) (h : readSpan words bs = .ok sp) :
    sp = ⟨wordAt bs 0 / 2, wordsOfBytes ((bs.drop 3).take (byteAt bs 2))⟩ ∧ 1 ≤ byteAt bs 2 ∧ byteAt bs 2 ≤ 16 ∧
      wordAt bs 0 % 2 = 0 ∧ byteAt bs 2 % 2 = 0 ∧ wordAt bs 0 + byteAt bs 2 ≤ 2 * words := by
  unfold readSpan at h
  simp only at h
  split at h
  · exact absurd h (by simp)
  · next h1 =>
    split at h
    · exact absurd h (by simp)
    · next h2 =>
      refine ⟨?_, ?_, ?_, ?_, ?_, ?_⟩
      · exact (Except.ok.inj h).symm
      all_goals omega

/-! ## Events of one block -/

/-- What the reader of a target finds in a part as a signal tells it: the value the signal carries. -/
@[simp] theorem rampValue_told (s : State) (t : RampTarget) (v : Option Nat) : (s.told t v).rampValue t = v := by
  cases v <;> simp [State.rampValue, State.told, ownedValue]

/-- The other targets read as before. -/
theorem rampValue_told_other (s : State) (t u : RampTarget) (v : Option Nat) (h : targetIx u ≠ targetIx t) :
    (s.told t v).rampValue u = s.rampValue u := by
  simp [State.rampValue, State.told, ownedValue, h]

/-- A zone computation from any view keeps a dark housing's state as it is (R82). -/
theorem computeFrom_dark (view : State) (h : Fin 2) (z : Fin 4) (f : ZoneLoop → ZoneLoop) (s : State)
    (d : s.dark h = true) : computeFrom view h z f s = s := by
  simp [computeFrom, d]

/-- A zone computation from any view changes that loop and sends its two values. -/
theorem computeFrom_lit (view : State) (h : Fin 2) (z : Fin 4) (f : ZoneLoop → ZoneLoop) (s : State)
    (d : s.dark h = false) :
    computeFrom view h z f s =
      { s with
        loops := s.loops.set (loopIx h z) (scheduleLoop view h z (f (formLoop view h z (s.loops.get (loopIx h z)))))
        signals := s.signals ++
          handLoop h z (scheduleLoop view h z (f (formLoop view h z (s.loops.get (loopIx h z))))) } := by
  simp [computeFrom, d]

/-- The loop of a dark housing keeps the state as it is (R82). -/
theorem computeLoop_dark (h : Fin 2) (z : Fin 4) (f : ZoneLoop → ZoneLoop) (s : State) (d : s.dark h = true) :
    computeLoop h z f s = s :=
  computeFrom_dark s h z f s d

/-- A computation of a zone loop changes that loop and sends its two values. -/
theorem computeLoop_lit (h : Fin 2) (z : Fin 4) (f : ZoneLoop → ZoneLoop) (s : State) (d : s.dark h = false) :
    computeLoop h z f s =
      { s with
        loops := s.loops.set (loopIx h z) (scheduleLoop s h z (f (formLoop s h z (s.loops.get (loopIx h z)))))
        signals := s.signals ++
          handLoop h z (scheduleLoop s h z (f (formLoop s h z (s.loops.get (loopIx h z))))) } :=
  computeFrom_lit s h z f s d

/-- Web Finishing of an IDLE web keeps the state as it is (R101). -/
theorem finishingEvent_idle (w : Fin 4) (f : State → Finishing → Finishing × List Instr) (s : State)
    (h : s.mode w = .idle) : finishingEvent w f s = s := by
  simp [finishingEvent, h]

/-- An event of Web Finishing changes that web's finishing state and sends signals. -/
theorem finishingEvent_other (w : Fin 4) (f : State → Finishing → Finishing × List Instr) (s : State)
    (h : s.mode w ≠ .idle) :
    finishingEvent w f s =
      { s with finishing := s.finishing.set w (f s (s.finishing.get w)).1
               signals := s.signals ++ (f s (s.finishing.get w)).2 } := by
  simp [finishingEvent, h]

/-- The monitor of a dark housing keeps the state as it is (Table 7-2). -/
theorem monitorEvent_dark (h : Fin 2) (f : State → Monitor → Monitor × List Instr) (s : State)
    (d : s.dark h = true) : monitorEvent h f s = s := by
  simp [monitorEvent, d]

theorem monitorEvent_lit (h : Fin 2) (f : State → Monitor → Monitor × List Instr) (s : State)
    (d : s.dark h = false) :
    monitorEvent h f s = s.putMonitor h (f s (s.monitors.get h)).1 (f s (s.monitors.get h)).2 := by
  simp [monitorEvent, d]

/-- The end of an event at an output channel changes that channel and sends signals. -/
theorem endEvent_frame (s : State) (ch : Fin 30) (again : Bool) (o' : OutputChannel) (cs : List Instr) :
    ∃ o out, s.endEvent ch again o' cs = s.putOutput ch o out ∧
      o.entries = o'.entries ∧ o.schedule = o'.schedule ∧ o.binding = o'.binding ∧ o.active = o'.active ∧
      o.dwell = o'.dwell ∧ o.protection = o'.protection := by
  refine ⟨_, _, rfl, ?_⟩
  unfold closeEvent
  simp only
  split
  · exact ⟨rfl, rfl, rfl, rfl, rfl, rfl⟩
  · split
    · exact ⟨rfl, rfl, rfl, rfl, rfl, rfl⟩
    · exact ⟨rfl, rfl, rfl, rfl, rfl, rfl⟩

/-! ## The notice queue (R171) -/

theorem coalesceQueue_length (n : Notice) (now : PartTime) (q : List NoticeEntry) :
    (coalesceQueue n now q).length = q.length := by
  induction q with
  | nil => rfl
  | cons e rest ih =>
    unfold coalesceQueue
    split
    · rfl
    · simp [ih]

theorem markOverflow_length (q : List NoticeEntry) : (markOverflow q).length = q.length := by
  induction q with
  | nil => rfl
  | cons e rest ih =>
    cases rest with
    | nil => rfl
    | cons x rest => simp [markOverflow, ih]

end Sys2Proof.Laws
end

