-- ==== Sys2Proof/Tests/Slice0.lean ====
section
/-! SUPPORT. The model's own tests: an ill-formed command for each check of `Instr.wf`; one or two small facts per
row, most from the manual's worked examples; and for each statement with hypotheses a witness that states and
operands meet them, clause by clause, at the ends of the ranges. -/

namespace Sys2Proof.Tests

open Sys2Proof Sys2Proof.Machine Sys2Proof.Statements

set_option Elab.async false

/-! ## Small states -/

/-- Whether command `c` taken in `s` answers a next state with property `p`. -/
def gives (c : Instr) (s : State) (p : State → Bool) : Bool :=
  match exec c s with
  | .next t => p t
  | _ => false

/-- A table from a list, 0 beyond its end. -/
def nums (n : Nat) (xs : List Nat) : Tab Nat n := Tab.ofFn fun i => xs.getD i.val 0

def lanesOf (xs : List Int) : Tab (Option Int) 8 := Tab.ofFn fun i => xs[i.val]?

def part : State := State.reset
def withWeb (w : Fin 4) (c : WebControl) (s : State) : State := { s with webs := s.webs.set w c }
def withMode (w : Fin 4) (m : Mode) (s : State) : State := withWeb w { s.webs.get w with mode := m } s
def withTrack (w : Fin 4) (t : TrackWeb) (s : State) : State :=
  { s with tracker := { s.tracker with webs := s.tracker.webs.set w t } }
def withJob (h : Fin 2) (b : Option Bank) (s : State) : State :=
  { s with tracker := { s.tracker with jobs := s.tracker.jobs.set h b } }
def withInput (ch : Fin 32) (c : InputChannel) (s : State) : State := { s with inputs := s.inputs.set ch c }
def withRecord (ch : Fin 32) (fresh : Bool) (xs : List Int) (s : State) : State :=
  withInput ch { s.inputs.get ch with record := ⟨fresh, lanesOf xs, 0, fresh⟩ } s
def withProfiles (h : Fin 2) (p : ProfileHousing) (s : State) : State := { s with profiles := s.profiles.set h p }
def withMonitor (h : Fin 2) (m : Monitor) (s : State) : State := { s with monitors := s.monitors.set h m }
def withOutput (ch : Fin 30) (o : OutputChannel) (s : State) : State := { s with outputs := s.outputs.set ch o }
def withEntry (ch : Fin 30) (i : Fin 4) (e : Entry) (s : State) : State :=
  withOutput ch { s.outputs.get ch with entries := (s.outputs.get ch).entries.set i (some e) } s
def withSlot (j : Fin 8) (x : RampSlot) (s : State) : State :=
  { s with ramp := { s.ramp with slots := s.ramp.slots.set j x } }
def withEmission (ch : Fin 30) (r : EmissionRecord) (s : State) : State :=
  { s with emission := { s.emission with records := s.emission.records.set ch r } }
def ringUp (s : State) : State := { s with ring := { s.ring with ring := .up } }
def atTime (t : Nat) (s : State) : State := { s with now := BitVec.ofNat 32 t }

/-- Both indicators' worth of bank `b` in use throughout, its fields `f`. -/
def lit (b : Bank) (f : Profile) : ProfileHousing :=
  ((ProfileHousing.reset.setBank b ⟨f, .inUse⟩)).pointAll (some b)

/-- The bytes 0 to 8 of the slot at RING OUT. -/
def replied (s : State) : List Nat := (s.ring.ringOut.items.take 9).map BitVec.toNat

/-! ## Well-formedness: an ill-formed command for each check -/

theorem test_wf_sampleSlot : (Instr.sampleSlot (frame [0])).wf = false := by decide +kernel
theorem test_wf_sampleSlot_check : (Instr.sampleSlot (slotOfBytes [1])).wf = false := by decide +kernel
theorem test_wf_vacantSlot : (Instr.vacantSlot (frame [1])).wf = false := by decide +kernel
theorem test_wf_unknownRequest : (Instr.unknownRequest ⟨0, [14]⟩).wf = false := by decide +kernel
theorem test_wf_unknownRequest_long : (Instr.unknownRequest ⟨0, List.replicate 25 99⟩).wf = false := by decide +kernel
theorem test_wf_long_requests :
    ∀ c ∈ [Instr.read, .write, .webEnable, .webDisable, .speedPlan, .mark, .clearBreak, .clearTrip, .overrideValue,
      .release, .noticeMask, .restart], (c ⟨0, List.replicate 24 255⟩).wf = false := by decide +kernel
theorem test_wf_long_writes :
    ∀ c ∈ [Instr.writeSubscription, .writeBinding, .writeStations, .writeCoverage, .writeProfile, .writeLoop,
      .writeWebParam, .writeHousingParam, .writeProtection, .writeRampMemory, .writeRampDescriptor, .validateCoverage,
      .validateProfile, .arm, .disarm, .start, .pause, .resume, .stop], (c ⟨0, List.replicate 23 0⟩).wf = false := by
  decide +kernel
theorem test_wf_write_own_rule : (Instr.write ⟨0, [10]⟩).wf = false := by decide +kernel
theorem test_wf_intakeSample : (Instr.intakeSample 0 ⟨0, 0, 12, 0, Tab.replicate 8 0⟩).wf = false ∧
    (Instr.intakeSample 0 ⟨0, 0, 1, 0, Tab.replicate 8 40000⟩).wf = false := by decide +kernel
theorem test_wf_operatorReturn : (Instr.operatorReturn 0 0 10001).wf = false := by decide +kernel
theorem test_wf_ramp_signals : (Instr.zoneRampSignal 0 ⟨0, some 4801, none⟩).wf = false ∧
    (Instr.zoneRampSignal 0 ⟨0, none, some 10001⟩).wf = false ∧ (Instr.dampBaseRampSignal ⟨0, some 10001⟩).wf = false ∧
    (Instr.chillTargetRampSignal ⟨0, some 1601⟩).wf = false := by decide +kernel
theorem test_wf_protectiveReturn : (Instr.protectiveReturn 0 0 .schedule).wf = false ∧
    (Instr.protectiveReturn 0 0 .operator).wf = false := by decide +kernel
theorem test_wf_claim : (Instr.claim 18 .lel []).wf = false ∧ (Instr.claim 18 (.cause .exhHigh) []).wf = false ∧
    (Instr.claim 18 (.web 1) []).wf = false ∧ (Instr.claim 0 .operator []).wf = false ∧
    (Instr.claim 0 .operator [10001]).wf = false := by decide +kernel
theorem test_wf_holderRelease : (Instr.holderRelease 29 .lel).wf = false := by decide +kernel
theorem test_wf_dwellTimerExpiry : (Instr.dwellTimerExpiry 17).wf = false := by decide +kernel
theorem test_wf_scheduleValue : (Instr.scheduleValue 18 [1]).wf = false ∧ (Instr.scheduleValue 0 [10001]).wf = false := by
  decide +kernel
theorem test_wf_noticeRaised : (Instr.noticeRaised (.trackGap 0 40000)).wf = false ∧
    (Instr.noticeRaised (.limitOn 0 1001)).wf = false ∧ (Instr.noticeRaised (.limitOff 0 1001)).wf = false ∧
    (Instr.noticeRaised (.trip 0 0 none)).wf = false ∧ (Instr.noticeRaised (.trip 0 1 (some 40000))).wf = false ∧
    (Instr.noticeRaised (.brk 0 0)).wf = false ∧ (Instr.noticeRaised (.programDone 0 .hold 0)).wf = false ∧
    (Instr.noticeRaised (.outOfWindow (.dry 0) 40000 0)).wf = false ∧
    (Instr.noticeRaised (.windowRestored (.dry 0) 0 40000)).wf = false := by decide +kernel
theorem test_wf_well_formed : (Instr.sampleSlot (frame [1])).wf = true ∧ (Instr.vacantSlot (frame [0])).wf = true ∧
    (Instr.unknownRequest ⟨0, [99]⟩).wf = true ∧ (Instr.claim 18 (.web 0) []).wf = true ∧ Instr.ringDown.wf = true := by
  decide +kernel

/-! ## Words, the ring and the reset pin -/

theorem test_no_word_spells_a_command : decodeTableWord 0 0 = none ∧ decodeTableWord 256 12345 = none ∧
    part.withFetchWord 16 7 = part := ⟨rfl, rfl, rfl⟩

/-- The check of "123456789" under generator 04C11DB7 as R175 sends it. -/
theorem test_check_of_nine_digits :
    crc [0x31, 0x32, 0x33, 0x34, 0x35, 0x36, 0x37, 0x38, 0x39] = 0xCBF43926#32 := by decide +kernel

theorem test_bad_check_is_not_acted_on : goodSlot (slotOfBytes [0]) = false ∧ goodSlot (frame [0, 0, 0, 25]) = false ∧
    goodSlot (frame [6]) = false ∧ goodSlot (frame [5, 0, 0, 24]) = true := by decide +kernel

theorem test_ring_comes_up_and_goes_down :
    gives (.slotForward (frame [2])) part (fun t => t.ring.ring = .up ∧ t.signals = [.noticeRaised (.ringRestored 0)] ∧
      t.ring.boundary = some 5) = true ∧
    gives .ringDown { ringUp (atTime 5 part) with ring := { (ringUp part).ring with boundary := some 5 } }
      (fun t => t.ring.ring = .down ∧ t.ring.downAt = 5 ∧ t.ring.boundary = none) = true := by decide +kernel

theorem test_powerOnReset : gives (.powerOnReset 40) (withMode 0 .run part)
    (fun t => t.ring.node = 40 ∧ t.mode 0 = .idle ∧ t.now = 0) = true := by decide +kernel

theorem test_resetHeldActive : gives (.resetHeldActive (slotOfBytes [9])) part
    (fun t => t.ring.resetHeld = true ∧ t.ring.ringOut = slotOfBytes [9]) = true := by decide +kernel

/-- A step of a held part with an empty queue passes the slot at RING IN. -/
theorem test_step_while_held :
    (match step { part with ring := { part.ring with resetHeld := true }, ringIn := [frame [0]] } with
      | .next t => decide (t.ring.ringOut = frame [0] ∧ t.ringIn = [] ∧ t.ring.boundary = none)
      | _ => false) = true := by decide +kernel

/-- A part in service with nothing to do lets one ms pass. -/
theorem test_step_ticks : (match step part with | .next t => decide (t.now = 1) | _ => false) = true := by decide +kernel

theorem test_sampleSlot : gives (.sampleSlot (frame [1, 41, 3, 4, 1, 1, 0x05, 0x9D]))
    (withInput 1 { InputChannel.reset with sub := { Subscription.reset with enabled := true, node := 41, setId := 3 } }
      (ringUp part))
    (fun t => t.signals = [.intakeSample 1 ⟨41, 3, 1, 1, ⟨[1437, 0, 0, 0, 0, 0, 0, 0], rfl⟩⟩]) = true := by decide +kernel

/-- Section 11.7: the REPLY CHECK, the RING_RESTORED notice in the vacant slot, the REPLY DONE. -/
def thresholds (n : Nat) (ws : List Nat) : Slot :=
  frame ([3, 12, 77, BitVec.ofNat 8 (6 + n), 2, 7, 0, 0, 2, BitVec.ofNat 8 n] ++ bytesOfWords ws)

theorem test_request_row : slotRow part (thresholds 6 [250, 300, 400]) =
    .writeHousingParam ⟨77, [0, 0, 2, 6] ++ bytesOfWords [250, 300, 400]⟩ := by decide +kernel

theorem test_writeHousingParam_refused :
    gives (.writeHousingParam ⟨77, [0, 0, 2, 6] ++ bytesOfWords [250, 300, 400]⟩) part
      (fun t => replied t = [4, 12, 77, 3, 2, 4, 0, 0, 0]) = true := by decide +kernel

theorem test_vacantSlot_notice :
    gives (.vacantSlot (frame [0])) { ringUp part with emission :=
        { part.emission with queue := [⟨.ringRestored 0x01020304, 1, 7, false⟩] } }
      (fun t => (t.ring.ringOut.items.take 18).map BitVec.toNat =
        [5, 12, 0, 24, 17, 6, 0, 1, 0, 0, 0, 0, 7, 1, 2, 3, 4, 0] ∧ t.emission.queue = []) = true := by decide +kernel

theorem test_writeHousingParam : gives
    (.writeHousingParam ⟨78, [0, 0, 2, 14] ++ bytesOfWords [250, 300, 400, 180, 120, 40, 60]⟩) (ringUp part)
    (fun t => replied t = [4, 12, 78, 3, 2, 0, 0, 0, 0] ∧
      (t.housing 0).words = [0, 250, 300, 400, 180, 120, 40, 60, 0, 0, 0, 0, 0]) = true := by decide +kernel

theorem test_vacantSlot_forwarded : gives (.vacantSlot (frame [0])) (ringUp part)
    (fun t => t.ring.ringOut = frame [0]) = true := by decide +kernel

/-! ## The Decoder -/

theorem test_unknownRequest : gives (.unknownRequest ⟨1, [15]⟩) part
    (fun t => replied t = [4, 12, 1, 3, 15, 5, 0, 0, 0]) = true := by decide +kernel
theorem test_read : gives (.read ⟨1, [8, 8, 0, 0, 4]⟩) part
    (fun t => (t.ring.ringOut.items.take 12).map BitVec.toNat = [4, 12, 1, 7, 1, 0, 0, 0, 1, 39, 16, 0]) = true := by
  decide +kernel
theorem test_write_status : gives (.write ⟨1, [11, 0, 0, 0, 2, 0, 0]⟩) part
    (fun t => replied t = [4, 12, 1, 3, 2, 4, 0, 0, 0]) = true := by decide +kernel
theorem test_writeSubscription : gives (.writeSubscription ⟨1, [1, 0, 0, 4, 0, 1, 0, 41]⟩) part
    (fun t => replied t = [4, 12, 1, 3, 2, 4, 0, 0, 0]) = true ∧
    gives (.writeSubscription ⟨1, [1, 0, 26, 2, 3, 232]⟩) part
      (fun t => (t.inputs.get 1).sub.maxAge = 1000) = true := by decide +kernel
theorem test_writeBinding : gives (.writeBinding ⟨1, [1, 0, 0, 12] ++ bytesOfWords [1, 50, 3, 20, 1000, 500]⟩) part
    (fun t => (t.outputs.get 1).binding = ⟨true, 50, 3, 20, 1000, 500⟩ ∧ (t.outputs.get 1).active = false) = true := by
  decide +kernel
theorem test_writeStations :
    gives (.writeStations ⟨1, [0, 0, 0, 14] ++ bytesOfWords [100, 600, 1100, 1600, 2100, 2101, 2102]⟩) part
      (fun t => (t.track 0).stationsSet = true ∧ (t.track 0).stations = nums 7 [100, 600, 1100, 1600, 2100, 2101, 2102]) =
      true ∧
    gives (.writeStations ⟨1, [0, 0, 0, 14] ++ bytesOfWords [99, 600, 1100, 1600, 2100, 2101, 2102]⟩) part
      (fun t => replied t = [4, 12, 1, 3, 2, 4, 0, 0, 0]) = true := by decide +kernel
theorem test_writeCoverage : gives (.writeCoverage ⟨1, [0, 0, 0, 10] ++ bytesOfWords [200, 1, 200, 500, 7]⟩) part
    (fun t => (t.track 0).bankA.repeatLength = 200 ∧ (t.track 0).bankA.runs.get 0 = ⟨200, 500, some 6⟩) = true := by
  decide +kernel
theorem test_writeProfile : gives (.writeProfile ⟨1, [1, 1, 220, 2, 0, 31]⟩) part
    (fun t => (t.profiles.get 0).bankQ.fields.dampShift = 31) = true := by decide +kernel
theorem test_writeLoop : gives (.writeLoop ⟨1, [0, 0, 0, 6] ++ bytesOfWords [40, 8, 2000]⟩) part
    (fun t => (t.loops.get 0).kp = 40 ∧ (t.loops.get 0).ki = 8 ∧ (t.loops.get 0).iLimit = 2000) = true ∧
    gives (.writeLoop ⟨1, [11, 0, 2, 2, 0, 4]⟩) part (fun t => (t.finishing.get 3).ki = 4) = true := by decide +kernel
theorem test_writeWebParam : gives (.writeWebParam ⟨1, [2, 0, 22, 2, 3, 32]⟩) part
    (fun t => (t.params 2).chillMin = 800) = true ∧
    gives (.writeWebParam ⟨1, [2, 0, 6, 4, 2, 88, 2, 88]⟩) part
      (fun t => replied t = [4, 12, 1, 3, 2, 4, 0, 0, 0]) = true := by decide +kernel
theorem test_writeProtection : gives (.writeProtection ⟨1, [1, 0, 4, 4, 0, 0, 0, 0]⟩) part
    (fun t => (t.outputs.get 1).protection.items = [some 0, none, some 0]) = true := by decide +kernel
theorem test_writeRampMemory : gives (.writeRampMemory ⟨1, [0, 3, 255, 1, 255, 255]⟩) part
    (fun t => t.ramp.memory = [(1023, 65535)]) = true ∧
    gives (.writeRampMemory ⟨1, [0, 3, 255, 2, 0, 1, 0, 1]⟩) part (fun t => t.ramp.memory = []) = true := by
  decide +kernel
theorem test_writeRampDescriptor : gives (.writeRampDescriptor ⟨1, [2, 0, 0, 4, 0, 1, 0, 100]⟩) part
    (fun t => (t.ramp.slots.get 2).desc.base = some 100 ∧
      (t.ring.ringOut.items.take 9).map BitVec.toNat = [4, 12, 1, 5, 2, 4, 0, 0, 1]) = true ∧
    gives (.writeRampDescriptor ⟨1, [2, 0, 12, 16] ++ bytesOfWords [1, 0, 1, 2, 65535, 65535, 65535, 65535]⟩) part
      (fun t => (t.ramp.slots.get 2).desc = RampDescriptor.reset ∧ replied t = [4, 12, 1, 3, 2, 4, 0, 0, 0]) = true := by
  decide +kernel
theorem test_target_list_written :
    gives (.writeRampDescriptor ⟨1, [2, 0, 14, 16] ++ bytesOfWords [0, 1, 2, 3, 65535, 65535, 65535, 65535]⟩) part
      (fun t => (t.ramp.slots.get 2).desc = { RampDescriptor.reset with
        targets := some [.zoneSp 0 0, .zoneSp 0 1, .zoneSp 0 2, .zoneSp 0 3] }) = true ∧
    gives (.writeRampDescriptor ⟨1, [2, 0, 14, 16] ++ bytesOfWords [0, 1, 2, 3, 4, 5, 6, 23]⟩) part
      (fun t => (t.ramp.slots.get 2).desc.targets.map List.length = some 8) = true ∧
    gives (.writeRampDescriptor ⟨1, [2, 0, 14, 16] ++ bytesOfWords (List.replicate 8 65535)⟩) part
      (fun t => replied t = [4, 12, 1, 3, 2, 2, 0, 0, 0]) = true ∧
    gives (.writeRampDescriptor ⟨1, [2, 0, 12, 2] ++ bytesOfWords [0]⟩) part
      (fun t => replied t = [4, 12, 1, 3, 2, 4, 0, 0, 0]) = true := by decide +kernel

/-- A descriptor complete but for its list, in mode ONE with N 7. -/
def eightTargets : RampDescriptor :=
  { RampDescriptor.reset with
    base := some 0, mode := some .one, transfer := some .step, n := some 7, reload := some 9, tick := some .ms10
    trigger := some .console, endAction := some .hold, rearm := some false }

/-- A program of eight targets is completed by a WRITE of the list (R151). -/
theorem test_eight_targets_loaded :
    gives (.writeRampDescriptor ⟨1, [2, 0, 14, 16] ++ bytesOfWords [0, 1, 2, 3, 4, 5, 6, 23]⟩)
      { part with ramp := { part.ramp with slots := part.ramp.slots.set 2 { part.ramp.slots.get 2 with
          desc := eightTargets } } } (fun t =>
      (t.ramp.slots.get 2).state = .loaded ∧ replied t = [4, 12, 1, 3, 2, 0, 0, 0, 0]) = true := by decide +kernel

/-! ## Web tracking (section 1.11) -/

def seg (q h l ld : Nat) (m : Option Marker := none) : Segment := ⟨BitVec.ofNat 16 q, BitVec.ofNat 32 h, l, ld, m⟩

def workedBanks : CoverageBank × CoverageBank :=
  ({ CoverageBank.reset with
      repeatLength := 1000, runCount := 2, state := .valid
      runs := (CoverageBank.reset.runs.set 0 ⟨600, 1800, none⟩).set 1 ⟨400, 600, none⟩ },
    { CoverageBank.reset with
      repeatLength := 1200, runCount := 2, state := .active
      runs := (CoverageBank.reset.runs.set 0 ⟨700, 1500, none⟩).set 1 ⟨500, 0, none⟩ })

def workedTrack : TrackWeb :=
  { TrackWeb.reset with
    stations := nums 7 [400, 1000, 1600, 2200, 2800, 3200, 3800], mask := 0b1010000, stationsSet := true
    bankA := workedBanks.1, bankB := workedBanks.2, cursorRun := 1, cursorLeft := 300, path := 50000
    encRef := some 1000, seqCounter := 41
    queue := [seg 32 45650 600 1800, seg 33 46250 400 600, seg 34 46650 600 1800, seg 35 47250 400 600,
      seg 36 47650 250 1800, seg 37 47900 700 1500 (some ⟨.jobcut, .request, 3, true⟩), seg 38 48600 500 0,
      seg 39 49100 700 1500, seg 40 49800 200 0] }

def workedState : State :=
  withJob 0 (some .q) (withTrack 0 workedTrack (withWeb 0
    { WebControl.reset with mode := .run, params := { WebParams.reset with maxJump := 1000, washLoad := 100 } }
    (withRecord 15 true [0, 1700, 5000] (ringUp part))))

theorem test_advance_across_stations : gives (.advance 0) workedState (fun t =>
    (t.track 0).path = 50700 ∧ (t.track 0).cursorRun = 0 ∧ (t.track 0).cursorLeft = 300 ∧ (t.track 0).seqCounter = 42 ∧
      (t.track 0).encRef = some 1700 ∧
      (t.track 0).queue.getLast? = some (seg 41 50300 400 1500) ∧
      (t.track 0).queue.find? (fun x => x.marker.isSome) =
        some (seg 37 47900 700 1500 (some ⟨.jobcut, .request, 5, true⟩)) ∧
      t.signals.filter (fun c => match c with | .trigger _ _ => false | _ => true) =
        [.zoneSwitchSignal 0 3 .q 37, .damperSwitchSignal 0 .q 37,
          .noticeRaised (.markerPassed 0 .jobcut 4 37)]) = true := by decide +kernel

theorem test_advance_gap : gives (.advance 0) (withRecord 15 true [0, 900] workedState) (fun t =>
    t.signals = [.noticeRaised (.trackGap 0 (-100))] ∧ (t.track 0).path = 50000 ∧ (t.track 0).encRef = some 900) = true := by
  decide +kernel

/-- An advance on an empty queue leaves it empty (R13). -/
theorem test_advance_before_tracking_start :
    gives (.advance 0) (withTrack 0 { workedTrack with queue := [] } workedState) (fun t =>
      (t.track 0).queue = [] ∧ (t.track 0).path = 50700 ∧ (t.track 0).seqCounter = 41) = true := by decide +kernel

theorem test_trackingStart : gives (.trackingStart 0)
    (withTrack 0 { TrackWeb.reset with bankA := workedBanks.1, path := 7 } part) (fun t =>
      (t.track 0).bankA.state = .active ∧ (t.track 0).queue = [seg 0 7 0 1800] ∧ (t.track 0).cursorLeft = 600) = true := by
  decide +kernel

theorem test_queueEmptying : gives (.queueEmptying 0) workedState (fun t =>
    (t.track 0).queue = [] ∧ (t.track 0).path = 50000 ∧ t.tracker.jobs.get 0 = none ∧
      t.signals = [.completionSignal 0 .q]) = true := by decide +kernel

/-- The switch of a lead-web marker ends at the emptying though another web leads by then; that of another marker stays
(R18, R24, R67). -/
theorem test_queueEmptying_lead_rewritten :
    gives (.queueEmptying 0) (withMonitor 0
        { Monitor.reset with params := { HousingParams.reset with lead := .second } } workedState) (fun t =>
      t.tracker.jobs.get 0 = none ∧ t.signals = [.completionSignal 0 .q]) = true ∧
    gives (.queueEmptying 0) (withTrack 0 { workedTrack with
        queue := [seg 37 47900 700 1500 (some ⟨.jobcut, .request, 3, false⟩)] } workedState) (fun t =>
      (t.track 0).queue = [] ∧ t.tracker.jobs.get 0 = some .q ∧ t.signals = []) = true := by decide +kernel

theorem test_mark_wash : gives (.mark ⟨1, [0, 2]⟩) workedState (fun t =>
    (t.track 0).queue.getLast? = some (seg 41 50000 0 100 (some ⟨.wash, .request, 0, false⟩)) ∧
      replied t = [4, 12, 1, 3, 7, 0, 0, 0, 0]) = true := by decide +kernel

theorem test_mark_jobcut_busy : gives (.mark ⟨1, [0, 1]⟩) workedState (fun t =>
    replied t = [4, 12, 1, 3, 7, 1, 0, 0, 0]) = true := by decide +kernel

theorem test_validateCoverage : gives (.validateCoverage ⟨1, [0]⟩)
    (withTrack 0 { TrackWeb.reset with bankA := { workedBanks.1 with state := .invalid } } part)
    (fun t => (t.track 0).bankA.state = .valid) = true ∧
    gives (.validateCoverage ⟨1, [0]⟩) part (fun t => replied t = [4, 12, 1, 3, 3, 4, 0, 0, 0]) = true := by decide +kernel

/-! ## Modes (chapter 2) -/

def soundParams : WebParams :=
  { WebParams.reset with width := 1000, grammage := 60, vMove := 50, vRun := 2000, hysteresis := 200, maxJump := 1000 }

def enabled (ch : Fin 32) (s : State) : State :=
  withInput ch { s.inputs.get ch with sub := { Subscription.reset with enabled := true, node := 41, maxAge := 1000 } } s

/-- Web W0 ready for WEB_ENABLE in a dark housing with bank P VALID. -/
def ready : State :=
  withProfiles 0 { ProfileHousing.reset with bankP := ⟨Profile.reset, .valid⟩ } (enabled 15 (enabled 16
    (withTrack 0 { TrackWeb.reset with stationsSet := true, bankA := workedBanks.1 } (withWeb 0
      { WebControl.reset with params := soundParams } (withMonitor 0
        { Monitor.reset with params := { HousingParams.reset with lelClear := 250, lelLimit := 300, lelTrip := 400 } }
        (ringUp part))))))

theorem test_webEnable : gives (.webEnable ⟨1, [0]⟩) ready (fun t =>
    t.mode 0 = .standby ∧ t.zoneBank 0 2 = some .p ∧ (t.profiles.get 0).bankP.state = .inUse ∧
      t.signals.head? = some (.noticeRaised (.modeChange 0 .idle .standby)) ∧
      t.signals.drop 9 = [.trackingStart 0, .activitySignal 0]) = true ∧
    gives (.webEnable ⟨1, [1]⟩) ready (fun t => replied t = [4, 12, 1, 3, 4, 3, 0, 0, 0]) = true := by decide +kernel

theorem test_encSpeed : gives (.encSpeed 0) (withRecord 16 true [0, 0, 0, 0] (withRecord 15 true [0, 0, 5000]
    (withMode 0 .standby ready))) (fun t => t.mode 0 = .run ∧ (t.webs.get 0).v = 5000) = true ∧
    gives (.encSpeed 0) (withRecord 15 true [0, 0, 5000] (withMode 0 .standby ready)) (fun t =>
      t.mode 0 = .brk ∧ (t.webs.get 0).causes = 16) = true := by decide +kernel

theorem test_brkSample : gives (.brkSample 1) (withRecord 21 true [0, 0, 1, 0] (withMode 1 .run part)) (fun t =>
    t.mode 1 = .brk ∧ (t.webs.get 1).causes = 4 ∧ t.signals.head? = some (.queueEmptying 1) ∧
      t.signals.getLast? = some (.noticeRaised (.brk 1 4))) = true := by decide +kernel

theorem test_stale_inputs : gives (.brkStaleSignal 0) (withMode 0 .crawl part) (fun t => t.mode 0 = .brk) = true ∧
    gives (.brkStaleSignal 0) (withMode 0 .standby part) (fun t => t.mode 0 = .standby) = true ∧
    gives (.encStaleSignal 0) (withMode 0 .run part) (fun t => t.mode 0 = .run) = true := by decide +kernel

theorem test_clearBreak : gives (.clearBreak ⟨1, [0]⟩) (withMode 0 .brk (ringUp part)) (fun t => t.mode 0 = .standby ∧
    .holderRelease 18 (.web 0) ∈ t.signals) = true := by decide +kernel

theorem test_webDisable : gives (.webDisable ⟨1, [0]⟩) (withMode 0 .run (ringUp part)) (fun t => t.mode 0 = .idle ∧
    .housingDarkSignal 0 ∈ t.signals) = true := by decide +kernel

theorem test_speedPlan : gives (.speedPlan ⟨1, [0, 78, 32, 0, 5]⟩) (withMode 0 .standby (ringUp part)) (fun t =>
    (t.webs.get 0).plan = some ⟨20000, 10⟩ ∧ replied t = [4, 12, 1, 3, 6, 0, 1, 0, 0]) = true := by decide +kernel

/-! ## Intake (sections 3.9 to 3.11) -/

def airSub : Subscription :=
  { Subscription.reset with
    enabled := true, node := 41, setId := 3, laneMap := nums 8 [2], offset := -5, scale := 1, maxAge := 1500 }

theorem test_intakeSample : gives (.intakeSample 1 ⟨41, 3, 3, 0xFF, ⟨[0, 0, 1437, 0, 0, 0, 0, 0], rfl⟩⟩)
    (withInput 1 ⟨airSub, InputRecord.reset⟩ part) (fun t =>
      (t.record 1).lane0 = some 2864 ∧ t.signals =
        [.noticeRaised (.inputRestored 1 1), .fullUpdate 0 1, .zairTripCheck 0 1]) = true := by decide +kernel

theorem test_ageTimerExpiry : gives (.ageTimerExpiry 4)
    (atTime 1500 (withInput 4 ⟨airSub, ⟨true, lanesOf [212], 0, true⟩⟩ part)) (fun t =>
      (t.record 4).fresh = false ∧ t.signals = [.noticeRaised (.inputStale 4 1), .lelStale 0]) = true := by decide +kernel

/-! ## Profiles (sections 4.6 and 4.7) -/

def workedGrid : List (List Nat) :=
  [[2400, 2350, 2420], [2480, 2520, 2600], [2560, 2660, 2780], [2560, 2800, 2960], [2640, 2880, 3040]]

def workedProfile : Profile :=
  { Profile.reset with
    n := 5, speeds := nums 8 [0, 4000, 8000, 12000, 16000], m := 3, loads := nums 6 [0, 1000, 2000]
    grid := Tab.ofFn fun k =>
      if k.val % 4 = 1 then (workedGrid.getD (k.val / 24) []).getD (k.val / 4 % 6) 0 else 0
    share := nums 4 [40, 77, 77, 50], kEvap := nums 4 [0, 250, 0, 0], bWeb := nums 4 [0, 120, 0, 0]
    fanRun := nums 4 [0, 7200, 0, 0] }

theorem test_interpolate : interpolate workedProfile 1 13600 1320 = 2881 ∧ interpolate workedProfile 1 20000 2000 = 3040 ∧
    interpolate workedProfile 1 0 0 = 2400 := by decide +kernel

theorem test_validateProfile : gives (.validateProfile ⟨1, [1]⟩)
    (withProfiles 0 { ProfileHousing.reset with bankQ := ⟨workedProfile, .invalid⟩ } part)
    (fun t => (t.profiles.get 0).bankQ.state = .valid) = true ∧
    gives (.validateProfile ⟨1, [0]⟩) part (fun t =>
      (t.ring.ringOut.items.take 9).map BitVec.toNat = [4, 12, 1, 4, 3, 4, 0, 1, 0]) = true := by decide +kernel

/-- Housing H0 switching from P to Q. -/
def switching : ProfileHousing :=
  { lit .p Profile.reset with bankQ := ⟨workedProfile, .valid⟩, switch := some .q }

theorem test_zoneSwitchSignal : gives (.zoneSwitchSignal 0 0 .q 37) (withProfiles 0 switching part) (fun t =>
    t.zoneBank 0 0 = some .q ∧ t.zoneBank 0 1 = some .p ∧ (t.profiles.get 0).bankQ.state = .inUse ∧
      t.signals = [.noticeRaised (.profileSwitched (.zone 0 0) .q (.marker 37))]) = true := by decide +kernel

theorem test_damperSwitchSignal : gives (.damperSwitchSignal 0 .q 37) (withProfiles 0 switching part) (fun t =>
    t.damperBank 0 = some .q ∧ t.damperBank 1 = some .q ∧ (t.profiles.get 0).switch = some .q) = true := by decide +kernel

theorem test_chillSwitchSignal : gives (.chillSwitchSignal 0 .q 37)
    (withProfiles 0 { switching with zones := Tab.replicate 4 (some .q), dampers := Tab.replicate 2 (some .q) } part)
    (fun t => t.chillBank 1 = some .q ∧ (t.profiles.get 0).switch = none ∧ (t.profiles.get 0).bankP.state = .valid ∧
      .noticeRaised (.bankFree 0 .p .switch) ∈ t.signals) = true := by decide +kernel

theorem test_completionSignal : gives (.completionSignal 0 .q) (withProfiles 0 switching part) (fun t =>
    (t.profiles.get 0).indicators = List.replicate 8 (some .q) ∧ t.signals.length = 9) = true := by decide +kernel

theorem test_housingDarkSignal : gives (.housingDarkSignal 0) (withProfiles 0 switching part) (fun t =>
    (t.profiles.get 0).indicators = List.replicate 8 none ∧ t.signals = [.noticeRaised (.bankFree 0 .p .dark)]) = true := by
  decide +kernel

/-! ## Zone loops (sections 5.11 and 5.12) -/

def zoneTrack (q : List Segment) : TrackWeb :=
  { TrackWeb.reset with
    stations := nums 7 [500, 3000, 5500, 8500, 11000, 12000, 13000], stationsSet := true, path := 20000, queue := q }

def running (v : Nat) : WebControl :=
  { WebControl.reset with
    mode := .run, v := v, plan := some ⟨14000, 400⟩, params := { WebParams.reset with width := 1000, trimRun := .one } }

def workedLoop : ZoneLoop := { ZoneLoop.reset with kp := 40, ki := 8, iLimit := 2000, iAcc := 1228800, heat := 5852 }

def workedZone : State :=
  { withTrack 0 (zoneTrack [seg 1 14500 1500 1800, seg 2 16000 1000 600, seg 3 17000 3000 0])
      (withTrack 1 (zoneTrack [seg 1 14500 2500 900, seg 3 17000 3000 0]) (withWeb 0 (running 12000)
        (withWeb 1 (running 12000) (withRecord 1 true [2864] (withRecord 15 true [0, 0, 0] (withProfiles 0
          (lit .q workedProfile) (withMonitor 0
            { Monitor.reset with params := { HousingParams.reset with tLead := 4 } } part))))))) with
    loops := part.loops.set 1 workedLoop }

theorem test_averages : avgLoad workedZone 0 1 = 1320 ∧ avgLoad workedZone 1 1 = 900 ∧ workedZone.demandSpeed 0 = 13600 ∧
    solventRate workedZone 0 1 = 17952 ∧ solventRate workedZone 1 1 = 12240 := by decide +kernel

/-- Error, proportional term, accumulator, trim, feedforward, HEAT and FAN of loop (H0, Z1). -/
def loopFigures (s : State) : List Int :=
  let l := s.loops.get 1
  [l.lastE, l.lastP, l.iAcc, l.lastTrim, l.ff, l.heat, l.fan]

theorem test_fullUpdate : gives (.fullUpdate 0 1) workedZone (fun t =>
    loopFigures t = [17, 42, 1228936, 342, 5534, 5876, 7200] ∧ (t.loops.get 1).setPoint = 2881 ∧
      t.signals = [.scheduleValue 1 [5876], .scheduleValue 5 [7200]]) = true := by decide +kernel

/-- The loop after the full update, with W0 at 12400 mm/s. -/
def afterUpdate (acc : Int) (p : Int) : State :=
  { withWeb 0 (running 12400) workedZone with
    loops := part.loops.set 1 { workedLoop with lastE := 17, lastP := p, iAcc := acc, lastTrim := p + acc / 4096, heat := 5876 } }

theorem test_feedforwardRefresh : gives (.feedforwardRefresh 0 1) (afterUpdate 1228936 42)
    (fun t => loopFigures t = [17, 42, 1228936, 342, 5622, 5964, 7200]) = true := by decide +kernel
theorem test_zoneRampSignal : gives (.zoneRampSignal 0 ⟨1, none, none⟩) (afterUpdate 1228936 42)
      (fun t => loopFigures t = [17, 42, 1228936, 342, 5622, 5964, 7200]) = true ∧
    gives (.zoneRampSignal 0 ⟨1, some 3040, some 9000⟩) (afterUpdate 1228936 42)
      (fun t => loopFigures t = [17, 42, 1228936, 342, 5622, 5964, 9000] ∧ (t.loops.get 1).setPoint = 3040 ∧
        (t.loops.get 1).source = .ramp ∧ t.ramp = part.ramp) = true := by decide +kernel
theorem test_operatorReturn : gives (.operatorReturn 0 1 6500) (afterUpdate 1228936 42)
    (fun t => loopFigures t = [17, 42, 3424256, 878, 5622, 6500, 7200]) = true := by decide +kernel
theorem test_zairStale : gives (.zairStale 0 1) (afterUpdate 3424336 25)
    (fun t => loopFigures t = [17, 0, 3424336, 836, 5622, 6458, 7200]) = true := by decide +kernel
theorem test_protectiveReturn : gives (.protectiveReturn 0 1 .limit) (afterUpdate 3424336 25)
    (fun t => loopFigures t = [17, 0, 0, 0, 5622, 5622, 7200]) = true := by decide +kernel

/-! ## Finishing (sections 6.8 and 6.9) -/

def damperProfile : Profile :=
  { Profile.reset with
    dampBase := 5000, dampMin := 3000, dampMax := 7000, dampDeadband := 12, dampShift := 3, dryTarget := 2160
    dryWindow := 32, chillTarget := 448, chillWindow := 48, shareA := 128, kc := 4085 }

def chillWeb (m : Mode) (v : Nat) : WebControl :=
  { WebControl.reset with
    mode := m, v := v
    params := { WebParams.reset with width := 1000, grammage := 60, chillMin := 800, trimRun := .one, trimCrawl := .half } }

def finishingState (f : Finishing) (c : WebControl) : State :=
  { withWeb 2 c (withInput 22 { InputChannel.reset with record :=
        ⟨true, ⟨[some 2086, some 2106, none, some 2160, some 2166, some 2128, some 2112, some 2096], rfl⟩, 0, true⟩ }
      (withProfiles 1 (lit .p damperProfile) part)) with
    finishing := part.finishing.set 2 f }

theorem test_dexitArrival : gives (.dexitArrival 2)
    (finishingState { Finishing.reset with runSeen := true, dampers := nums 8 [5010, 4990, 5200, 5000, 4980, 5000, 5090, 5000] }
      (chillWeb .run 0)) (fun t =>
      (t.finishing.get 2).dampers.items = [5005, 4982, 5200, 4986, 4965, 4990, 5080, 4994] ∧
        .noticeRaised (.outOfWindow (.dry 2) 2122 2128) ∈ t.signals) = true := by decide +kernel

/-- Web W2 at the figures of section 6.9. -/
def chillState (c : WebControl) : State :=
  withRecord 22 true (List.replicate 8 2080) (withRecord 23 true (List.replicate 8 470)
    (finishingState { Finishing.reset with kp := 64, ki := 4, iLimit := 2000, iAcc := 204800, chillB := 3050, lastTrim := 138,
                                           lastP := 88 } c))

def chillFigures (s : State) : List Int :=
  let f := s.finishing.get 2
  [f.ff, f.lastP, f.iAcc, f.lastTrim, f.chillA, f.chillB]

theorem test_cexitArrival : gives (.cexitArrival 2) (chillState (chillWeb .run 15000))
    (fun t => chillFigures t = [6000, 88, 204888, 138, 3000, 3138]) = true := by decide +kernel
theorem test_finishingEncArrival : gives (.finishingEncArrival 2) (chillState (chillWeb .run 6000))
    (fun t => chillFigures t = [2400, 88, 204800, 138, 1200, 1338]) = true ∧
    gives (.finishingEncArrival 2) (chillState (chillWeb .crawl 1500))
      (fun t => chillFigures t = [600, 88, 204800, 138, 800, 800]) = true ∧
    gives (.finishingEncArrival 2) (chillState (chillWeb .brk 0))
      (fun t => chillFigures t = [0, 0, 0, 0, 800, 800]) = true := by decide +kernel
theorem test_cwretArrival : gives (.cwretArrival 2) (withMonitor 1
      { Monitor.reset with params := { HousingParams.reset with returnLimit := 300 } }
      (withRecord 24 true [301, 300] (chillState (chillWeb .standby 0))))
    (fun t => t.signals = [.noticeRaised (.outOfWindow (.waterReturn 2 .a) 301 300)]) = true := by decide +kernel
theorem test_stale_exits : gives (.dexitStale 2) (chillState (chillWeb .run 6000))
    (fun t => chillFigures t = [2400, 88, 204800, 138, 1200, 1338]) = true ∧
    gives (.cexitStale 2) (withRecord 23 false (List.replicate 8 470) (chillState (chillWeb .run 6000)))
      (fun t => chillFigures t = [2400, 0, 204800, 50, 1200, 1250]) = true := by decide +kernel
theorem test_ramp_signals : gives (.dampBaseRampSignal ⟨2, none⟩) (chillState (chillWeb .standby 0))
      (fun t => t.signals = [.scheduleValue 20 (List.replicate 8 5000)]) = true ∧
    gives (.dampBaseRampSignal ⟨2, some 6000⟩) (chillState (chillWeb .standby 0))
      (fun t => t.signals = [.scheduleValue 20 (List.replicate 8 6000)]) = true ∧
    gives (.chillTargetRampSignal ⟨2, some 500⟩) (chillState (chillWeb .standby 0))
      (fun t => (t.finishing.get 2).target = 500 ∧ (t.finishing.get 2).targetSource = .ramp ∧
        t.signals = [.scheduleValue 26 [800], .scheduleValue 27 [800]]) = true := by decide +kernel

/-! ## Solvent and protection (sections 7.9 and 7.10) -/

def workedHousing : HousingParams :=
  { HousingParams.reset with
    lelTarget := 180, lelClear := 250, lelLimit := 300, lelTrip := 400, zoneTrip := 4000, exhTrip := 4000
    purgeDwell := 60, eBase := 1500, kExh := 120, kLel := 40 }

def monitored (lel : Int) (m : Monitor) : State :=
  withMonitor 0 { m with params := workedHousing } (withRecord 4 true [lel] (withWeb 0 { running 13600 with plan := none }
    (withWeb 1 { running 13600 with plan := none } (withTrack 0 (zoneTrack [seg 1 9000 2500 700, seg 1 11500 3000 1000,
      seg 1 14500 2500 1320, seg 1 17000 2500 1103, seg 3 19500 500 0]) (withTrack 1 (zoneTrack [seg 1 9000 10500 900])
        workedZone)))))

theorem test_lelArrival : gives (.lelArrival 0) (monitored 212 Monitor.reset) (fun t =>
      (t.monitors.get 0).exhaust = ⟨25359, some 212, 80, 4623⟩ ∧ t.signals = [.scheduleValue 8 [4623]]) = true ∧
    gives (.lelArrival 0) (monitored 410 { Monitor.reset with limitOn := true }) (fun t =>
      (t.monitors.get 0).latch = true ∧ (t.monitors.get 0).causes = 1 ∧ .claim 8 (.cause .lelHigh) [] ∈ t.signals ∧
        .noticeRaised (.trip 0 1 (some 410)) ∈ t.signals) = true := by decide +kernel
theorem test_monitorEncArrival : gives (.monitorEncArrival 0) (monitored 212 Monitor.reset)
    (fun t => t.signals = [.scheduleValue 8 [4623]]) = true := by decide +kernel
theorem test_zairTripCheck : gives (.zairTripCheck 0 1) (withRecord 1 true [4000] (monitored 0 Monitor.reset))
    (fun t => (t.monitors.get 0).causes = 4) = true ∧
    gives (.zairTripCheck 0 1) (withRecord 1 true [3999] (monitored 0 Monitor.reset))
      (fun t => (t.monitors.get 0).latch = false) = true := by decide +kernel
theorem test_exhtArrival : gives (.exhtArrival 0) (withRecord 5 true [4001] (monitored 0 Monitor.reset))
    (fun t => (t.monitors.get 0).causes = 32) = true := by decide +kernel
theorem test_lelStale : gives (.lelStale 0) (monitored 0 Monitor.reset)
    (fun t => t.signals.head? = some (.noticeRaised (.trip 0 64 none))) = true := by decide +kernel
theorem test_clearTrip : gives (.clearTrip ⟨7, [0]⟩) (ringUp (monitored 415 { Monitor.reset with latch := true, causes := 1 }))
    (fun t => (t.ring.ringOut.items.take 9).map BitVec.toNat = [4, 12, 7, 4, 9, 3, 0, 3, 0]) = true ∧
    gives (.clearTrip ⟨7, [0]⟩) (ringUp (monitored 240 { Monitor.reset with latch := true, causes := 1 })) (fun t =>
      (t.monitors.get 0).latch = false ∧ t.signals.getLast? = some (.noticeRaised (.tripCleared 0 1)) ∧
        t.signals.length = 10) = true := by decide +kernel
theorem test_purge : gives (.purgeClaimSignal 0) (atTime 100000 (monitored 0 Monitor.reset))
      (fun t => (t.monitors.get 0).purge = some 160000) = true ∧
    gives (.purgeTimerExpiry 0) (atTime 160000 (monitored 0 { Monitor.reset with purge := some 160000 }))
      (fun t => (t.monitors.get 0).purge = none ∧ t.signals = [.dwellEnd 0]) = true := by decide +kernel

/-! ## Authority (section 8.8) -/

def heatChannel : OutputChannel :=
  { OutputChannel.reset 1 with
    binding := ⟨true, 50, 3, 20, 1000, 500⟩, active := true, schedule := [5876], originValue := [5876] }

def authority (o : OutputChannel) : State :=
  withMonitor 0 { Monitor.reset with params := workedHousing } (withOutput 1 o (withEmission 1 ⟨some [5876], none, false⟩
    (ringUp part)))

def operatorEntry (v : Nat) : Entry := ⟨1, .stored, [v], 201000, false⟩

def underOperator : OutputChannel :=
  { heatChannel with entries := heatChannel.entries.set 0 (some (operatorEntry 6500)), originTime := 201000 }

def underBreak (holders : BitVec 8) (pending : Bool) : OutputChannel :=
  { underOperator with entries := underOperator.entries.set 2 (some ⟨holders, .park, [0], 205000, pending⟩), originTime := 205000, originValue := [0] }

theorem test_overrideValue : gives (.overrideValue ⟨1, [1, 1, 0x19, 0x64]⟩) (atTime 201000 (authority heatChannel)) (fun t =>
      (t.outputs.get 1).target = [6500] ∧ (t.outputs.get 1).originTime = 201000 ∧
        (t.outputs.get 1).moveTimer = some 201040 ∧ (t.outputs.get 1).output 202000 = [6376] ∧
        replied t = [4, 12, 1, 4, 10, 0, 0, 1, 0]) = true ∧
    gives (.overrideValue ⟨1, [1, 1, 0x1B, 0x58]⟩) (atTime 215000 (authority (underBreak 3 false)))
      (fun t => replied t = [4, 12, 1, 4, 10, 6, 0, 3, 0] ∧ (t.outputs.get 1).target = [0]) = true := by decide +kernel
theorem test_claim : gives (.claim 1 (.web 1) []) (atTime 205000 (authority underOperator)) (fun t =>
      (t.outputs.get 1).top = .brk ∧ (t.outputs.get 1).output 205000 = [0] ∧
        t.signals = [.purgeClaimSignal 0, .topChange 1, .outputChange 1]) = true ∧
    gives (.claim 18 (.web 0) []) (authority heatChannel) (fun t => (t.outputs.get 18).dwell = some 60000) = true := by
  decide +kernel
theorem test_holderRelease : gives (.holderRelease 1 (.web 1)) (authority (underBreak 3 false))
      (fun t => (t.outputs.get 1).entries.get 2 = some ⟨1, .park, [0], 205000, false⟩) = true ∧
    gives (.holderRelease 1 (.web 0)) (withMonitor 0 { Monitor.reset with purge := some 270000 }
        (authority (underBreak 1 false)))
      (fun t => (t.outputs.get 1).entries.get 2 = some ⟨0, .park, [0], 205000, true⟩) = true := by decide +kernel
theorem test_dwellEnd : gives (.dwellEnd 0) (atTime 270000 (authority (underBreak 0 true))) (fun t =>
    (t.outputs.get 1).top = .operator ∧ (t.outputs.get 1).originTime = 270000 ∧ (t.outputs.get 1).originValue = [0] ∧
      t.signals = [.topChange 1]) = true := by decide +kernel
theorem test_release : gives (.release ⟨1, [1]⟩) (atTime 290000 (authority underOperator)) (fun t =>
    (t.outputs.get 1).returnHold = some 6500 ∧ t.signals = [.topChange 1, .operatorReturn 0 1 6500] ∧
      replied t = [4, 12, 1, 3, 11, 0, 0, 0, 0]) = true := by decide +kernel
theorem test_scheduleValue : gives (.scheduleValue 1 [7000]) (atTime 290000
      (authority { heatChannel with returnHold := some 7000, originValue := [7000], originTime := 290000 })) (fun t =>
    (t.outputs.get 1).returnHold = none ∧ (t.outputs.get 1).target = [7000] ∧ t.signals = []) = true := by decide +kernel
theorem test_dwellTimerExpiry : gives (.dwellTimerExpiry 18) (withOutput 18 { OutputChannel.reset 18 with
      dwell := some 0, entries := (OutputChannel.reset 18).entries.set 2 (some ⟨0, .held, List.replicate 8 0, 0, true⟩) } part)
    (fun t => (t.outputs.get 18).top = .schedule ∧ (t.outputs.get 18).dwell = none) = true := by decide +kernel
theorem test_activitySignal : gives (.activitySignal 0) (withMode 0 .standby
      (authority { heatChannel with active := false })) (fun t => (t.outputs.get 1).active = true ∧
        t.signals = [.channelActive 1]) = true := by decide +kernel
theorem test_movementTimerExpiry : gives (.movementTimerExpiry 1) (atTime 201040
      (authority { underOperator with moveTimer := some 201040 })) (fun t => t.signals = [.outputChange 1]) = true := by
  decide +kernel

/-! ## Emission (section 10.4) -/

theorem test_joining : gives (.channelActive 1) (authority heatChannel) (fun t => (t.emission.records.get 1).pending) = true ∧
    gives (.topChange 1) (authority { heatChannel with active := false }) (fun t =>
      !(t.emission.records.get 1).pending) = true ∧
    gives (.outputChange 1) (atTime 201040 (authority underOperator)) (fun t => (t.emission.records.get 1).pending) = true ∧
    gives (.outputChange 1) (atTime 201039 (authority underOperator)) (fun t =>
      !(t.emission.records.get 1).pending) = true := by decide +kernel
theorem test_channelInactive : gives (.channelInactive 1) (withEmission 1 ⟨some [7], some 9, true⟩ part)
    (fun t => t.emission.records.get 1 = ⟨some [7], none, false⟩) = true := by decide +kernel
theorem test_refreshTimerExpiry : gives (.refreshTimerExpiry 1)
    (withEmission 1 ⟨some [5876], some 0, false⟩ (withOutput 1 heatChannel part))
    (fun t => t.emission.records.get 1 = ⟨some [5876], none, true⟩) = true := by decide +kernel
theorem test_noticeRaised : gives (.noticeRaised (.brk 1 4)) { part with emission :=
      { part.emission with queue := [⟨.brk 1 1, 255, 3, false⟩, ⟨.limitOn 0 9, 1, 3, false⟩] } }
    (fun t => t.emission.queue = [⟨.brk 1 4, 255, 0, false⟩, ⟨.limitOn 0 9, 1, 3, false⟩]) = true := by decide +kernel
theorem test_noticeMask : gives (.noticeMask ⟨1, [255, 0, 1]⟩) part (fun t => t.emission.mask = 0x30001 ∧
    (t.ring.ringOut.items.take 11).map BitVec.toNat = [4, 12, 1, 6, 13, 0, 0, 3, 0, 1, 0]) = true := by decide +kernel
theorem test_vacantSlot_command : gives (.vacantSlot (frame [0]))
    (withEmission 1 ⟨none, none, true⟩ (withEmission 5 ⟨none, none, true⟩ (withOutput 1 (underBreak 1 false) (ringUp part))))
    (fun t => (t.ring.ringOut.items.take 8).map BitVec.toNat = [2, 50, 3, 4, 3, 1, 0, 0] ∧
      t.emission.records.get 1 = ⟨some [0], some 1000, false⟩ ∧ t.emission.pointers.get 3 = 1) = true := by decide +kernel

/-! ## Ramps (sections 9.12 and 9.13) -/

def warmUp (tr : Transfer) : RampDescriptor :=
  { base := some 100, mode := some .three, transfer := some tr
    targets := some [.zoneSp 0 0, .zoneSp 0 1, .zoneSp 0 2, .zoneSp 0 3], n := some 3, l := some 1, bk := some 2
    off1 := some (-3), off2 := some 1, reload := some 29, tick := some .s1, trigger := some (.on (.mode 0 .standby))
    endAction := some .hold, rearm := some false }

def stages : RampMemory := [(100, 1600), (101, 1600), (102, 1440), (103, 1280), (104, 2240)]

def ramped (st : SlotState) (p n l b : Nat) (tr : Transfer) : State :=
  { withSlot 2 ⟨warmUp tr, st, p, n, l, b, some 30000, none, 0⟩ (ringUp part) with
    ramp := { (withSlot 2 ⟨warmUp tr, st, p, n, l, b, some 30000, none, 0⟩ part).ramp with memory := stages } }

def slotFigures (s : State) : List Nat := let x := s.ramp.slots.get 2; [x.pointer, x.n, x.l, x.b]
def firstValues (s : State) : List (Option Nat) := (s.ramp.owners.items.take 4).map Ownership.value

theorem test_trigger : gives (.trigger 2 (.mode 0 .standby)) (ramped .armed 0 0 0 0 .line) (fun t =>
    slotFigures t = [100, 3, 0, 2] ∧ firstValues t = [some 1600, some 1600, some 1440, some 1280] ∧
      (t.ramp.slots.get 2).timer = some 30000 ∧ t.signals.length = 4) = true := by decide +kernel
theorem test_paceTimerExpiry : gives (.paceTimerExpiry 2) (atTime 30000 (ramped .running 100 3 0 2 .line)) (fun t =>
      slotFigures t = [104, 3, 1, 1] ∧ (t.ramp.slots.get 2).timer = some 60000) = true ∧
    gives (.paceTimerExpiry 2) (atTime 30000 (ramped .running 108 3 0 0 .line)) (fun t =>
      slotFigures t = [100, 3, 1, 2] ∧ (t.ramp.slots.get 2).state = .holding ∧ (t.ramp.slots.get 2).passes = 1 ∧
        .noticeRaised (.programDone 2 .hold 1) ∈ t.signals ∧ .trigger 5 (.chain 2) ∈ t.signals ∧
        .trigger 2 (.chain 2) ∉ t.signals) = true := by decide +kernel
/-- The last line of a pass that ends with RELEASE reaches its reader as a write, then as the return to profile (R157). -/
theorem test_release_after_last_write :
    let x : RampSlot := { desc := { warmUp .line with mode := some .one, targets := some [.zoneSp 0 0, .fan 0 0], n := some 1,
                                                       endAction := some .release }
                          state := .running, pointer := 100, n := 1, l := 0, b := 0, timer := some 30000, saved := none
                          passes := 0 }
    let s := atTime 30000 (withSlot 2 x part)
    gives (.paceTimerExpiry 2) { s with ramp := { s.ramp with
        memory := stages, owners := (s.ramp.owners.set 0 ⟨some 2, some 7⟩).set 8 ⟨some 2, some 8⟩ } } (fun t =>
      t.signals.take 4 = [.zoneRampSignal 0 ⟨0, some 1600, some 8⟩, .zoneRampSignal 0 ⟨0, some 1600, some 1600⟩,
        .zoneRampSignal 0 ⟨0, none, none⟩, .zoneRampSignal 0 ⟨0, none, none⟩] ∧
      t.ramp.owners = part.ramp.owners ∧ (t.ramp.slots.get 2).state = .loaded) = true := by decide +kernel
theorem test_start : gives (.start ⟨1, [2]⟩) (ramped .loaded 0 0 0 0 .step) (fun t =>
    slotFigures t = [101, 2, 1, 2] ∧ firstValues t = [some 1600, none, none, none] ∧
      (t.ramp.owners.get 3).owner = some 2) = true := by decide +kernel
theorem test_pause : gives (.pause ⟨1, [2]⟩) (ramped .running 102 1 1 2 .step) (fun t =>
      (t.ramp.slots.get 2).state = .pausing) = true ∧
    gives (.paceTimerExpiry 2) (atTime 30000 (ramped .pausing 103 0 1 2 .step)) (fun t =>
      (t.ramp.slots.get 2).state = .paused ∧ slotFigures t = [100, 3, 0, 2] ∧
        (t.ramp.slots.get 2).saved = some 30000) = true := by decide +kernel
theorem test_resume : gives (.resume ⟨1, [2]⟩) (atTime 200000 (withSlot 2
      ⟨warmUp .step, .paused, 100, 3, 0, 2, none, some 30000, 0⟩ (ringUp part)))
    (fun t => (t.ramp.slots.get 2).timer = some 230000 ∧ (t.ramp.slots.get 2).state = .running) = true := by decide +kernel
theorem test_stop : gives (.stop ⟨1, [2]⟩) (ramped .holding 100 3 1 2 .line) (fun t =>
    (t.ramp.slots.get 2).state = .loaded ∧ replied t = [4, 12, 1, 3, 12, 0, 0, 0, 0]) = true := by decide +kernel
theorem test_arm_disarm : gives (.arm ⟨1, [2]⟩) (ramped .loaded 0 0 0 0 .line) (fun t =>
      (t.ramp.slots.get 2).state = .armed) = true ∧
    gives (.disarm ⟨1, [2]⟩) (ramped .armed 0 0 0 0 .line) (fun t => (t.ramp.slots.get 2).state = .loaded) = true ∧
    gives (.disarm ⟨1, [2]⟩) (ramped .loaded 0 0 0 0 .line) (fun t =>
      replied t = [4, 12, 1, 3, 12, 3, 0, 0, 0]) = true := by decide +kernel
theorem test_breakStop : gives (.breakStop 2 1) (ramped .running 100 3 0 2 .line) (fun t =>
      (t.ramp.slots.get 2).state = .loaded) = true ∧
    gives (.breakStop 2 2) (ramped .running 100 3 0 2 .line) (fun t =>
      (t.ramp.slots.get 2).state = .running) = true := by decide +kernel

theorem test_restart : gives (.restart ⟨1, []⟩) (ramped .armed 0 0 0 0 .line) (fun t =>
      (t.ramp.slots.get 2).state = .loaded ∧ t.ramp.memory = stages ∧ replied t = [4, 12, 1, 3, 14, 0, 0, 0, 0]) = true ∧
    gives (.restart ⟨1, []⟩) (withMode 3 .standby part) (fun t => replied t = [4, 12, 1, 3, 14, 3, 0, 0, 0]) = true := by
  decide +kernel

/-! ## Witnesses: states and operands that meet the hypotheses of the statements, clause by clause -/

def held : State := { part with ring := { part.ring with resetHeld := true } }
def bypassed (node : Byte) : State := { part with ring := { part.ring with node := node } }
def timed (now : Nat) (expiry : Nat) (r : RingState) : State :=
  { atTime now part with ring := { part.ring with boundary := some (BitVec.ofNat 32 expiry), ring := r } }

theorem witness_StepRunsFrontCommand : ({ part with pending := [.ringDown, .advance 0] }).pending =
    .ringDown :: [.advance 0] := rfl

theorem witness_IdleStepOrder : part.pending = [] ∧
    (Released { part with signals := [.advance 0] } ∧ ({ part with signals := [.advance 0] }).signals = .advance 0 :: []) ∧
    (({ held with ringIn := [frame [0]] }).ring.resetHeld = true ∧
      ({ held with ringIn := [frame [0]] }).ringIn = frame [0] :: []) ∧
    (({ part with ringIn := [frame [0]] }).signals = [] ∧ ({ part with ringIn := [frame [0]] }).ringIn = frame [0] :: []) ∧
    (Released (timed 5 5 .up) ∧ (timed 5 5 .up).signals = [] ∧ (timed 5 5 .up).ringIn = [] ∧
      (dueExpiries (timed 5 5 .up)).head? = some .ringDown) ∧
    (part.signals = [] ∧ dueExpiries part = [] ∧ part.ringIn = []) ∧ (held.ring.resetHeld = true ∧ held.ringIn = []) := by
  decide +kernel

theorem witness_EveryCommandAnswers : ∀ straps, Instr.ringDown ≠ .powerOnReset straps := by simp

theorem witness_ResetPin : held.ring.resetHeld = true ∧ (∀ straps, Instr.ringDown ≠ .powerOnReset straps) ∧
    (∀ slot, Instr.ringDown ∉ [Instr.slotForward slot, .sampleSlot slot, .vacantSlot slot, .resetHeldActive slot]) := by
  refine ⟨rfl, by simp, by simp⟩

theorem witness_SlotForwarded : InService part ∧ goodSlot (frame [0]) = true ∧ goodSlot (slotOfBytes [0]) = false ∧
    goodSlot (frame [0, 0, 0, 25]) = false ∧ (bypassed 0).ring.node = 0 ∧ (bypassed 255).ring.node = 255 ∧
    InService (bypassed 1) ∧ InService (bypassed 254) := by decide +kernel

theorem witness_SampleSlotGiven : InService part ∧ goodSlot (frame [1, 1, 2, 24, 11]) = true ∧
    slotByte (frame [1, 1, 2, 24, 11]) 0 = 1 := by decide +kernel

/-- Channel 0 pending at the level of the entry placed at `i`. -/
def pendingUnder (i : Fin 4) (q : List NoticeEntry) (g : GrantKind) : State :=
  let s := withEntry 0 i ⟨1, .park, [0], 0, false⟩ (withEmission 0 ⟨none, none, true⟩ part)
  { s with emission := { s.emission with queue := q, previous := g } }

def pendingSchedule (q : List NoticeEntry) (g : GrantKind) : State :=
  let s := withEmission 29 ⟨none, none, true⟩ part
  { s with emission := { s.emission with queue := q, previous := g } }

def oneNotice : List NoticeEntry := [⟨.ringRestored 0, 1, 0, false⟩]

theorem served_by_scan {s : State} {l : Level} {ch : Fin 30} (hp : PendingAt s l ch)
    (hw : ∀ c, PendingAt s l c → wait (pointerOf s l) ch ≤ wait (pointerOf s l) c)
    (ht : ∀ c, l = .trip ∨ ¬ PendingAt s .trip c) (hb : ∀ c, l = .trip ∨ l = .brk ∨ ¬ PendingAt s .brk c)
    (hl : ∀ c, l = .trip ∨ l = .brk ∨ l = .limit ∨ ¬ PendingAt s .limit c)
    (ho : ∀ c, l ≠ .schedule ∨ ¬ PendingAt s .operator c) : FirstServed s l ch := by
  refine ⟨hp, hw, fun l' c h => ?_⟩
  have a := ht c; have b := hb c; have d := hl c; have e := ho c
  cases l <;> cases l' <;> simp_all [levelCode]

theorem witness_VacantSlotGranted : VacantOffered part (frame [0]) ∧
    FirstServed (pendingUnder 3 oneNotice .command) .trip 0 ∧ FirstServed (pendingUnder 2 oneNotice .command) .brk 0 ∧
    (FirstServed (pendingSchedule [] .command) .schedule 29 ∧ (pendingSchedule [] .command).emission.queue = []) ∧
    (FirstServed (pendingSchedule oneNotice .notice) .schedule 29 ∧
      (pendingSchedule oneNotice .notice).emission.previous = .notice) ∧
    (∀ ch, ¬ PendingAt (pendingSchedule oneNotice .command) .trip ch ∧
      ¬ PendingAt (pendingSchedule oneNotice .command) .brk ch) ∧
    (∀ ch, (part.emission.records.get ch).pending = false) ∧ part.emission.queue = [] := by
  refine ⟨by decide +kernel, ?_, ?_, ⟨?_, rfl⟩, ⟨?_, rfl⟩, by decide +kernel, by decide +kernel, rfl⟩ <;>
    exact served_by_scan (by decide +kernel) (by decide +kernel) (by decide +kernel) (by decide +kernel)
      (by decide +kernel) (by decide +kernel)

/-- A notice of each kind, with extreme values. -/
def eachNotice : List Notice :=
  [.modeChange 3 .idle .brk, .brk 2 31, .trackGap 1 (-32768), .markerPassed 0 (.note 6) 6 65535,
    .markerDropped 1 .wash .program, .inputStale 31 255, .inputRestored 0 1, .profileSwitched (.zone 1 3) .q (.marker 300),
    .profileSwitched (.damper 3) .p .discard, .profileSwitched (.chill 1) .q .discard, .bankFree 1 .q .dark,
    .bankFree 0 .p .switch, .limitOn 1 1000, .limitOff 0 256, .trip 1 127 none, .trip 0 64 (some (-1)), .tripCleared 1 127,
    .programDone 7 .repeatPass 65535, .programBlocked 6 (.dampBase 3) 5 3, .outOfWindow (.dry 3) (-32768) 32767,
    .windowRestored (.waterReturn 2 .b) (-300) 500, .outOfWindow (.waterReturn 1 .a) 1 2, .windowRestored (.chillExit 1) 0 0,
    .ringRestored 0x89ABCDEF]

theorem test_noticeView : ∀ n ∈ eachNotice, (noticeKind n).val = (noticeView n).kind ∧
    subjectClass n = (noticeView n).subjectClass ∧ subjectNumber n = (noticeView n).subject ∧
    noticeDetail n = (noticeView n).detail := by decide +kernel

theorem witness_RingTimerExpiry : Released (timed 5 5 .up) ∧ (timed 5 5 .up).ring.boundary = some 5 ∧
    ((5 : PartTime) - 5).toNat < 2 ^ 31 ∧ ((2147483652 : PartTime) - 5).toNat < 2 ^ 31 ∧
    2 ^ 31 ≤ ((2147483653 : PartTime) - 5).toNat ∧ 2 ^ 31 ≤ ((4 : PartTime) - 5).toNat ∧
    (timed 5 5 .down).ring.ring = .down ∧ part.ring.boundary = none := by decide +kernel

theorem witness_RequestRowsByCode : 10 < (11 : Byte).toNat ∧ 14 < (15 : Byte).toNat ∧ (5 : Byte) ≠ 3 ∧ (5 : Byte) ≠ 4 ∧
    5 < (6 : Byte).toNat ∧ held.ring.resetHeld = true ∧ InService part ∧
    (Released { part with ring := { part.ring with node := 255 } } ∧
      ¬ InService { part with ring := { part.ring with node := 255 } }) ∧
    (∀ k < 6, CheckGood (frame [BitVec.ofNat 8 k, 12, 1, 24]) ∧
      ((frame [BitVec.ofNat 8 k, 12, 1, 24]).get 0).toNat = k ∧ ((frame [BitVec.ofNat 8 k, 12, 1, 24]).get 3).toNat ≤ 24) ∧
    (¬ CheckGood (slotOfBytes [0]) ∧ ¬ ((frame [6]).get 0).toNat ≤ 5 ∧ ¬ ((frame [3, 12, 1, 25]).get 3).toNat ≤ 24) ∧
    ((frame [3, 12]).get 1 = part.ring.node ∧ (frame [3, 13]).get 1 ≠ part.ring.node) ∧
    (List.replicate 28 (255 : Byte)).length ≤ 28 := by decide +kernel

theorem witness_UnknownRequestTurnedAway : InService part ∧ (imageOf part 17 8).isSome = true ∧
    imageOf part 17 9 = none ∧ imageOf part 18 0 = none ∧ imageOf part 9 0 = none := by decide +kernel

theorem witness_ForeignIndexesAndSpansRefused : InService part ∧ 32 ≤ (32 : Byte).toNat ∧ (31 : Byte).toNat < 32 ∧
    (16 < (17 : Byte).toNat ∧ 2 * 14 < 26 + (4 : Byte).toNat ∧ [(0 : Byte)].length < (2 : Byte).toNat) ∧
    (1 ≤ (16 : Byte).toNat ∧ (16 : Byte).toNat ≤ (List.replicate 16 (0 : Byte)).length ∧ 11 + (16 : Byte).toNat ≤ 2 * 14 ∧
      11 % 2 = 1) ∧ ((27 : Nat) + (1 : Byte).toNat ≤ 2 * 14 ∧ (1 : Byte).toNat % 2 = 1) := by decide +kernel

theorem witness_ImagesReadAndStatusProtected : InService part ∧
    ((imageOf part 8 29).map List.length = some 6 ∧ 0 + 12 ≤ 2 * 6 ∧ 2 * 6 < 1 + 12) ∧ imageOf part 8 30 = none ∧
    (1008 + 8 ≤ 1024 ∧ 1024 < 1017 + 8) ∧
    ((imageOf part 13 31).map List.length = some 15 ∧ 29 + (1 : Byte).toNat ≤ 2 * 15 ∧ 2 * 15 < 29 + (2 : Byte).toNat ∧
      16 < (17 : Byte).toNat ∧ [(0 : Byte)].length < (2 : Byte).toNat ∧ 11 ≤ (13 : Byte).toNat) ∧
    imageOf part 13 32 = none ∧ (1 : Byte) ≠ 0 ∧ [(13 : Byte), 0, 0, 0].length < 5 := by decide +kernel

theorem witness_SubscriptionWritten : InService part ∧
    (SpanFits 14 ⟨13, [9]⟩ ∧ ¬ InRanges [(0, 1), (1, 254), (0, 255), (0, 7), (0, 7), (0, 7), (0, 7), (0, 7), (0, 7), (0, 7),
      (0, 7), (0, 65535), (0, 65535), (10, 60000)] ⟨13, [9]⟩) ∧
    (SpanFits 14 ⟨12, [65521]⟩ ∧ signedWord 65521 = -15 ∧ signedWord 65520 < -15) ∧
    (12 ≤ (15 : Fin 32).val ∧ ((15 : Fin 32).val - 12) % 5 = 3 ∧ Carries ⟨11, [1]⟩ 11 ∧ (Span.mk 11 [1]).val 11 ≠ 0) ∧
    (SpanFits 14 ⟨0, [1]⟩ ∧ (part.inputs.get 31).sub.node = 0) ∧
    (let s := withInput 1 ⟨airSub, ⟨true, lanesOf [1], 0, true⟩⟩ (atTime 1400 part)
     InService s ∧ MasksPresent 1 (s.inputs.get 1).record.lanes ∧ (s.inputs.get 1).record.fresh = true ∧
      SpanFits 14 ⟨0, [0]⟩ ∧ (s.inputs.get 1).sub.enabled = true ∧
      SpanFits 14 ⟨13, [1400]⟩ ∧ 1400 ≤ (s.now - (s.inputs.get 1).record.arrival).toNat) := by decide +kernel

theorem witness_BindingWritten : InService part ∧ (part.outputs.get 29).top = .schedule ∧
    (let o := part.outputs.get 29
     { o with entries := o.entries.set 0 (some ⟨1, .stored, [9], 0, false⟩) }.top ≠ .schedule) ∧
    (SpanFits 6 ⟨4, [99]⟩ ∧ ¬ InRanges [(0, 1), (1, 254), (0, 255), (0, 1000), (100, 10000), (0, 65535)] ⟨4, [99]⟩) ∧
    (SpanFits 6 ⟨0, [1, 254, 255, 1000, 100, 65535]⟩ ∧
      InRanges [(0, 1), (1, 254), (0, 255), (0, 1000), (100, 10000), (0, 65535)] ⟨0, [1, 254, 255, 1000, 100, 65535]⟩) ∧
    (SpanFits 6 ⟨0, [1]⟩ ∧ (part.outputs.get 29).binding.node = 0) := by decide +kernel

theorem witness_ProtectionWritten : InService part ∧ (SpanFits 6 ⟨1, [0, 0]⟩ ∧ ¬ (1 % 2 = 0)) ∧
    (SpanFits 6 ⟨4, [1, 10001]⟩ ∧ Carries ⟨4, [1, 10001]⟩ 4 ∧ ¬ (10001 ≤ 10000)) ∧
    (SpanFits 6 ⟨0, [0, 9, 1, 10000, 0, 0]⟩ ∧ Carries ⟨0, [0, 9, 1, 10000, 0, 0]⟩ 2) := by decide +kernel

theorem witness_StationsWritten : InService part ∧ (SpanFits 9 ⟨8, [1]⟩ ∧ Carries ⟨8, [1]⟩ 8) ∧
    (SpanFits 9 ⟨6, [1]⟩ ∧ ¬ Carries ⟨6, [1]⟩ 8) ∧ SpanFits 9 ⟨7, [127]⟩ ∧
    SpanFits 9 ⟨0, (nums 7 [100, 600, 1100, 1600, 2100, 2101, 60000]).items ++ [127]⟩ ∧ (withMode 0 .standby part).mode 0 ≠ .idle ∧
    (part.mode 0 = .idle ∧ ∀ i, (nums 7 [100, 600, 1100, 1600, 2100, 2101, 60000]).get i ≤ 60000) ∧
    ¬ ((nums 7 [100, 600, 1100, 1600, 2100, 2101, 60001]).get 6 ≤ 60000) ∧
    ¬ ((nums 7 [100, 600, 1100, 1600, 2100, 2100, 60000]).get 4 < (nums 7 [100, 600, 1100, 1600, 2100, 2100, 60000]).get 5) := by
  decide +kernel

theorem witness_CoverageWrittenAndValidated : InService workedState ∧ (workedState.track 0).bankB.state = .active ∧
    ((withMode 0 .standby part).mode 0 ≠ .idle ∧ (part.track 0).activeBank = none) ∧
    ((part.track 0).bankA.state = .invalid ∧ part.mode 0 = .idle ∧ SpanFits 98 ⟨0, [199]⟩ ∧
      SpanFits 98 ⟨0, [2000, 32, 4000, 4000, 7]⟩ ∧ InRanges [(200, 2000), (1, 32), (5, 4000), (0, 4000), (0, 7)]
        ⟨0, [2000, 32, 4000, 4000, 7]⟩) ∧ coverageSound workedBanks.1 = true ∧ workedBanks.1.state = .valid ∧
    coverageSound CoverageBank.reset = false := by decide +kernel

theorem witness_ProfileWrittenAndValidated : InService part ∧ (lit .p Profile.reset).bankP.state = .inUse ∧
    switching.switch = some .q ∧ (SpanFits 239 ⟨238, [32]⟩ ∧ SpanFits 239 ⟨231, [1600, 256, 65535, 10000, 10000, 10000, 800, 31]⟩) ∧
    (ProfileHousing.reset.bankP.state = .invalid ∧ profileFailure workedProfile = none) ∧
    profileFailure Profile.reset = some 1 ∧ profileFailure { workedProfile with m := 1 } = some 2 ∧
    profileFailure { workedProfile with speeds := nums 8 [0, 5, 5, 6, 7] } = some 3 ∧
    profileFailure { workedProfile with loads := nums 6 [1, 2, 3] } = some 4 ∧
    profileFailure { workedProfile with share := nums 4 [64, 64, 64, 65] } = some 5 ∧
    profileFailure { workedProfile with dampMin := 1 } = some 6 := by decide +kernel

theorem witness_LoopWritten : InService part ∧ SpanFits 3 ⟨0, [1000, 1000, 10000]⟩ ∧
    InRanges [(0, 1000), (0, 1000), (0, 10000)] ⟨0, [1000, 1000, 10000]⟩ ∧ Carries ⟨0, [1000, 1000, 10000]⟩ 2 ∧
    (SpanFits 3 ⟨1, [1001]⟩ ∧ ¬ InRanges [(0, 1000), (0, 1000), (0, 10000)] ⟨1, [1001]⟩) ∧
    (SpanFits 3 ⟨0, [5, 6]⟩ ∧ ¬ Carries ⟨0, [5, 6]⟩ 2) := by decide +kernel

theorem witness_WebParamWritten : InService part ∧ SpanFits 12 ⟨0, [200, 150, 10, 500, 499, 10000]⟩ ∧
    (SpanFits 12 ⟨0, [199]⟩ ∧ SpanFits 12 ⟨11, [10001]⟩) ∧
    InRanges [(200, 2000), (30, 150), (10, 500), (500, 20000), (0, 2000), (100, 10000)] ⟨0, [200, 150, 10, 500, 499, 10000]⟩ ∧
    (SpanFits 12 ⟨3, [500, 500]⟩ ∧ Carries ⟨3, [500, 500]⟩ 4 ∧ (WebParams.ofWords [0, 0, 0, 500, 500]).vRun ≤ 500) ∧
    SpanFits 12 ⟨3, [500, 499]⟩ := by decide +kernel

theorem witness_HousingParamWritten : InService part ∧ (SpanFits 13 ⟨12, [2]⟩ ∧ SpanFits 13 ⟨12, [1]⟩) ∧
    ((withMode 1 .standby part).mode (secondWeb 0) ≠ .idle ∧ (part.housing 0).lead = .first) ∧
    (SpanFits 13 ⟨1, [300, 300, 400, 0, 0, 5]⟩ ∧ Carries ⟨1, [300, 300, 400, 0, 0, 5]⟩ 1) ∧
    (SpanFits 13 ⟨1, [250, 300, 400, 0, 0, 5]⟩ ∧ InRanges (List.replicate 4 (0, 1000) ++ List.replicate 2 (0, 32767) ++
      [(5, 600)]) ⟨1, [250, 300, 400, 0, 0, 5]⟩) := by decide +kernel

theorem witness_RampMemoryWritten : InService part ∧ 1024 < 3 * 256 + 255 + [(1 : BitVec 16), 2].length ∧
    3 * 256 + 255 + [(1 : BitVec 16)].length ≤ 1024 ∧ 8 < (List.replicate 9 (0 : BitVec 16)).length ∧
    RampMemory.wf part.ramp.memory = true := by decide +kernel

/-- Whether a span carries whole every descriptor field it touches, a target list by its eight value words. -/
def wholeFields (sp : Span) : Bool :=
  decide (sp.start < 15 → 6 < sp.start + sp.vals.length → sp.start = 7 ∧ sp.vals.length = 8) &&
  [(0, 2), (2, 2), (4, 2), (15, 2), (17, 2), (19, 2), (21, 2), (23, 2), (25, 2), (27, 2), (29, 5), (34, 2),
    (36, 2)].all fun f : Nat × Nat => decide (sp.start < f.1 + f.2 → f.1 < sp.start + sp.vals.length →
      sp.start ≤ f.1 ∧ f.1 + f.2 ≤ sp.start + sp.vals.length)

theorem witness_RampDescriptorWritten : InService part ∧ (SpanFits 38 ⟨1, [0]⟩ ∧ wholeFields ⟨1, [0]⟩ = false) ∧
    (SpanFits 38 ⟨6, List.replicate 8 0⟩ ∧ wholeFields ⟨6, List.replicate 8 0⟩ = false ∧
      wholeFields ⟨8, List.replicate 7 0⟩ = false ∧ wholeFields ⟨6, [0]⟩ = false) ∧
    (SpanFits 38 ⟨7, [0, 1, 2, 3, 4, 5, 6, 23]⟩ ∧ wholeFields ⟨7, [0, 1, 2, 3, 4, 5, 6, 23]⟩ = true ∧
      wholeFields ⟨7, [23, 65535, 0, 0, 0, 0, 0, 0]⟩ = true ∧ wholeFields ⟨7, List.replicate 8 65535⟩ = true) ∧
    (SpanFits 38 ⟨0, [1, 1023]⟩ ∧ wholeFields ⟨0, [1, 1023]⟩ = true ∧ wholeFields ⟨15, List.replicate 8 0⟩ = true ∧
      SpanFits 38 ⟨29, [1, 2, 3, 9, 6, 1, 2, 1]⟩ ∧ wholeFields ⟨29, [1, 2, 3, 9, 6, 1, 2]⟩ = true ∧
      wholeFields ⟨36, [1, 1]⟩ = true) ∧
    ((part.ramp.slots.get 7).state = .empty ∧ ((ramped .loaded 0 0 0 0 .line).ramp.slots.get 2).state = .loaded ∧
      ((ramped .armed 0 0 0 0 .line).ramp.slots.get 2).state = .armed) ∧
    (¬ (1024 ≤ 1023) ∧ ¬ (1024 ≤ 1023 ∨ 64512 ≤ 1024) ∧ ¬ (2 = 0 ∨ 2 = 1)) := by decide +kernel

theorem witness_RampDescriptorJudged : descriptorFault 2 (warmUp .step) = none ∧ descriptorFault 2 RampDescriptor.reset = some [0, 0] ∧
    descriptorFault 2 { warmUp .step with n := some 2 } = some [1, 0] ∧
    descriptorFault 2 { warmUp .step with targets := some [.fan 0 0, .fan 0 0, .fan 0 1, .fan 0 2] } = some [1, 1] ∧
    descriptorFault 2 { warmUp .step with trigger := some (.on (.chain 2)) } = some [1, 2] := by decide +kernel

theorem test_descriptor_completed :
    gives (.writeRampDescriptor ⟨1, [2, 0, 0, 4, 0, 1, 3, 255]⟩) (ramped .loaded 0 0 0 0 .step) (fun t =>
      (t.ramp.slots.get 2).desc = { warmUp .step with base := some 1023 } ∧ (t.ramp.slots.get 2).state = .loaded ∧
        replied t = [4, 12, 1, 3, 2, 0, 0, 0, 0]) = true ∧
    gives (.writeRampDescriptor ⟨1, [2, 0, 30, 4, 0, 1, 0, 2]⟩) (ramped .loaded 0 0 0 0 .step) (fun t =>
      (t.ramp.slots.get 2).state = .empty ∧
        (t.ring.ringOut.items.take 9).map BitVec.toNat = [4, 12, 1, 5, 2, 4, 0, 1, 0]) = true := by decide +kernel

theorem witness_TrackingStarted : Released part ∧ (workedState.track 0).bankA.state ≠ .active ∧
    (workedState.track 0).bankB.state = .active ∧
    (withTrack 3 { TrackWeb.reset with bankA := workedBanks.2 } part |>.track 3).bankA.state = .active ∧
    (ready.track 0).bankA.state = .valid ∧ (ready.track 0).bankB.state ≠ .active ∧
    ({ TrackWeb.reset with bankB := workedBanks.1 }).bankA.state = .invalid ∧
    ({ TrackWeb.reset with bankB := workedBanks.1 }).bankB.state = .valid := by decide +kernel

theorem witness_QueueEmptied : Released workedState ∧
    holdsOpenJobcut (workedState.track 0).queue = true ∧ workedState.tracker.jobs.get (housingOf 0) = some .q ∧
    holdsOpenJobcut (workedState.track 1).queue = false ∧ part.tracker.jobs.get 1 = none := by decide +kernel

theorem witness_EncoderAdvanced : Released workedState ∧ part.mode 0 = .idle ∧ workedState.mode 0 = .run ∧
    ((part.record 15).lanes.get 0 = none) ∧
    ((workedState.record (encCh 0)).lanes.get 0 = some 0 ∧ (workedState.record (encCh 0)).lanes.get 1 = some 1700) ∧
    (1700#32 = BitVec.ofInt 32 (0 % 65536 * 65536 + 1700 % 65536)) ∧ (workedState.track 1).encRef = none ∧
    ((1700#32 - 1700#32).toInt ≤ 0 ∧ 0 < (1700#32 - (workedState.track 0).encRef.getD 0).toInt) ∧
    ((workedState.track 0).activeBank = some .b ∧ 1 ≤ (workedState.track 0).cursorLeft ∧
      (∀ run ∈ workedBanks.2.runs.items.take workedBanks.2.runCount, 1 ≤ run.length) ∧ 1 ≤ workedBanks.2.runCount) := by
  decide +kernel

/-- Web W0 after its tracking start, with a second bank VALID, bank P in use and Q VALID. -/
def markable : State :=
  withProfiles 0 { switching with switch := none } (withTrack 0
    { workedTrack with queue := [seg 40 50000 0 0] } (withJob 0 none workedState))

theorem witness_MarkJudgedAndPlaced : InService markable ∧ 9 < (10 : Byte).toNat ∧ part.mode 0 = .idle ∧
    (workedState.mode 0 ≠ .idle ∧ workedState.mode 0 ≠ .brk ∧ (withTrack 0 TrackWeb.reset workedState |>.track 0).queue = []) ∧
    (∃ older o, [seg 1 0 0 0 (some ⟨.wash, .request, 0, false⟩)] = older ++ [o] ∧ o.length = 0 ∧ o.marker ≠ none) ∧
    (TrackWeb.reset.bankA.state ≠ .active ∧ TrackWeb.reset.bankB.state ≠ .active) ∧
    workedState.tracker.jobs.get 0 ≠ none ∧ MarkTaken markable 0 ∧ MarkTaken workedState 0 ∧
    (markerOfCode 9 = some (.note 6) ∧ markerOfCode 2 = some .wash ∧ markerOfCode 1 = some .jobcut) ∧
    ((markable.track 0).bankB.state = .active ∧ (markable.track 0).bankA.state = .valid) ∧
    (markable.leadWeb 0 = 0 ∧ markable.tracker.jobs.get 0 = none ∧
      (∀ i ∈ (markable.profiles.get 0).indicators, i = some (otherBank .q)) ∧
      ((markable.profiles.get 0).bank .q).state = .valid) := by
  refine ⟨by decide +kernel, by decide +kernel, by decide +kernel, by decide +kernel, ⟨[], _, rfl, rfl, by decide⟩,
    by decide +kernel, by decide +kernel, ⟨by decide +kernel, [], _, rfl, by decide⟩,
    ⟨by decide +kernel, (workedState.track 0).queue.dropLast, seg 40 49800 200 0, by decide +kernel, by decide⟩,
    by decide +kernel, by decide +kernel, by decide +kernel⟩

theorem witness_MarkersFireAtStations : (Marker.mk .jobcut .request 7 true).next ≤ 7 ∧
    ((Marker.mk .jobcut .request 0 true).lead = true ∧ (Marker.mk .jobcut .request 0 true).kind = .jobcut) ∧
    (Marker.mk .jobcut .request 0 false).lead = false ∧ MarkerKind.wash ≠ .jobcut := by decide +kernel

theorem witness_WebEnabled : InService ready ∧ enableBlocked 0 ready = false ∧ enableBlocked 1 ready = true ∧
    ready.mode (otherWeb 0) = .idle ∧ (ready.profiles.get 0).bankP.state = .valid ∧
    ((∀ i ∈ (ready.profiles.get 0).indicators, i = none) ∧ ∃ i ∈ switching.indicators, i ≠ none) ∧
    (enableBlocked 0 (withMode 1 .run ready) = false ∧ (withMode 1 .run ready).mode (otherWeb 0) ≠ .idle) ∧
    (let q := { ProfileHousing.reset with bankQ := ⟨workedProfile, .valid⟩ }
     q.bankP.state ≠ .valid ∧ q.bankQ.state = .valid ∧ enableBlocked 0 (withProfiles 0 q ready) = false) ∧
    (ProfileHousing.reset.bankP.state ≠ .valid ∧ ProfileHousing.reset.bankQ.state ≠ .valid) := by decide +kernel

/-- Web W0 in a mode with a speed lane, the BRK record as `fresh` says. -/
def speeding (m : Mode) (v : Int) (fresh : Bool) : State :=
  withRecord 16 fresh [0, 0, 0, 0] (withRecord 15 true [0, 0, v] (withMode 0 m ready))

theorem witness_SpeedTaken : Released ready ∧ (ready.record (encCh 0)).lanes.get 2 = none ∧
    (∀ v ∈ [(-1 : Int), 0, 49, 50, 1799, 1800, 1999, 2000, 20001],
      ((speeding .run v true).record (encCh 0)).lanes.get 2 = some v) ∧
    ((speeding .standby 50 false).record (brkCh 0)).fresh = false ∧
    ((speeding .standby 2000 true).record (brkCh 0)).fresh = true ∧ (speeding .crawl 49 true).mode 0 = .crawl ∧
    ((speeding .run 1800 true).params 0).vRun ≤ 1800 + ((speeding .run 1800 true).params 0).hysteresis ∧
    1799 + soundParams.hysteresis < soundParams.vRun ∧ soundParams.vMove ≤ 50 ∧ 49 < soundParams.vMove := by
  decide +kernel

theorem witness_BreakEvents : Released (withRecord 16 true [0, 0, 0, 1] (withMode 0 .standby part)) ∧
    (∃ i, LaneActive (withRecord 16 true [0, 0, 0, 1] (withMode 0 .standby part)) 0 i) ∧
    (∀ i : Fin 4, (8 : BitVec 5).getLsbD i.val = true ↔
      ((withRecord 16 true [0, 0, 0, 1] part).record (brkCh 0)).lanes.get ⟨i.val, by omega⟩ = some 1) ∧
    (8 : BitVec 5).getLsbD 4 = false ∧ (∀ i : Fin 4, (part.record (brkCh 0)).lanes.get ⟨i.val, by omega⟩ = none) ∧
    ((withMode 0 .crawl part).mode 0 = .crawl ∧ (withMode 0 .brk part).mode 0 = .brk) := by
  exact ⟨by decide +kernel, ⟨3, 1, by decide +kernel, by decide⟩, by decide +kernel, by decide +kernel,
    by decide +kernel, by decide +kernel⟩

theorem witness_WebClearedAndDisabled : InService part ∧
    (let s := withMode 3 .brk part
     InService s ∧ s.mode 3 = .brk ∧ (s.webs.get 3).v = 0 ∧ activeDetectors (s.record (brkCh 3)) = 0) ∧
    ((withWeb 0 { WebControl.reset with mode := .brk, v := 1 } part).webs.get 0).v ≠ 0 ∧ part.mode 0 = .idle ∧
    (withMode 0 .run part).mode (otherWeb 0) = .idle := by decide +kernel

theorem witness_SpeedPlanAndDemand : InService (withMode 0 .standby part) ∧ (withMode 0 .standby part).mode 0 = .standby ∧
    part.mode 0 = .idle ∧ (running 12000).plan = some ⟨14000, 400⟩ ∧ (running 12000).v < 14000 ∧ 14000 ≤ (running 14000).v ∧
    (withMode 0 .run part |>.webs.get 0).plan = none ∧ [(0 : Byte), 1, 2, 3].length < 5 := by decide +kernel

theorem witness_SamplesTakenAndAged : Released part ∧
    (let s := withInput 1 ⟨airSub, ⟨true, lanesOf [5], 0, true⟩⟩ (atTime 1500 part)
     (s.inputs.get 1).record.ageRunning = true ∧
      (s.inputs.get 1).sub.maxAge ≤ (s.now - (s.inputs.get 1).record.arrival).toNat) ∧
    ((1499 : PartTime) - 0).toNat < airSub.maxAge ∧ (part.inputs.get 0).record.ageRunning = false ∧
    (airSub.enabled = true ∧ airSub.node = (41 : Byte).toNat ∧ airSub.setId = (3 : Byte).toNat) ∧
    isArrival (intakeLanes 1 airSub ⟨41, 3, 3, 4, Tab.replicate 8 7⟩) = true ∧
    isArrival (intakeLanes 1 airSub ⟨41, 3, 2, 4, Tab.replicate 8 7⟩) = false ∧
    MasksPresent 1 (intakeLanes 1 airSub ⟨41, 3, 3, 4, Tab.replicate 8 7⟩) ∧ MasksPresent 1 (lanesOf [5]) := by
  decide +kernel

theorem witness_LaneOperationsAndConsumers : 15 ≤ 15 ∧ 1 ≤ 1 ∧ (-32768 ≤ (32767 : Int) ∧ (32767 : Int) ≤ 32767) ∧
    [(-3 : Int), 2] ≠ [] ∧ meanOf [-3, 2] = some (-1) := by decide +kernel

theorem witness_IndicatorsSwitched : Released part ∧ switching.switch = some .q ∧ ProfileHousing.reset.switch ≠ some .p ∧
    (part.mode (firstWeb 1) = .idle ∧ part.mode (secondWeb 1) = .idle ∧ ∃ i ∈ switching.indicators, i ≠ none) := by
  decide +kernel

theorem witness_SetPointInterpolated :
    let p := workedProfile
    (2 ≤ p.n ∧ p.n ≤ 8 ∧ 2 ≤ p.m ∧ p.m ≤ 6 ∧ (p.speeds.items.take p.n).Pairwise (· < ·) ∧
      (p.loads.items.take p.m).Pairwise (· < ·) ∧ p.speeds.items.getD 0 0 = 0 ∧ p.loads.items.getD 0 0 = 0) ∧
    (p.speeds.items.getD 4 0 ≤ 16000 ∧ 3 = p.n - 2) ∧ (3 + 2 ≤ p.n ∧ p.speeds.items.getD 3 0 ≤ 15999 ∧
      15999 < p.speeds.items.getD 4 0) ∧ (0 + 2 ≤ p.m ∧ p.loads.items.getD 0 0 ≤ 0 ∧ 0 < p.loads.items.getD 1 0) ∧
    p.loads.items.getD 2 0 ≤ 2000 := by decide +kernel

theorem witness_ZoneTermsFormed : workedZone.mode (firstWeb 0) = .run ∧ workedZone.mode (secondWeb 0) = .run ∧
    workedZone.rampValue (.zoneSp 0 1) = none ∧ (workedZone.profiles.get 0).zones.get 1 = some .q ∧
    ({ part with ramp := { part.ramp with owners := part.ramp.owners.set 1 ⟨some 2, some 4800⟩ } }).rampValue
      (.zoneSp 0 1) = some 4800 ∧ part.mode 2 = .idle ∧ (withMode 0 .run part).mode (secondWeb 0) = .idle := by
  decide +kernel

theorem witness_ZoneLoopEvents : Released workedZone ∧ (workedZone.record (zairCh 0 1)).mean = some 2864 ∧
    (workedZone.record (zairCh 0 1)).fresh = true ∧ (workedZone.record (zairCh 0 0)).mean = none ∧
    (workedZone.record (zairCh 0 0)).fresh = false ∧ workedZone.mode (firstWeb 0) ≠ .idle ∧
    (part.mode (firstWeb 0) = .idle ∧ part.mode (secondWeb 0) = .idle) := by decide +kernel

theorem witness_DamperAndChillPartsFormed :
    let s := finishingState Finishing.reset (chillWeb .run 15000)
    (s.record (dexitCh 2)).mean = some 2122 ∧ s.rampValue (.dampBase 2) = none ∧ s.rampValue (.chillTarget 2) = none ∧
    s.damperBank 2 = some .p ∧ s.chillBank 2 = some .p ∧ s.mode 2 = .run ∧ (part.record (dexitCh 2)).mean = none ∧
    ({ part with ramp := { part.ramp with owners := part.ramp.owners.set 23 ⟨some 0, some 10000⟩ } }).rampValue
      (.dampBase 3) = some 10000 ∧
    ({ part with ramp := { part.ramp with owners := part.ramp.owners.set 16 ⟨some 0, some 1600⟩ } }).rampValue
      (.chillTarget 0) = some 1600 ∧ (withMode 2 .brk part).mode 2 = .brk ∧ (withMode 2 .crawl part).mode 2 = .crawl := by
  decide +kernel

theorem witness_FinishingEvents :
    let s := chillState (chillWeb .run 15000)
    Released s ∧ s.mode 2 ≠ .idle ∧ part.mode 2 = .idle ∧ (s.record (dexitCh 2)).fresh = true ∧
    (s.record (dexitCh 2)).mean = some 2080 ∧ (s.record (cexitCh 2)).fresh = true ∧ (s.record (cexitCh 2)).mean = some 470 ∧
    ((withRecord 24 true [301, 300] s).record (cwretCh 2)).fresh = true ∧ (s.record (cwretCh 2)).fresh = false ∧
    (chillState (chillWeb .standby 0)).mode 2 ≠ .run := by decide +kernel

theorem witness_SolventMonitorEvents :
    let s := monitored 400 Monitor.reset
    Released s ∧ s.mode (firstWeb 0) ≠ .idle ∧ (s.record (lelCh 0)).lanes.get 0 = some 400 ∧
    (s.monitors.get 0).params.lelTrip ≤ 400 ∧ 399 < (s.monitors.get 0).params.lelTrip ∧
    (s.record (lelCh 0)).fresh = true ∧ (workedZone.record (lelCh 0)).fresh = false ∧
    (workedZone.record (lelCh 0)).lanes.get 0 = none ∧
    ((withRecord 5 true [4000] s).record (exhtCh 0)).lanes.get 0 = some 4000 ∧ ((4000 : Nat) : Int) ≤ 4000 ∧
    ((withRecord 5 true [3999] s).record (exhtCh 0)).lanes.get 0 = some 3999 ∧ part.mode (firstWeb 0) = .idle := by
  decide +kernel

/-- The monitor of H0 ready for CLEAR_TRIP. -/
def clearable : State := monitored 299 { Monitor.reset with latch := true, causes := 1, purge := some 95000 }

theorem witness_TripClearedAndPurged : InService clearable ∧ clearFailure clearable 0 = none ∧
    clearFailure part 0 = some 1 ∧ clearFailure (withRecord 4 false [299] clearable) 0 = some 2 ∧
    clearFailure (withRecord 4 true [300] clearable) 0 = some 3 ∧
    clearFailure (withRecord 3 true [4000] clearable) 0 = some 4 ∧
    clearFailure (withRecord 5 true [4000] clearable) 0 = some 5 ∧ (clearable.monitors.get 0).purge = some 95000 ∧
    (((95000 : PartTime) - 95000).toNat < 2 ^ 31 ∧ 2 ^ 31 ≤ ((94999 : PartTime) - 95000).toNat) ∧
    (part.monitors.get 1).purge = none := by decide +kernel

theorem witness_OutputsFollowTheStack :
    let e : Entry := ⟨1, .park, [7], 0, false⟩
    let at' := fun i : Fin 4 => { heatChannel with entries := heatChannel.entries.set i (some e) }
    ((at' 3).entries.get 3 = some e ∧ (at' 2).entries.get 3 = none ∧ (at' 2).entries.get 2 = some e ∧
      (at' 1).entries.get 1 = some e ∧ (at' 0).entries.get 0 = some e ∧ (∀ i, heatChannel.entries.get i = none)) ∧
    (at' 2).top = .brk ∧ (at' 3).top = .trip ∧ (OutputChannel.reset 0).binding.slew = 0 ∧
    (underOperator.top ≠ .brk ∧ underOperator.top ≠ .trip ∧ underOperator.binding.slew ≠ 0 ∧
      underOperator.originValue.length = underOperator.target.length ∧ underOperator.originValue[0]? = some 5876 ∧
      underOperator.target[0]? = some 6500) ∧ (OutputChannel.reset 0).active = false ∧
    (underOperator.active = true ∧ underOperator.output 201000 ≠ underOperator.target ∧
      max underOperator.binding.deadband 1 ≤ (((min 6500 (5876 + 500 * 40 / 1000) : Nat) : Int) - 5876).natAbs ∧
      ∀ d < 40, ¬ max underOperator.binding.deadband 1 ≤ (((min 6500 (5876 + 500 * d / 1000) : Nat) : Int) - 5876).natAbs) := by
  decide +kernel

/-- A lane that moves from 5876 to 5880 never differs by 20 from a last-sent 5876. -/
theorem witness_OutputsFollowTheStack_never (d : Nat) :
    ¬ max 20 1 ≤ (((min 5880 (5876 + 500 * d / 1000) : Nat) : Int) - 5876).natAbs := by omega

theorem witness_ClaimsAndReleases :
    let s := authority (underBreak 3 false)
    Released s ∧ heatChannel.entries.get (partyIx (.web 1)) = none ∧
    (s.outputs.get 1).entries.get (partyIx (.web 1)) = some ⟨3, .park, [0], 205000, false⟩ ∧
    (3 : BitVec 8) &&& partyBit (.web 1) ≠ 0 ∧ (3 : BitVec 8) &&& partyBit (.web 2) = 0 ∧
    (3 : BitVec 8) &&& ~~~ partyBit (.web 1) ≠ 0 ∧ (2 : BitVec 8) &&& ~~~ partyBit (.web 1) = 0 ∧
    (s.monitors.get (channelHousing 1)).purge = none ∧ (clearable.monitors.get (channelHousing 17)).purge = none ∧
    (clearable.monitors.get (channelHousing 8)).purge ≠ none ∧ partyLevel .operator ≠ .brk ∧ partyLevel (.cause .lelStale) = .trip ∧
    18 ≤ (18 : Fin 30).val := by decide +kernel

theorem witness_EventsCloseAtTheChannel :
    let s := authority underOperator
    heatChannel.binding.slew = (s.outputs.get 1).binding.slew ∧ heatChannel.target ≠ (s.outputs.get 1).target ∧
    (heatChannel.top = .schedule ∧ (s.outputs.get 1).top = .operator ∧ outRole 1 = .heat 0 1) ∧
    ((underBreak 1 false).top ≠ .schedule ∧ (underBreak 1 false).binding.slew = underOperator.binding.slew ∧
      (underBreak 1 false).target ≠ underOperator.output 205000) ∧
    (heatChannel.target = ({ heatChannel with moveTimer := some 3 }).target ∧ heatChannel.top = .schedule) ∧
    outRole 8 = .exh 0 := by decide +kernel

theorem witness_DwellsAndMovementEnd : Released part ∧ (clearable.monitors.get 0).purge ≠ none ∧
    (part.monitors.get 0).purge = none ∧ (0 : Fin 30) ∈ housingChannels 0 ∧ (9 : Fin 30) ∉ housingChannels 0 ∧
    ({ OutputChannel.reset 29 with dwell := some 5 }).dwell = some 5 ∧ ((5 : PartTime) - 5).toNat < 2 ^ 31 ∧
    2 ^ 31 ≤ ((4 : PartTime) - 5).toNat ∧ ({ OutputChannel.reset 0 with moveTimer := some 5 }).moveTimer = some 5 ∧
    (part.outputs.get 0).moveTimer = none := by decide +kernel

theorem witness_ScheduleAndActivity : Released part ∧ [10000].length = laneCount 17 ∧ [10000].length = laneCount 22 ∧
    (List.replicate 8 0).length = laneCount 18 ∧ (∀ v ∈ [10000], v ≤ 10000) ∧ (part.outputs.get 0).top = .schedule ∧
    underOperator.top ≠ .schedule ∧ (0 : Fin 30) ∈ reachedBy 1 ∧ (18 : Fin 30) ∉ reachedBy 1 := by decide +kernel

theorem witness_OperatorRequests : InService part ∧ 30 ≤ (30 : Byte).toNat ∧ ((0 : Byte) ≠ 1 ∧ (0 : Byte) ≠ 8) ∧
    ((∀ v ∈ [65535], v < 65536) ∧ [65535].length = 1) ∧ ((List.replicate 8 0).length = 8 ∧ laneCount 17 = 1 ∧
      laneCount 21 = 8) ∧ (part.outputs.get 0).entries.get 0 = none ∧
    underOperator.entries.get 0 = some (operatorEntry 6500) ∧ (operatorEntry 6500).holders = 1 ∧
    ([(29 : Byte)].length < 2 ∧ (List.replicate 15 (0 : Byte)).length < 2 * (8 : Byte).toNat) := by decide +kernel

theorem witness_EmissionSetJoinedAndLeft : Released part ∧ heatChannel.active = true ∧ (part.outputs.get 0).active = false ∧
    ((authority underOperator).emission.records.get 1).lastSent = some [5876] ∧
    ((underOperator.output 201040)[0]? = some 5896 ∧ 20 ≤ ((5896 : Int) - 5876).natAbs) ∧
    ((underOperator.output 201039)[0]? = some 5895 ∧ ((5895 : Int) - 5876).natAbs < 20) ∧
    ((5 : PartTime) - 5).toNat < 2 ^ 31 ∧ 2 ^ 31 ≤ ((4 : PartTime) - 5).toNat ∧
    (part.emission.records.get 0).refresh = none := by decide +kernel

/-- Sixteen entries of sixteen subjects. -/
def fullQueue : List NoticeEntry := (List.finRange 16).map fun i => ⟨.inputStale ⟨i.val, by omega⟩ 0, 1, 0, false⟩

theorem witness_NoticesQueuedAndMasked : Released part ∧ InService part ∧
    part.emission.mask.getLsbD (noticeKind (.brk 0 1)).val = true ∧ (0 : BitVec 18).getLsbD (noticeKind (.brk 0 1)).val = false ∧
    (fullQueue.length = 16 ∧ ∀ e ∈ fullQueue, ¬ (noticeKind e.notice = noticeKind (.brk 0 1) ∧
      subjectNumber e.notice = subjectNumber (.brk 0 1))) ∧ fullQueue.tail.length < 16 ∧
    (∃ older e, fullQueue = older ++ [e]) ∧ oneNotice = [] ++ ⟨.ringRestored 0, 1, 0, false⟩ :: [] ∧
    [(0 : Byte), 0].length < 3 := by
  exact ⟨by decide +kernel, by decide +kernel, by decide +kernel, by decide +kernel, by decide +kernel,
    by decide +kernel, ⟨fullQueue.dropLast, ⟨.inputStale 15 0, 1, 0, false⟩, by decide +kernel⟩, by decide +kernel,
    by decide +kernel⟩

theorem witness_RampTransfers :
    let x : RampSlot := ⟨warmUp .line, .running, 100, 3, 0, 0, some 0, none, 0⟩
    x.targetList[x.desc.n.getD 0 - x.n]? = some (.zoneSp 0 0) ∧
    (({ x with n := 0 } : RampSlot).targetList[x.desc.n.getD 0 - 0]? = some (.zoneSp 0 3)) ∧
    (x.desc.transfer = some .line ∧ x.desc.targets = some x.targetList ∧ x.desc.n = some (x.targetList.length - 1) ∧
      1 ≤ x.targetList.length ∧ x.targetList.length ≤ 8 ∧ x.targetList.Nodup ∧ x.n = x.targetList.length - 1 ∧
      x.pointer < 1024 ∧ ({ x with pointer := 1023 } : RampSlot).pointer < 1024) ∧
    (x.l = 0 ∧ x.b = 0 ∧ 0 < ({ x with l := 1 } : RampSlot).l ∧ 0 < ({ x with b := 255 } : RampSlot).b) ∧
    (warmUp .step).transfer = some .step ∧ (transferSteps [] ⟨x, part.ramp.owners, [], false⟩).completed = true ∧
    (transferSteps [] ⟨{ x with l := 1 }, part.ramp.owners, [], false⟩).completed = false ∧
    x.desc.reload = some 29 ∧ x.desc.tick = some .s1 ∧ x.desc.endAction = some .hold := by decide +kernel

theorem witness_RampRequests : (∀ st ∈ [SlotState.loaded, .armed, .running, .pausing, .paused, .holding],
      InService (ramped st 0 0 0 0 .line) ∧ ((ramped st 0 0 0 0 .line).ramp.slots.get 2).state = st) ∧
    (∀ t ∈ ((ramped .armed 0 0 0 0 .line).ramp.slots.get 2).targetList,
      ((ramped .armed 0 0 0 0 .line).ramp.owners.get (targetIx t)).owner = none) ∧
    ((part.ramp.owners.set 3 ⟨some 0, none⟩).get (targetIx (.zoneSp 0 3))).owner ≠ none ∧
    ((ramped .running 100 3 1 2 .step).ramp.slots.get 2).n = (warmUp .step).n.getD 0 ∧
    ((ramped .running 102 1 1 2 .step).ramp.slots.get 2).n ≠ (warmUp .step).n.getD 0 ∧
    (RampSlot.mk (warmUp .step) .paused 100 3 0 2 none (some 30000) 0).saved = some 30000 := by decide +kernel

theorem witness_RampEvents :
    let s := ramped .running 100 3 0 2 .line
    Released s ∧ (s.ramp.slots.get 2).state = .running ∧ (s.ramp.slots.get 2).timer = some 30000 ∧
    (((30000 : PartTime) - 30000).toNat < 2 ^ 31 ∧ 2 ^ 31 ≤ ((29999 : PartTime) - 30000).toNat) ∧
    ((ramped .armed 0 0 0 0 .line).ramp.slots.get 2).desc.trigger = some (.on (.mode 0 .standby)) ∧
    (s.ramp.slots.get 2).targetList = [] ++ .zoneSp 0 0 :: [.zoneSp 0 1, .zoneSp 0 2, .zoneSp 0 3] ∧
    ((part.ramp.owners.set 0 ⟨some 5, none⟩).get (targetIx (.zoneSp 0 0))).owner = some 5 ∧
    (∃ t ∈ (s.ramp.slots.get 2).targetList, reachedByBreak 1 t = true) ∧
    (∀ t ∈ (s.ramp.slots.get 2).targetList, reachedByBreak 2 t = false) ∧ (part.ramp.slots.get 0).state = .empty := by
  decide +kernel

theorem witness_Restarted : InService part ∧ (∀ w, part.mode w = .idle) ∧ (∀ h, (part.monitors.get h).latch = false) ∧
    (withMode 3 .standby part).mode 3 ≠ .idle ∧ (clearable.monitors.get 0).latch = true ∧
    ((withTrack 0 workedTrack part).track 0).activeBank = some .b ∧ (part.track 0).activeBank = none := by decide +kernel

/-- The invariants hold of the part after reset, and its step answers a next state. -/
theorem witness_Invariants : (match step part with | .next t => decide (t.now = 1) | _ => false) = true ∧
    NoticesOrdered part ∧ (∀ w, (part.track w).queue = [] ∧ (part.track w).bankA.state = .invalid ∧
      (part.track w).bankB.state = .invalid ∧ (part.track w).activeBank = none) ∧
    RampMemory.wf part.ramp.memory = true ∧ (∀ i, part.ramp.owners.get i = ⟨none, none⟩) ∧
    (∀ i, (part.loops.get i).iAcc = 0) ∧ (∀ ch, (part.outputs.get ch).schedule.length = laneCount ch) := by
  refine ⟨by decide +kernel, ⟨by decide, by decide, by decide⟩, by decide +kernel, by decide +kernel, by decide +kernel,
    by decide +kernel, by decide +kernel⟩



end Sys2Proof.Tests
end

/-! # WRITE requests and the web parameters (R29, R181)

The facts every WRITE shares: the slot boundary and the REPLY, the span as its argument bytes spell it, and the carried
words against a list of ranges. Then the web parameters' image and their owner's judgement. -/

namespace Sys2Proof.WriteProofs

open Sys2Proof.Machine Sys2Proof.Statements Sys2Proof.Laws

/-! ## The slot boundary and the REPLY -/

theorem inService_eq_true {s : State} (h : InService s) : s.ring.inService = true := by
  obtain ⟨hpin, hzero, hmax⟩ := h
  simpa [RingPort.inService, hpin] using And.intro hzero hmax

/-- The statements' slot boundary of a good slot is the model's (R178). -/
theorem passed_eq_boundary (s : State) : passed s = s.boundary true := by
  unfold passed State.boundary
  split
  · next down => simp [down, after, Config.ringTimeout, raise]
  · next up => simp [up, after, Config.ringTimeout]

@[simp] theorem passed_webs (s : State) : (passed s).webs = s.webs := by
  rw [passed_eq_boundary, boundary_webs]

@[simp] theorem passed_node (s : State) : (passed s).ring.node = s.ring.node := by
  unfold passed
  split <;> rfl

/-- The REPLY frame of an answer that keeps the node address is the statements' reply slot. -/
theorem replyFrame_eq_replySlot (s t : State) (rq : Request) (code : Nat) (st : Status) (clamped : Bool)
    (data : List Byte) (hnode : t.ring.node = s.ring.node) :
    replyFrame t rq code ⟨st, clamped, data, t⟩ = replySlot s rq.tag (BitVec.ofNat 8 code) st clamped data := by
  cases clamped <;> simp [replyFrame, replySlot, hnode, byteOf, boolWord]

/-- A request in service is answered by its owner's judgement on the state after the slot boundary. -/
theorem answered_of_owner {c : Instr} {s t : State} {rq : Request} {code : Nat} {owner : List Byte → State → Answer}
    {st : Status} {clamped : Bool} {data : List Byte}
    (hexec : exec c s = request code rq owner s) (hs : InService s)
    (howner : owner rq.args (passed s) = ⟨st, clamped, data, t⟩) (hnode : t.ring.node = s.ring.node) :
    Answered c s rq.tag (BitVec.ofNat 8 code) st clamped data t := by
  rw [passed_eq_boundary] at howner
  rw [Answered, Runs, hexec, request_next code rq owner s (inService_eq_true hs), howner,
    replyFrame_eq_replySlot s t rq code st clamped data hnode]
  rfl

/-! ## Spans as bytes (R174, R181) -/

theorem wordBytes_toNat {v : Nat} (h : v < 65536) :
    (BitVec.ofNat 8 (v / 256)).toNat * 256 + (BitVec.ofNat 8 v).toNat = v := by
  simp only [BitVec.toNat_ofNat]
  omega

theorem bytesOfWords_length (ws : List Nat) : (bytesOfWords ws).length = 2 * ws.length := by
  induction ws with
  | nil => rfl
  | cons w rest ih =>
    have hcons : (bytesOfWords (w :: rest)).length = (bytesOfWords rest).length + 2 := rfl
    rw [hcons, ih, List.length_cons]
    omega

/-- Words of 16 bits come back from their bytes. -/
theorem wordsOfBytes_bytesOfWords (ws : List Nat) (h : ∀ v ∈ ws, v < 65536) : wordsOfBytes (bytesOfWords ws) = ws := by
  induction ws with
  | nil => rfl
  | cons w rest ih =>
    have hcons : wordsOfBytes (bytesOfWords (w :: rest)) =
        ((BitVec.ofNat 8 (w / 256)).toNat * 256 + (BitVec.ofNat 8 w).toNat) :: wordsOfBytes (bytesOfWords rest) := rfl
    rw [hcons, wordBytes_toNat (h w List.mem_cons_self), ih fun v hv => h v (List.mem_cons_of_mem w hv)]

/-- The Decoder reads a span that fits the image back from the bytes after the index. -/
theorem readSpan_spanArgs {words : Nat} {sp : Span} (index : Nat) (hfit : SpanFits words sp) (hwords : words ≤ 32768) :
    readSpan words (spanArgs index sp).tail = .ok sp := by
  obtain ⟨hne, hle, hin, hword⟩ := hfit
  have hoff : wordAt (spanArgs index sp).tail 0 = 2 * sp.start := wordBytes_toNat (by omega)
  have hcount : byteAt (spanArgs index sp).tail 2 = 2 * sp.vals.length :=
    show (BitVec.ofNat 8 (2 * sp.vals.length)).toNat = _ by rw [BitVec.toNat_ofNat]; omega
  have hdata : (spanArgs index sp).tail.drop 3 = bytesOfWords sp.vals := rfl
  have hlen : (spanArgs index sp).tail.length = 2 * sp.vals.length + 3 := by
    rw [← bytesOfWords_length]
    rfl
  unfold readSpan
  rw [hoff, hcount, hdata, hlen, if_neg (by omega), if_neg (by omega), ← bytesOfWords_length, List.take_length,
    wordsOfBytes_bytesOfWords sp.vals hword, Nat.mul_div_cancel_left sp.start (by decide)]

/-- A WRITE of a span that fits, to an object that exists, is judged by its owner. -/
theorem writeObject_spanArgs {n words : Nat} (owner : Fin n → Span → State → Answer) (i : Fin n) {sp : Span} (s : State)
    (hn : n ≤ 256) (hfit : SpanFits words sp) (hwords : words ≤ 32768) :
    writeObject n words owner (spanArgs i.val sp) s = owner i sp s := by
  have hindex : (BitVec.ofNat 8 i.val).toNat = i.val := by
    rw [BitVec.toNat_ofNat]
    omega
  have hargs : spanArgs i.val sp = BitVec.ofNat 8 i.val :: (spanArgs i.val sp).tail := rfl
  rw [writeObject, hargs, indexed_cons _ _ _ _ _ (hindex.trans_lt i.isLt), readSpan_spanArgs i.val hfit hwords]
  simp only [hindex, Fin.eta]

/-! ## The words a span carries -/

theorem touches_iff (sp : Span) (i k : Nat) :
    sp.touches i k = true ↔ sp.start < i + k ∧ i < sp.start + sp.vals.length := by
  simp [Span.touches]

theorem carriedOk_iff (ok : Nat → Nat → Bool) (start : Nat) (vs : List Nat) :
    carriedOk ok start vs = true ↔ ∀ k, k < vs.length → ok (start + k) (vs.getD k 0) = true := by
  induction vs generalizing start with
  | nil => simp [carriedOk]
  | cons v rest ih =>
    rw [carriedOk, Bool.and_eq_true, ih, List.length_cons, Nat.forall_lt_succ_left]
    simp only [Nat.add_zero, List.getD_cons_zero, List.getD_cons_succ, Nat.add_assoc, Nat.add_comm 1]

/-- An owner's range check by word is the listed ranges, where the two agree on the words of the image. -/
theorem inRange_iff_inRanges {ok : Nat → Nat → Bool} {ranges : List (Nat × Nat)} {words : Nat} {sp : Span}
    (hok : ∀ i v, i < words → (ok i v = true ↔ (ranges.getD i (0, 0)).1 ≤ v ∧ v ≤ (ranges.getD i (0, 0)).2))
    (hin : sp.start + sp.vals.length ≤ words) : sp.inRange ok = true ↔ InRanges ranges sp := by
  rw [Span.inRange, carriedOk_iff]
  exact forall₂_congr fun k hk => hok (sp.start + k) (sp.vals.getD k 0) (by omega)

theorem apply_length {sp : Span} {image : List Nat} (hin : sp.start + sp.vals.length ≤ image.length) :
    (sp.apply image).length = image.length := by
  simp only [Span.apply, splice, List.length_append, List.length_take, List.length_drop]
  omega

/-- Each word of the new image is a carried one or the old one in its place. -/
theorem apply_getD {sp : Span} {image : List Nat} (hin : sp.start + sp.vals.length ≤ image.length) (i : Nat) :
    (sp.apply image).getD i 0 = if Carries sp i then sp.val i else image.getD i 0 := by
  have hstart : (image.take sp.start).length = sp.start := List.length_take_of_le (by omega)
  rw [Span.apply, splice, List.append_assoc]
  by_cases hbefore : i < sp.start
  · rw [if_neg (by simp only [Carries]; omega), List.getD_append _ _ _ _ (by omega)]
    simp [List.getD_eq_getElem?_getD, hbefore]
  · rw [List.getD_append_right _ _ _ _ (by omega), hstart]
    by_cases hcarried : i - sp.start < sp.vals.length
    · rw [if_pos (by simp only [Carries]; omega), List.getD_append _ _ _ _ hcarried, Span.val]
    · rw [if_neg (by simp only [Carries]; omega), List.getD_append_right _ _ _ _ (by omega)]
      simp only [List.getD_eq_getElem?_getD, List.getElem?_drop]
      congr 2
      omega

/-! ## The image of the web parameters (Table 2-1) -/

theorem trimCode_le (t : Trim) : trimCode t ≤ 3 := by
  cases t <;> decide

theorem trimCode_trimOfCode {c : Nat} (h : c ≤ 3) : trimCode (trimOfCode c) = c := by
  interval_cases c <;> rfl

/-- The ranges of Table 2-1, by word of the image. -/
def webParamRanges : List (Nat × Nat) :=
  [(200, 2000), (30, 150), (10, 500), (500, 20000), (0, 2000), (100, 10000), (0, 2000), (0, 20000), (0, 3), (0, 3),
    (0, 3), (0, 10000)]

theorem webParamWordOk_iff (i v : Nat) (hi : i < 12) :
    webParamWordOk i v = true ↔ (webParamRanges.getD i (0, 0)).1 ≤ v ∧ v ≤ (webParamRanges.getD i (0, 0)).2 := by
  interval_cases i <;> simp [webParamWordOk, within, webParamRanges]

/-- Words 8 to 10 hold the trim codes of STANDBY, CRAWL and RUN. -/
def TrimWord (i : Nat) : Prop := 8 ≤ i ∧ i < 11

theorem words_trimWord_le (p : WebParams) {i : Nat} (hi : TrimWord i) : p.words.getD i 0 ≤ 3 := by
  obtain ⟨hlow, hhigh⟩ := hi
  interval_cases i <;> exact trimCode_le _

/-- An image whose trim words are codes is the image of the parameters read from it. -/
theorem words_ofWords {ws : List Nat} (hlen : ws.length = 12) (htrim : ∀ i, TrimWord i → ws.getD i 0 ≤ 3) :
    (WebParams.ofWords ws).words = ws := by
  have h8 := trimCode_trimOfCode (htrim 8 ⟨by decide, by decide⟩)
  have h9 := trimCode_trimOfCode (htrim 9 ⟨by decide, by decide⟩)
  have h10 := trimCode_trimOfCode (htrim 10 ⟨by decide, by decide⟩)
  refine List.ext_getElem hlen.symm fun i hi hi' => ?_
  rw [hlen] at hi'
  simp only [WebParams.words, WebParams.ofWords, h8, h9, h10]
  interval_cases i <;> exact List.getD_eq_getElem _ _ _

/-- A carried trim word that is in range is a code. -/
theorem apply_trimWord_le {sp : Span} (p : WebParams) (hin : sp.start + sp.vals.length ≤ 12)
    (hrange : InRanges webParamRanges sp) {i : Nat} (hi : TrimWord i) : (sp.apply p.words).getD i 0 ≤ 3 := by
  rw [apply_getD (image := p.words) hin]
  split
  · next hcarried =>
    obtain ⟨hstart, hend⟩ := hcarried
    have hcode : (webParamRanges.getD i (0, 0)).2 = 3 := by
      obtain ⟨hlow, hhigh⟩ := hi
      interval_cases i <;> rfl
    have hval := (hrange (i - sp.start) (by omega)).2
    rwa [Nat.add_sub_cancel' hstart, hcode] at hval
  · exact words_trimWord_le p hi

/-! ## WRITE_WEB_PARAM (R29) -/

/-- The parameters after an accepted write: the carried values replace the old ones. -/
def writtenParams (sp : Span) (p : WebParams) : WebParams := WebParams.ofWords (sp.apply p.words)

theorem writtenParams_words {sp : Span} (p : WebParams) (hfit : SpanFits 12 sp) (hrange : InRanges webParamRanges sp) :
    (writtenParams sp p).words = sp.apply p.words := by
  obtain ⟨-, -, hin, -⟩ := hfit
  exact words_ofWords (apply_length (image := p.words) hin) fun i => apply_trimWord_le p hin hrange

theorem webParam_inRange_iff {sp : Span} (hfit : SpanFits 12 sp) :
    sp.inRange webParamWordOk = true ↔ InRanges webParamRanges sp := by
  obtain ⟨-, -, hin, -⟩ := hfit
  exact inRange_iff_inRanges webParamWordOk_iff hin

/-- The span writes v_run or the hysteresis, words 3 and 4. -/
theorem touches_speeds_iff {sp : Span} (hfit : SpanFits 12 sp) :
    sp.touches 3 2 = true ↔ Carries sp 3 ∨ Carries sp 4 := by
  obtain ⟨hne, -, -, -⟩ := hfit
  rw [touches_iff]
  simp only [Carries]
  omega

theorem writeWebParam_range (w : Fin 4) {sp : Span} (s : State) (hfit : SpanFits 12 sp)
    (hrange : ¬ InRanges webParamRanges sp) : writeWebParam w sp s = refuse .range s := by
  rw [← webParam_inRange_iff hfit] at hrange
  simp [writeWebParam, hrange]

theorem writeWebParam_check (w : Fin 4) {sp : Span} (s : State) (hfit : SpanFits 12 sp)
    (hrange : InRanges webParamRanges sp) (hspeeds : Carries sp 3 ∨ Carries sp 4)
    (hhyst : (writtenParams sp (s.webs.get w).params).vRun ≤ (writtenParams sp (s.webs.get w).params).hysteresis) :
    writeWebParam w sp s = refuse .check s := by
  rw [← webParam_inRange_iff hfit] at hrange
  rw [← touches_speeds_iff hfit] at hspeeds
  unfold writtenParams at hhyst
  simp [writeWebParam, hrange, hspeeds, hhyst]

theorem writeWebParam_done (w : Fin 4) {sp : Span} (s : State) (hfit : SpanFits 12 sp)
    (hrange : InRanges webParamRanges sp)
    (hsound : ¬ ((Carries sp 3 ∨ Carries sp 4) ∧
      (writtenParams sp (s.webs.get w).params).vRun ≤ (writtenParams sp (s.webs.get w).params).hysteresis)) :
    writeWebParam w sp s =
      done { s with webs := s.webs.set w { s.webs.get w with params := writtenParams sp (s.webs.get w).params } } := by
  rw [← webParam_inRange_iff hfit] at hrange
  rw [← touches_speeds_iff hfit] at hsound
  unfold writtenParams at hsound ⊢
  simp only [writeWebParam, hrange, if_neg hsound]
  simp [State.putWeb]

/-- WRITE_WEB_PARAM in service is answered by its owner. -/
theorem answered_of_writeWebParam {s t : State} (tag : Byte) (w : Fin 4) {sp : Span} {st : Status} {clamped : Bool}
    {data : List Byte} (hs : InService s) (hfit : SpanFits 12 sp)
    (howner : writeWebParam w sp (passed s) = ⟨st, clamped, data, t⟩) (hnode : t.ring.node = s.ring.node) :
    Answered (.writeWebParam ⟨tag, spanArgs w.val sp⟩) s tag 2 st clamped data t :=
  answered_of_owner (code := 2) (rq := ⟨tag, spanArgs w.val sp⟩) (owner := writeObject 4 12 writeWebParam) rfl hs
    ((writeObject_spanArgs writeWebParam w (passed s) (by decide) hfit (by decide)).trans howner) hnode

/-- READ of a web's parameters gives their image (R181). -/
theorem imageOf_webParam (s : State) (w : Fin 4) : imageOf s 6 w.val = some (s.webs.get w).params.words := by
  simp [imageOf, imageAt, asFin, State.params]

/-- Settles O21: the owner's judgement, case by case, on a span that the Decoder reads back from its bytes. -/
theorem webParamWritten : Obligations.WebParamWritten := by
  intro s tag w sp hs hfit
  refine ⟨imageOf_webParam s w, fun hrange => ?_, fun hrange => ?_⟩
  · exact answered_of_writeWebParam tag w hs hfit (writeWebParam_range w (passed s) hfit hrange) (passed_node s)
  · refine ⟨writtenParams sp (s.webs.get w).params, writtenParams_words _ hfit hrange, fun hspeeds hhyst => ?_,
      fun hsound => ?_⟩
    · rw [← passed_webs s] at hhyst
      exact answered_of_writeWebParam tag w hs hfit (writeWebParam_check w (passed s) hfit hrange hspeeds hhyst)
        (passed_node s)
    · rw [← passed_webs s] at hsound ⊢
      exact answered_of_writeWebParam tag w hs hfit (writeWebParam_done w (passed s) hfit hrange hsound) (passed_node s)

end Sys2Proof.WriteProofs

/-! # Profile banks: WRITE and VALIDATE (R61, R63, R64)

The image of a bank and the ranges of its words, then the owner's judgement of a write and of a validation. -/

namespace Sys2Proof.ProfileProofs

open Sys2Proof.Machine Sys2Proof.Statements Sys2Proof.Laws Sys2Proof.WriteProofs

/-! ## The state and the index of a bank -/

@[simp] theorem passed_profiles (s : State) : (passed s).profiles = s.profiles := by
  rw [passed_eq_boundary, boundary_profiles]

theorem putProfiles_nil (s : State) (h : Fin 2) (p : ProfileHousing) :
    s.putProfiles h p [] = { s with profiles := s.profiles.set h p } := by
  simp [State.putProfiles]

/-- The PROFILE index of a housing's bank, 2h + bank (Table 11-7). -/
def profileIndex (h : Fin 2) (bank : Bank) : Fin 4 :=
  ⟨2 * h.val + match bank with | .p => 0 | .q => 1, by cases bank <;> dsimp only <;> omega⟩

@[simp] theorem profileHousingOf_profileIndex (h : Fin 2) (bank : Bank) :
    profileHousingOf (profileIndex h bank) = h := by
  cases bank <;> (revert h; decide)

@[simp] theorem profileBankOf_profileIndex (h : Fin 2) (bank : Bank) :
    profileBankOf (profileIndex h bank) = bank := by
  cases bank <;> (revert h; decide)

/-! ## The image of a bank (Table 4-1) -/

/-- A table read from an image holds the image's words from its start on. -/
theorem ofFn_getD_items {ws : List Nat} {start n : Nat} (hin : start + n ≤ ws.length) :
    (Tab.ofFn fun i : Fin n => ws.getD (start + i.val) 0).items = (ws.drop start).take n := by
  refine List.ext_getElem (by simp [Tab.ofFn]; omega) fun i hi hi' => ?_
  have hlt : i < n := by simpa [Tab.ofFn] using hi
  simp only [Tab.ofFn, List.getElem_ofFn, List.getElem_take, List.getElem_drop]
  exact List.getD_eq_getElem _ _ (by omega)

/-- An image of 239 words is the image of the profile read from it: its fields are consecutive pieces of the image. -/
theorem profile_words_ofWords {ws : List Nat} (hlen : ws.length = 239) : (Profile.ofWords ws).words = ws := by
  have table (start n : Nat) (hin : start + n ≤ 239) :
      (Tab.ofFn fun i : Fin n => ws.getD (start + i.val) 0).items = (ws.drop start).take n :=
    ofFn_getD_items (hin.trans_eq hlen.symm)
  have word (k : Nat) (hk : k < 239) : [ws.getD k 0] = (ws.drop k).take 1 := (table k 1 hk).symm ▸ rfl
  have scalars : [ws.getD 228 0, ws.getD 229 0, ws.getD 230 0, ws.getD 231 0, ws.getD 232 0, ws.getD 233 0,
      ws.getD 234 0, ws.getD 235 0, ws.getD 236 0, ws.getD 237 0, ws.getD 238 0] = (ws.drop 228).take 11 :=
    (table 228 11 (by decide)).symm ▸ rfl
  have whole : ws.take 239 = ws := List.take_of_length_le hlen.le
  simp only [Profile.words, Profile.ofWords, word 0 (by decide), word 9 (by decide), scalars, table, Nat.reduceAdd,
    Nat.reduceLeDiff, List.drop_zero]
  simp only [← List.take_add, Nat.reduceAdd, whole]

/-- Every profile's image has 239 words. -/
theorem profile_words_length (p : Profile) : p.words.length = 239 := by
  simp [Profile.words, Tab.size]

/-! ## The ranges of Table 4-1 -/

/-- The range of word `i` of a bank's image. -/
def profileRange (i : Nat) : Nat × Nat :=
  if i = 0 then (2, 8)
  else if i < 9 then (0, 20000)
  else if i = 9 then (2, 6)
  else if i < 16 then (0, 4000)
  else if i < 208 then (0, 4800)
  else if i < 212 then (0, 256)
  else if i < 220 then (0, 2000)
  else if i < 228 then (0, 10000)
  else if i < 230 then (0, 4800)
  else if i < 232 then (0, 1600)
  else if i = 232 then (0, 256)
  else if i = 233 then (0, 65535)
  else if i < 237 then (0, 10000)
  else if i = 237 then (0, 800)
  else (0, 31)

/-- The ranges field by field, as Table 4-1 lists them. -/
def profileRanges : List (Nat × Nat) :=
  [(2, 8)] ++ List.replicate 8 (0, 20000) ++ [(2, 6)] ++ List.replicate 6 (0, 4000) ++
    List.replicate 192 (0, 4800) ++ List.replicate 4 (0, 256) ++ List.replicate 8 (0, 2000) ++
    List.replicate 8 (0, 10000) ++ List.replicate 2 (0, 4800) ++ List.replicate 2 (0, 1600) ++
    [(0, 256), (0, 65535), (0, 10000), (0, 10000), (0, 10000), (0, 800), (0, 31)]

theorem profileRanges_eq_map : profileRanges = (List.range 239).map profileRange := by decide +kernel

theorem profileRanges_getD {i : Nat} (hi : i < 239) : profileRanges.getD i (0, 0) = profileRange i := by
  simp [profileRanges_eq_map, hi]

theorem profileWordOk_eq_within (i v : Nat) :
    profileWordOk i v = within (profileRange i).1 (profileRange i).2 v := by
  change _ = (fun r : Nat × Nat => within r.1 r.2 v) (profileRange i)
  rw [profileRange]
  simp only [apply_ite fun r : Nat × Nat => within r.1 r.2 v]
  rfl

theorem profileWordOk_iff (i v : Nat) (hi : i < 239) :
    profileWordOk i v = true ↔ (profileRanges.getD i (0, 0)).1 ≤ v ∧ v ≤ (profileRanges.getD i (0, 0)).2 := by
  rw [profileRanges_getD hi, profileWordOk_eq_within]
  simp [within]

theorem profile_inRange_iff {sp : Span} (hfit : SpanFits 239 sp) :
    sp.inRange profileWordOk = true ↔ InRanges profileRanges sp := by
  obtain ⟨-, -, hin, -⟩ := hfit
  exact inRange_iff_inRanges profileWordOk_iff hin

/-! ## WRITE_PROFILE (R63) -/

/-- A bank that may not be written: in use, or reserved as the incoming bank of a switch. -/
def Busy (p : ProfileHousing) (bank : Bank) : Prop := (p.bank bank).state = .inUse ∨ p.switch = some bank

/-- The bank after an accepted write: the carried values replace the old ones, and it is INVALID. -/
def writtenBank (sp : Span) (x : ProfileBank) : ProfileBank :=
  ⟨Profile.ofWords (sp.apply x.fields.words), .invalid⟩

theorem writtenBank_words {sp : Span} (x : ProfileBank) (hfit : SpanFits 239 sp) :
    (writtenBank sp x).fields.words = sp.apply x.fields.words := by
  obtain ⟨-, -, hin, -⟩ := hfit
  have hlen := profile_words_length x.fields
  exact profile_words_ofWords ((apply_length (hin.trans_eq hlen.symm)).trans hlen)

theorem writeProfile_busy (h : Fin 2) (bank : Bank) (sp : Span) (s : State) (hbusy : Busy (s.profiles.get h) bank) :
    writeProfile (profileIndex h bank) sp s = refuse .busy s := by
  rcases hbusy with hstate | hswitch
  · simp [writeProfile, hstate]
  · simp [writeProfile, ProfileHousing.switching, hswitch]

/-- A bank that may be written is judged by the ranges alone. -/
theorem writeProfile_of_not_busy (h : Fin 2) (bank : Bank) (sp : Span) (s : State)
    (hfree : ¬ Busy (s.profiles.get h) bank) :
    writeProfile (profileIndex h bank) sp s =
      if sp.inRange profileWordOk then
        let p := s.profiles.get h
        done { s with profiles := s.profiles.set h (p.setBank bank (writtenBank sp (p.bank bank))) }
      else refuse .range s := by
  obtain ⟨hstate, hswitch⟩ := not_or.mp hfree
  cases hrange : sp.inRange profileWordOk <;>
    simp [writeProfile, ProfileHousing.switching, hstate, hswitch, hrange, putProfiles_nil, writtenBank]

/-- WRITE_PROFILE in service is answered by its owner. -/
theorem answered_of_writeProfile {s t : State} (tag : Byte) (h : Fin 2) (bank : Bank) {sp : Span} {st : Status}
    {clamped : Bool} {data : List Byte} (hs : InService s) (hfit : SpanFits 239 sp)
    (howner : writeProfile (profileIndex h bank) sp (passed s) = ⟨st, clamped, data, t⟩)
    (hnode : t.ring.node = s.ring.node) :
    Answered (.writeProfile ⟨tag, spanArgs (profileIndex h bank).val sp⟩) s tag 2 st clamped data t :=
  answered_of_owner (code := 2) (rq := ⟨tag, spanArgs (profileIndex h bank).val sp⟩)
    (owner := writeObject 4 239 writeProfile) rfl hs
    ((writeObject_spanArgs writeProfile (profileIndex h bank) (passed s) (by decide) hfit (by decide)).trans howner)
    hnode

/-! ## The six conditions of a sound bank (Table 4-3) -/

theorem rising_iff_pairwise (xs : List Nat) : rising xs = true ↔ xs.Pairwise (· < ·) := by
  rw [← List.isChain_iff_pairwise]
  induction xs with
  | nil => simp [rising]
  | cons a rest ih =>
    cases rest with
    | nil => simp [rising]
    | cons b rest => simp [rising, ih]

theorem sum_items_four (t : Tab Nat 4) : t.items.sum = t.get 0 + t.get 1 + t.get 2 + t.get 3 := by
  obtain ⟨items, size⟩ := t
  match items, size with
  | [a, b, c, d], _ => simp [Tab.get, Nat.add_assoc]

/-- The conditions of Table 4-3, in their order. -/
def profileConds (f : Profile) : List Prop :=
  [2 ≤ f.n ∧ f.n ≤ 8, 2 ≤ f.m ∧ f.m ≤ 6,
    f.speeds.get 0 = 0 ∧ (f.speeds.items.take f.n).Pairwise (· < ·),
    f.loads.get 0 = 0 ∧ (f.loads.items.take f.m).Pairwise (· < ·),
    f.share.get 0 + f.share.get 1 + f.share.get 2 + f.share.get 3 ≤ 256,
    f.dampMin ≤ f.dampBase ∧ f.dampBase ≤ f.dampMax]

open Classical in
/-- The model's search for a failure numbers the conditions from 1 and finds the first that does not hold. -/
theorem profileFailure_eq_findIdx (f : Profile) :
    profileFailure f = ((profileConds f).findIdx? fun q => decide (¬ q)).map (· + 1) := by
  simp only [profileFailure, within, profileConds, sum_items_four, List.findIdx?_cons, List.findIdx?_nil,
    ← Nat.not_le, Bool.not_eq_true', ← Bool.not_eq_true, Bool.and_eq_true, decide_eq_true_eq, rising_iff_pairwise]
  split_ifs <;> rfl

theorem profileFailure_of_sound {f : Profile} (hsound : ∀ q ∈ profileConds f, q) : profileFailure f = none := by
  rw [profileFailure_eq_findIdx, Option.map_eq_none_iff, List.findIdx?_eq_none_iff]
  simpa using hsound

open Classical in
/-- The failure is the number, from 1 on, of the first condition that does not hold. -/
theorem profileFailure_of_first {f : Profile} {i : Nat} (hi : i < 6) (hfails : ¬ (profileConds f).getD i True)
    (hbefore : ∀ j, j < i → (profileConds f).getD j True) : profileFailure f = some (i + 1) := by
  have hfound : ((profileConds f).findIdx? fun q => decide (¬ q)) = some i := by
    rw [List.findIdx?_eq_some_iff_getElem]
    have hin : i < (profileConds f).length := hi
    refine ⟨hin, ?_, fun j hj => ?_⟩
    · rw [List.getD_eq_getElem _ _ hin] at hfails
      exact decide_eq_true hfails
    · have holds := hbefore j hj
      rw [List.getD_eq_getElem _ _ (hj.trans hin)] at holds
      simpa using holds
  rw [profileFailure_eq_findIdx, hfound, Option.map_some]

/-! ## VALIDATE_PROFILE (R64) -/

theorem validateProfile_of_ne_invalid (h : Fin 2) (bank : Bank) (rest : List Byte) (s : State)
    (hstate : ((s.profiles.get h).bank bank).state ≠ .invalid) :
    validateProfile (profileIndex h bank) rest s = done s := by
  simp [validateProfile, hstate]

theorem validateProfile_of_sound (h : Fin 2) (bank : Bank) (rest : List Byte) (s : State)
    (hstate : ((s.profiles.get h).bank bank).state = .invalid)
    (hsound : ∀ q ∈ profileConds ((s.profiles.get h).bank bank).fields, q) :
    validateProfile (profileIndex h bank) rest s =
      let p := s.profiles.get h
      done { s with profiles := s.profiles.set h (p.setBank bank { p.bank bank with state := .valid }) } := by
  simp [validateProfile, hstate, profileFailure_of_sound hsound, putProfiles_nil]

theorem validateProfile_of_first (h : Fin 2) (bank : Bank) (rest : List Byte) (s : State) {i : Nat} (hi : i < 6)
    (hstate : ((s.profiles.get h).bank bank).state = .invalid)
    (hfails : ¬ (profileConds ((s.profiles.get h).bank bank).fields).getD i True)
    (hbefore : ∀ j, j < i → (profileConds ((s.profiles.get h).bank bank).fields).getD j True) :
    validateProfile (profileIndex h bank) rest s = refuseWith .check [byteOf (i + 1)] s := by
  simp [validateProfile, hstate, profileFailure_of_first hi hfails hbefore]

/-- VALIDATE_PROFILE in service is answered by its owner. -/
theorem answered_of_validateProfile {s t : State} (tag : Byte) (h : Fin 2) (bank : Bank) {st : Status} {clamped : Bool}
    {data : List Byte} (hs : InService s)
    (howner : validateProfile (profileIndex h bank) [] (passed s) = ⟨st, clamped, data, t⟩)
    (hnode : t.ring.node = s.ring.node) :
    Answered (.validateProfile ⟨tag, [BitVec.ofNat 8 (profileIndex h bank).val]⟩) s tag 3 st clamped data t := by
  have hindex : (BitVec.ofNat 8 (profileIndex h bank).val).toNat = (profileIndex h bank).val := by
    rw [BitVec.toNat_ofNat]
    omega
  refine answered_of_owner (code := 3) (rq := ⟨tag, [BitVec.ofNat 8 (profileIndex h bank).val]⟩)
    (owner := indexed 4 validateProfile) rfl hs ?_ hnode
  rw [indexed_cons _ _ _ _ _ (hindex.trans_lt (profileIndex h bank).isLt)]
  simpa only [hindex, Fin.eta] using howner

/-! ## The two requests together -/

theorem profileWritten (s : State) (tag : Byte) (h : Fin 2) (bank : Bank) (sp : Span) (hs : InService s)
    (hfit : SpanFits 239 sp) :
    let c := Instr.writeProfile ⟨tag, spanArgs (profileIndex h bank).val sp⟩
    let p := s.profiles.get h
    let x := p.bank bank
    (Busy p bank → Refused c s tag 2 .busy []) ∧
    (¬ Busy p bank → ¬ InRanges profileRanges sp → Refused c s tag 2 .range []) ∧
    (¬ Busy p bank → InRanges profileRanges sp → ∃ x' : ProfileBank, Carried sp x.fields.words x'.fields.words ∧
      x'.state = .invalid ∧ Done c s tag 2 { passed s with profiles := s.profiles.set h (p.setBank bank x') }) := by
  have hprofiles := passed_profiles s
  refine ⟨fun hbusy => ?_, fun hfree hrange => ?_, fun hfree hrange => ?_⟩
  · rw [← hprofiles] at hbusy
    exact answered_of_writeProfile tag h bank hs hfit (writeProfile_busy h bank sp (passed s) hbusy) (passed_node s)
  · rw [← hprofiles] at hfree
    rw [← profile_inRange_iff hfit] at hrange
    exact answered_of_writeProfile tag h bank hs hfit
      ((writeProfile_of_not_busy h bank sp (passed s) hfree).trans (if_neg hrange)) (passed_node s)
  · refine ⟨writtenBank sp ((s.profiles.get h).bank bank), writtenBank_words _ hfit, rfl, ?_⟩
    rw [← hprofiles] at hfree ⊢
    rw [← profile_inRange_iff hfit] at hrange
    exact answered_of_writeProfile tag h bank hs hfit
      ((writeProfile_of_not_busy h bank sp (passed s) hfree).trans (if_pos hrange)) (passed_node s)

theorem profileValidated (s : State) (tag : Byte) (h : Fin 2) (bank : Bank) (hs : InService s) :
    let c := Instr.validateProfile ⟨tag, [BitVec.ofNat 8 (profileIndex h bank).val]⟩
    let p := s.profiles.get h
    let x := p.bank bank
    let conds := profileConds x.fields
    (x.state ≠ .invalid → Done c s tag 3 (passed s)) ∧
    (x.state = .invalid → (∀ q ∈ conds, q) → Done c s tag 3
      { passed s with profiles := s.profiles.set h (p.setBank bank { x with state := .valid }) }) ∧
    (∀ i, i < 6 → x.state = .invalid → ¬ conds.getD i True → (∀ j, j < i → conds.getD j True) →
      Refused c s tag 3 .check [BitVec.ofNat 8 (i + 1)]) := by
  rw [← passed_profiles s]
  refine ⟨fun hstate => ?_, fun hstate hsound => ?_, fun i hi hstate hfails hbefore => ?_⟩
  · exact answered_of_validateProfile tag h bank hs (validateProfile_of_ne_invalid h bank [] (passed s) hstate)
      (passed_node s)
  · exact answered_of_validateProfile tag h bank hs (validateProfile_of_sound h bank [] (passed s) hstate hsound)
      (passed_node s)
  · exact answered_of_validateProfile tag h bank hs
      (validateProfile_of_first h bank [] (passed s) hi hstate hfails hbefore) (passed_node s)

/-- Settles O19: the owner's judgement of a write and of a validation, at the index of the bank. -/
theorem profileWrittenAndValidated : Obligations.ProfileWrittenAndValidated :=
  ⟨profileWritten, profileValidated⟩

end Sys2Proof.ProfileProofs

/-! # The set point (R75, R76)

The place of an input on its breakpoints is what the model's search finds; then each floored interpolation lies between
its two ends. -/

namespace Sys2Proof.SetPointProofs

open Sys2Proof.Machine

/-! ## The place of an input on its breakpoints (R75) -/

/-- Input `x` stands on the first `n` breakpoints in row `i` at fraction `f`: at or above the top one, or
between two. -/
def Placed (xs : List Nat) (n x i f : Nat) : Prop :=
  (xs.getD (n - 1) 0 ≤ x ∧ i = n - 2 ∧ f = 256) ∨
    (i + 2 ≤ n ∧ xs.getD i 0 ≤ x ∧ x < xs.getD (i + 1) 0 ∧
      f = (x - xs.getD i 0) * 256 / (xs.getD (i + 1) 0 - xs.getD i 0))

theorem Placed.fraction_le {xs : List Nat} {n x i f : Nat} (h : Placed xs n x i f) : f ≤ 256 := by
  rcases h with ⟨-, -, rfl⟩ | ⟨-, hlow, hhigh, rfl⟩
  · exact le_rfl
  · refine Nat.div_le_of_le_mul ?_
    exact Nat.mul_le_mul_right 256 (by omega)

/-- Breakpoints beyond the count do not matter. -/
theorem Placed.take {xs : List Nat} {n x i f : Nat} (h : Placed xs n x i f) (hn : 2 ≤ n) :
    Placed (xs.take n) n x i f := by
  have hsame (k : Nat) (hk : k < n) : (xs.take n).getD k 0 = xs.getD k 0 := by
    simp [List.getD_eq_getElem?_getD, hk]
  rcases h with ⟨htop, hi, hf⟩ | ⟨hin, hrow⟩
  · exact .inl ⟨by rwa [hsame (n - 1) (by omega)], hi, hf⟩
  · exact .inr ⟨hin, by rwa [hsame i (by omega), hsame (i + 1) (by omega)]⟩

/-- On breakpoints that rise no earlier one is greater. -/
theorem getD_le_getD_of_rising {xs : List Nat} (hrise : xs.Pairwise (· < ·)) {i j : Nat} (hij : i ≤ j)
    (hj : j < xs.length) : xs.getD i 0 ≤ xs.getD j 0 := by
  rw [List.getD_eq_getElem _ _ (by omega), List.getD_eq_getElem _ _ hj]
  exact hrise.imp le_of_lt |>.rel_get_of_le (a := ⟨i, by omega⟩) (b := ⟨j, hj⟩) hij

/-- An input not below the second breakpoint is placed on the rest of the breakpoints. -/
theorem bracketFrom_skip {a b : Nat} {rest : List Nat} {k x : Nat} (hx : b ≤ x) (hrest : rest ≠ []) :
    bracketFrom (a :: b :: rest) k x = bracketFrom (b :: rest) (k + 1) x := by
  rw [bracketFrom, if_neg (by omega), if_neg hrest]

/-- An input below the second breakpoint stands in the first row. -/
theorem Placed.first_row {a b : Nat} {rest : List Nat} {x i f : Nat} (hrise : (a :: b :: rest).Pairwise (· < ·))
    (h : Placed (a :: b :: rest) (rest.length + 2) x i f) (hx : x < b) : i = 0 ∧ f = (x - a) * 256 / (b - a) := by
  have above (k : Nat) (hk : 1 ≤ k) (hin : k < rest.length + 2) : b ≤ (a :: b :: rest).getD k 0 :=
    getD_le_getD_of_rising hrise hk hin
  rcases h with ⟨htop, -, -⟩ | ⟨hin, hlow, -, hf⟩
  · have := above (rest.length + 2 - 1) (by omega) (by omega)
    omega
  · obtain rfl : i = 0 := by
      by_contra hi
      have := above i (by omega) (by omega)
      omega
    exact ⟨rfl, hf⟩

/-- An input not below the second of two breakpoints stands at the top. -/
theorem Placed.top_of_two {a b x i f : Nat} (h : Placed [a, b] 2 x i f) (hx : b ≤ x) : i = 0 ∧ f = 256 := by
  rcases h with ⟨-, hi, hf⟩ | ⟨hin, -, hhigh, -⟩
  · exact ⟨hi, hf⟩
  · obtain rfl : i = 0 := by omega
    exact absurd hhigh (Nat.not_lt.mpr hx)

/-- An input not below the second of more breakpoints has its place, one row on, on the rest of them. -/
theorem Placed.tail {a b c : Nat} {rest : List Nat} {x i f : Nat}
    (h : Placed (a :: b :: c :: rest) (rest.length + 3) x i f) (hx : b ≤ x) :
    ∃ j, i = j + 1 ∧ Placed (b :: c :: rest) (rest.length + 2) x j f := by
  rcases h with ⟨htop, hi, hf⟩ | ⟨hin, hlow, hhigh, hf⟩
  · exact ⟨rest.length, hi, .inl ⟨htop, rfl, hf⟩⟩
  · cases i with
    | zero => exact absurd hhigh (Nat.not_lt.mpr hx)
    | succ j => exact ⟨j, rfl, .inr ⟨by omega, hlow, hhigh, hf⟩⟩

/-- The model's search finds the place, counting rows from `k`. -/
theorem bracketFrom_of_placed (a b : Nat) (rest : List Nat) (hrise : (a :: b :: rest).Pairwise (· < ·)) {x i f : Nat}
    (k : Nat) (hplace : Placed (a :: b :: rest) (rest.length + 2) x i f) :
    bracketFrom (a :: b :: rest) k x = (k + i, f) := by
  induction rest generalizing a b i k with
  | nil =>
    by_cases hx : x < b
    · obtain ⟨rfl, rfl⟩ := hplace.first_row hrise hx
      rw [bracketFrom, if_pos hx, Nat.add_zero]
    · obtain ⟨rfl, rfl⟩ := hplace.top_of_two (Nat.not_lt.mp hx)
      rw [bracketFrom, if_neg hx, if_pos rfl, Nat.add_zero]
  | cons c rest ih =>
    by_cases hx : x < b
    · obtain ⟨rfl, rfl⟩ := hplace.first_row hrise hx
      rw [bracketFrom, if_pos hx, Nat.add_zero]
    · obtain ⟨j, rfl, hrest⟩ := hplace.tail (Nat.not_lt.mp hx)
      rw [bracketFrom_skip (Nat.not_lt.mp hx) (List.cons_ne_nil c rest), ih b c hrise.of_cons (k + 1) hrest]
      congr 1
      omega

/-- The place of an input on the first `n` breakpoints of a table is where the model looks it up. -/
theorem bracketFrom_take {xs : List Nat} {n x i f : Nat} (hn : 2 ≤ n) (hlen : n ≤ xs.length)
    (hrise : (xs.take n).Pairwise (· < ·)) (hplace : Placed xs n x i f) : bracketFrom (xs.take n) 0 x = (i, f) := by
  have htaken : (xs.take n).length = n := List.length_take_of_le hlen
  have hplace := hplace.take hn
  match hxs : xs.take n, htaken with
  | a :: b :: rest, htaken =>
    rw [hxs] at hplace hrise
    rw [bracketFrom_of_placed a b rest hrise 0 (htaken ▸ hplace), Nat.zero_add]
  | [_], htaken => simp at htaken; omega
  | [], htaken => simp at htaken; omega

/-! ## The set point between its cells (R76) -/

/-- The floored step toward `b` by a fraction up to 256 stays between `a` and `b`. -/
theorem lerp_between (a b : Int) {f : Nat} (hf : f ≤ 256) : min a b ≤ lerp a b f ∧ lerp a b f ≤ max a b := by
  have hf' : (f : Int) ≤ 256 := by exact_mod_cast hf
  unfold lerp
  rcases le_total a b with hab | hba
  · have hlow : 0 ≤ (b - a) * f := mul_nonneg (by omega) (by omega)
    have hhigh : (b - a) * f ≤ (b - a) * 256 := mul_le_mul_of_nonneg_left hf' (by omega)
    omega
  · have hlow : (b - a) * 256 ≤ (b - a) * f := mul_le_mul_of_nonpos_left hf' (by omega)
    have hhigh : (b - a) * f ≤ 0 := mul_nonpos_of_nonpos_of_nonneg (by omega) (by omega)
    omega

theorem gridCell_nonneg (p : Profile) (i j : Nat) (z : Fin 4) : 0 ≤ gridCell p i j z := Int.natCast_nonneg _

/-- With both inputs placed, the set point is the interpolation of the four cells, which no floor makes negative. -/
theorem interpolate_of_placed {p : Profile} (z : Fin 4) {s l i j fs fl : Nat} (hn : 2 ≤ p.n) (hn8 : p.n ≤ 8)
    (hm : 2 ≤ p.m) (hm6 : p.m ≤ 6) (hspeeds : (p.speeds.items.take p.n).Pairwise (· < ·))
    (hloads : (p.loads.items.take p.m).Pairwise (· < ·)) (hs : Placed p.speeds.items p.n s i fs)
    (hl : Placed p.loads.items p.m l j fl) :
    (interpolate p z s l : Int) =
      lerp (lerp (gridCell p i j z) (gridCell p i (j + 1) z) fl)
        (lerp (gridCell p (i + 1) j z) (gridCell p (i + 1) (j + 1) z) fl) fs := by
  have hrow := bracketFrom_take hn (hn8.trans_eq p.speeds.size.symm) hspeeds hs
  have hcolumn := bracketFrom_take hm (hm6.trans_eq p.loads.size.symm) hloads hl
  have cell_nonneg := gridCell_nonneg p
  have ha := lerp_between (gridCell p i j z) (gridCell p i (j + 1) z) hl.fraction_le
  have hb := lerp_between (gridCell p (i + 1) j z) (gridCell p (i + 1) (j + 1) z) hl.fraction_le
  simp only [interpolate, hrow, hcolumn]
  refine Int.toNat_of_nonneg (le_trans ?_ (lerp_between _ _ hs.fraction_le).1)
  exact le_min ((le_min (cell_nonneg _ _ _) (cell_nonneg _ _ _)).trans ha.1)
    ((le_min (cell_nonneg _ _ _) (cell_nonneg _ _ _)).trans hb.1)

/-- Settles O38: each of the three interpolations lies between its two ends, so the set point lies between the cells. -/
theorem setPointInterpolated : Obligations.SetPointInterpolated := by
  intro p z s l i j fs fl hn hn8 hm hm6 hspeeds hloads _ _ S L v hs hl a b
  have hs : Placed p.speeds.items p.n s i fs := hs
  have hl : Placed p.loads.items p.m l j fl := hl
  have hvalue : (interpolate p z s l : Int) = a + (b - a) * fs / 256 :=
    interpolate_of_placed z hn hn8 hm hm6 hspeeds hloads hs hl
  obtain ⟨ha_low, ha_high⟩ : min (v i j) (v i (j + 1)) ≤ a ∧ a ≤ max (v i j) (v i (j + 1)) :=
    lerp_between _ _ hl.fraction_le
  obtain ⟨hb_low, hb_high⟩ : min (v (i + 1) j) (v (i + 1) (j + 1)) ≤ b ∧ b ≤ max (v (i + 1) j) (v (i + 1) (j + 1)) :=
    lerp_between _ _ hl.fraction_le
  obtain ⟨hlow, hhigh⟩ : min a b ≤ (interpolate p z s l : Int) ∧ (interpolate p z s l : Int) ≤ max a b :=
    hvalue ▸ lerp_between a b hs.fraction_le
  exact ⟨hvalue, ha_low, ha_high, hb_low, hb_high, hlow, hhigh, (min_le_min ha_low hb_low).trans hlow,
    hhigh.trans (max_le_max ha_high hb_high)⟩

end Sys2Proof.SetPointProofs

/-! # WRITE of zone and circuit B loops (R81, R114)

The ranges of the three words, what new parameters do to a loop with and without a carried limit, and the owner's
judgement by zone and by web. -/

namespace Sys2Proof.LoopProofs

open Sys2Proof.Machine Sys2Proof.Statements Sys2Proof.Laws Sys2Proof.WriteProofs

@[simp] theorem passed_loops (s : State) : (passed s).loops = s.loops := by
  rw [passed_eq_boundary, boundary_loops]

@[simp] theorem passed_finishing (s : State) : (passed s).finishing = s.finishing := by
  rw [passed_eq_boundary, boundary_finishing]

/-! ## The index and the image of a loop (Table 11-7) -/

/-- The zone loops stand first among the twelve. -/
def zoneIndex (j : Fin 8) : Fin 12 := Fin.castAdd 4 j

/-- The circuit B loops follow the eight zone loops. -/
def circuitIndex (w : Fin 4) : Fin 12 := Fin.natAdd 8 w

theorem imageOf_zone (s : State) (j : Fin 8) :
    imageOf s 5 j.val = some [(s.loops.get j).kp, (s.loops.get j).ki, (s.loops.get j).iLimit] := by
  have hindex : j.val < 12 := (zoneIndex j).isLt
  simp [imageOf, imageAt, asFin, hindex]

theorem imageOf_circuit (s : State) (w : Fin 4) :
    imageOf s 5 (8 + w.val) =
      some [(s.finishing.get w).kp, (s.finishing.get w).ki, (s.finishing.get w).iLimit] := by
  have hindex : 8 + w.val < 12 := (circuitIndex w).isLt
  simp [imageOf, imageAt, asFin, hindex]

/-! ## The three words a WRITE may carry -/

/-- The ranges of Kp, Ki and I_limit. -/
def loopRanges : List (Nat × Nat) := [(0, 1000), (0, 1000), (0, 10000)]

theorem loopWordOk_iff (i v : Nat) (hi : i < 3) :
    loopWordOk i v = true ↔ (loopRanges.getD i (0, 0)).1 ≤ v ∧ v ≤ (loopRanges.getD i (0, 0)).2 := by
  interval_cases i <;> simp [loopWordOk, within, loopRanges]

theorem loop_inRange_iff {sp : Span} (hfit : SpanFits 3 sp) : sp.inRange loopWordOk = true ↔ InRanges loopRanges sp := by
  obtain ⟨-, -, hin, -⟩ := hfit
  exact inRange_iff_inRanges loopWordOk_iff hin

theorem covers_iff (sp : Span) (i : Nat) : sp.covers i = true ↔ Carries sp i := by
  simp [Span.covers]

theorem apply_three_words {sp : Span} (hfit : SpanFits 3 sp) (a b c : Nat) :
    ∃ kp ki limit, sp.apply [a, b, c] = [kp, ki, limit] := by
  obtain ⟨-, -, hin, -⟩ := hfit
  exact List.length_eq_three.mp (apply_length (image := [a, b, c]) hin)

/-! ## New parameters in a loop -/

/-- The accumulator within ±I_limit × 4096, as the statement writes it. -/
def boundedAcc (limit : Nat) (acc : Int) : Int := max (-(limit * 4096 : Int)) (min acc (limit * 4096 : Int))

theorem boundAcc_eq_boundedAcc (limit : Nat) (acc : Int) : boundAcc limit acc = boundedAcc limit acc := by
  simp [boundAcc, boundedAcc, clampInt]

theorem integralTerm_eq_div (acc : Int) : integralTerm acc = acc / 4096 := rfl

/-- A carried limit bounds the accumulator at once and sets the last trim from it. -/
theorem retuneLoop_limited (l : ZoneLoop) (kp ki limit : Nat) :
    retuneLoop l [kp, ki, limit] true =
      { l with kp := kp, ki := ki, iLimit := limit, iAcc := boundedAcc limit l.iAcc,
               lastTrim := l.lastP + boundedAcc limit l.iAcc / 4096 } := by
  simp [retuneLoop, boundAcc_eq_boundedAcc, integralTerm_eq_div]

theorem retuneLoop_unlimited (l : ZoneLoop) (kp ki limit : Nat) :
    retuneLoop l [kp, ki, limit] false = { l with kp := kp, ki := ki, iLimit := limit } := rfl

theorem retuneChill_limited (f : Finishing) (kp ki limit : Nat) :
    retuneChill f [kp, ki, limit] true =
      { f with kp := kp, ki := ki, iLimit := limit, iAcc := boundedAcc limit f.iAcc,
               lastTrim := f.lastP + boundedAcc limit f.iAcc / 4096 } := by
  simp [retuneChill, boundAcc_eq_boundedAcc, integralTerm_eq_div]

theorem retuneChill_unlimited (f : Finishing) (kp ki limit : Nat) :
    retuneChill f [kp, ki, limit] false = { f with kp := kp, ki := ki, iLimit := limit } := rfl

/-! ## WRITE_LOOP (R81, R114) -/

theorem writeLoop_range (i : Fin 12) {sp : Span} (s : State) (hfit : SpanFits 3 sp)
    (hrange : ¬ InRanges loopRanges sp) : writeLoop i sp s = refuse .range s := by
  rw [← loop_inRange_iff hfit] at hrange
  simp [writeLoop, hrange]

theorem writeLoop_zone (j : Fin 8) {sp : Span} (s : State) (hfit : SpanFits 3 sp) (hrange : InRanges loopRanges sp)
    {ws : List Nat} (hcarried : sp.apply [(s.loops.get j).kp, (s.loops.get j).ki, (s.loops.get j).iLimit] = ws) :
    writeLoop (zoneIndex j) sp s =
      done { s with loops := s.loops.set j (retuneLoop (s.loops.get j) ws (sp.covers 2)) } := by
  rw [← loop_inRange_iff hfit] at hrange
  simp [writeLoop, zoneIndex, hrange, hcarried]

theorem writeLoop_circuit (w : Fin 4) {sp : Span} (s : State) (hfit : SpanFits 3 sp) (hrange : InRanges loopRanges sp)
    {ws : List Nat}
    (hcarried : sp.apply [(s.finishing.get w).kp, (s.finishing.get w).ki, (s.finishing.get w).iLimit] = ws) :
    writeLoop (circuitIndex w) sp s =
      done { s with finishing := s.finishing.set w (retuneChill (s.finishing.get w) ws (sp.covers 2)) } := by
  rw [← loop_inRange_iff hfit] at hrange
  simp [writeLoop, circuitIndex, hrange, hcarried]

/-- WRITE_LOOP in service is answered by its owner. -/
theorem answered_of_writeLoop {s t : State} (tag : Byte) (i : Fin 12) {sp : Span} {st : Status} {clamped : Bool}
    {data : List Byte} (hs : InService s) (hfit : SpanFits 3 sp)
    (howner : writeLoop i sp (passed s) = ⟨st, clamped, data, t⟩) (hnode : t.ring.node = s.ring.node) :
    Answered (.writeLoop ⟨tag, spanArgs i.val sp⟩) s tag 2 st clamped data t :=
  answered_of_owner (code := 2) (rq := ⟨tag, spanArgs i.val sp⟩) (owner := writeObject 12 3 writeLoop) rfl hs
    ((writeObject_spanArgs writeLoop i (passed s) (by decide) hfit (by decide)).trans howner) hnode

theorem refused_of_writeLoop_range {s : State} (tag : Byte) (i : Fin 12) {sp : Span} (hs : InService s)
    (hfit : SpanFits 3 sp) (hrange : ¬ InRanges loopRanges sp) :
    Refused (.writeLoop ⟨tag, spanArgs i.val sp⟩) s tag 2 .range [] :=
  answered_of_writeLoop tag i hs hfit (writeLoop_range i (passed s) hfit hrange) (passed_node s)

/-- A zone loop takes the words as they stand after the write. -/
theorem done_of_writeLoop_zone {s : State} (tag : Byte) (j : Fin 8) {sp : Span} (hs : InService s)
    (hfit : SpanFits 3 sp) (hrange : InRanges loopRanges sp) {ws : List Nat}
    (hcarried : sp.apply [(s.loops.get j).kp, (s.loops.get j).ki, (s.loops.get j).iLimit] = ws) :
    Done (.writeLoop ⟨tag, spanArgs j.val sp⟩) s tag 2
      { passed s with loops := s.loops.set j (retuneLoop (s.loops.get j) ws (sp.covers 2)) } := by
  rw [← passed_loops s] at hcarried ⊢
  exact answered_of_writeLoop tag (zoneIndex j) hs hfit (writeLoop_zone j (passed s) hfit hrange hcarried)
    (passed_node s)

/-- A circuit B loop takes the words as they stand after the write. -/
theorem done_of_writeLoop_circuit {s : State} (tag : Byte) (w : Fin 4) {sp : Span} (hs : InService s)
    (hfit : SpanFits 3 sp) (hrange : InRanges loopRanges sp) {ws : List Nat}
    (hcarried : sp.apply [(s.finishing.get w).kp, (s.finishing.get w).ki, (s.finishing.get w).iLimit] = ws) :
    Done (.writeLoop ⟨tag, spanArgs (8 + w.val) sp⟩) s tag 2
      { passed s with finishing := s.finishing.set w (retuneChill (s.finishing.get w) ws (sp.covers 2)) } := by
  rw [← passed_finishing s] at hcarried ⊢
  exact answered_of_writeLoop tag (circuitIndex w) hs hfit (writeLoop_circuit w (passed s) hfit hrange hcarried)
    (passed_node s)

/-- Settles O20: the loop retuned with the words after the write, by zone and by web, with the limit carried or not. -/
theorem loopWritten : Obligations.LoopWritten := by
  intro s tag sp hs hfit
  refine ⟨fun j => ⟨imageOf_zone s j, refused_of_writeLoop_range tag (zoneIndex j) hs hfit, fun hrange => ?_⟩,
    fun w => ⟨imageOf_circuit s w, refused_of_writeLoop_range tag (circuitIndex w) hs hfit, fun hrange => ?_⟩⟩
  · obtain ⟨kp, ki, limit, hcarried⟩ := apply_three_words hfit _ _ _
    have hdone := done_of_writeLoop_zone tag j hs hfit hrange hcarried
    refine ⟨kp, ki, limit, hcarried.symm, fun hlimit => ?_, fun hlimit => ?_⟩
    · rwa [(covers_iff sp 2).mpr hlimit, retuneLoop_limited] at hdone
    · rwa [Bool.eq_false_iff.mpr ((covers_iff sp 2).not.mpr hlimit), retuneLoop_unlimited] at hdone
  · obtain ⟨kp, ki, limit, hcarried⟩ := apply_three_words hfit _ _ _
    have hdone := done_of_writeLoop_circuit tag w hs hfit hrange hcarried
    refine ⟨kp, ki, limit, hcarried.symm, fun hlimit => ?_, fun hlimit => ?_⟩
    · rwa [(covers_iff sp 2).mpr hlimit, retuneChill_limited] at hdone
    · rwa [Bool.eq_false_iff.mpr ((covers_iff sp 2).not.mpr hlimit), retuneChill_unlimited] at hdone

end Sys2Proof.LoopProofs

/-! # WRITE of the housing parameters (R118)

The image and the ranges of Table 7-1, then the owner's three checks in their order. -/

namespace Sys2Proof.HousingProofs

open Sys2Proof.Machine Sys2Proof.Statements Sys2Proof.Laws Sys2Proof.WriteProofs

/-! ## What the checks read of the state -/

@[simp] theorem passed_monitors (s : State) : (passed s).monitors = s.monitors := by
  rw [passed_eq_boundary, boundary_monitors]

/-- A housing is lit while one of its webs is not IDLE. -/
def Lit (s : State) (h : Fin 2) : Prop := s.mode (firstWeb h) ≠ .idle ∨ s.mode (secondWeb h) ≠ .idle

theorem lit_eq_true_iff (s : State) (h : Fin 2) : s.lit h = true ↔ Lit s h := by
  simp [State.lit, State.dark, Lit]

theorem passed_lit (s : State) (h : Fin 2) : Lit (passed s) h ↔ Lit s h := by
  simp [Lit, State.mode]

/-- READ of a housing's parameters gives their image (R181). -/
theorem imageOf_housingParam (s : State) (h : Fin 2) : imageOf s 7 h.val = some (s.monitors.get h).params.words := by
  have hindex : h.val < 2 := h.isLt
  simp [imageOf, imageAt, asFin, State.housing, hindex]

/-! ## The image and the ranges (Table 7-1) -/

/-- The ranges of Table 7-1, by word of the image. -/
def housingParamRanges : List (Nat × Nat) :=
  List.replicate 4 (0, 1000) ++ List.replicate 2 (0, 32767) ++ [(5, 600)] ++ List.replicate 3 (0, 10000) ++
    [(0, 30), (0, 1600), (0, 1)]

theorem housingParamWordOk_iff (i v : Nat) (hi : i < 13) :
    housingParamWordOk i v = true ↔
      (housingParamRanges.getD i (0, 0)).1 ≤ v ∧ v ≤ (housingParamRanges.getD i (0, 0)).2 := by
  interval_cases i <;> simp [housingParamWordOk, within, housingParamRanges]

theorem housingParam_inRange_iff {sp : Span} (hfit : SpanFits 13 sp) :
    sp.inRange housingParamWordOk = true ↔ InRanges housingParamRanges sp := by
  obtain ⟨-, -, hin, -⟩ := hfit
  exact inRange_iff_inRanges housingParamWordOk_iff hin

/-- A word of the new image keeps the upper end of its range when the old one does and the carried ones are in range. -/
theorem apply_getD_le {ranges : List (Nat × Nat)} {sp : Span} {image : List Nat} {i : Nat}
    (hin : sp.start + sp.vals.length ≤ image.length) (hrange : InRanges ranges sp)
    (hold : image.getD i 0 ≤ (ranges.getD i (0, 0)).2) : (sp.apply image).getD i 0 ≤ (ranges.getD i (0, 0)).2 := by
  rw [apply_getD hin]
  split
  · next hcarried =>
    obtain ⟨hstart, hend⟩ := hcarried
    obtain ⟨-, hval⟩ := hrange (i - sp.start) (by omega)
    rwa [Nat.add_sub_cancel' hstart] at hval
  · exact hold

theorem leadCode_le (l : LeadWeb) : leadCode l ≤ 1 := by
  cases l <;> decide

theorem leadCode_leadOfCode {c : Nat} (h : c ≤ 1) : leadCode (leadOfCode c) = c := by
  interval_cases c <;> rfl

/-- An image whose last word is the code of a lead web is the image of the parameters read from it. -/
theorem housingParam_words_ofWords {ws : List Nat} (hlen : ws.length = 13) (hlead : ws.getD 12 0 ≤ 1) :
    (HousingParams.ofWords ws).words = ws := by
  refine List.ext_getElem hlen.symm fun i hi hi' => ?_
  rw [hlen] at hi'
  simp only [HousingParams.words, HousingParams.ofWords, leadCode_leadOfCode hlead]
  interval_cases i <;> exact List.getD_eq_getElem _ _ _

/-- The parameters after an accepted write: the carried values replace the old ones. -/
def writtenHousing (sp : Span) (p : HousingParams) : HousingParams := HousingParams.ofWords (sp.apply p.words)

theorem writtenHousing_words {sp : Span} (p : HousingParams) (hfit : SpanFits 13 sp)
    (hrange : InRanges housingParamRanges sp) : (writtenHousing sp p).words = sp.apply p.words := by
  obtain ⟨-, -, hin, -⟩ := hfit
  exact housingParam_words_ofWords (apply_length (image := p.words) hin)
    (apply_getD_le (image := p.words) (i := 12) hin hrange (leadCode_le p.lead))

/-! ## The owner's judgement (R118) -/

/-- The write asks for another lead web in a lit housing (check 2). -/
def LeadRefused (s : State) (h : Fin 2) (sp : Span) : Prop :=
  (writtenHousing sp (s.monitors.get h).params).lead ≠ (s.monitors.get h).params.lead ∧ Lit s h

/-- The span carries LEL_CLEAR, LEL_LIMIT or LEL_TRIP, words 1 to 3. -/
def CarriesThreshold (sp : Span) : Prop := Carries sp 1 ∨ Carries sp 2 ∨ Carries sp 3

/-- The thresholds in order and the purge dwell in its range (check 3). -/
def Ordered (p : HousingParams) : Prop :=
  p.lelClear < p.lelLimit ∧ p.lelLimit < p.lelTrip ∧ 5 ≤ p.purgeDwell ∧ p.purgeDwell ≤ 600

theorem touches_thresholds_iff {sp : Span} (hfit : SpanFits 13 sp) :
    sp.touches 1 3 = true ↔ CarriesThreshold sp := by
  obtain ⟨hne, -, -, -⟩ := hfit
  rw [touches_iff]
  simp only [CarriesThreshold, Carries]
  omega

theorem thresholdsOk_iff (p : HousingParams) : thresholdsOk p = true ↔ Ordered p := by
  simp [thresholdsOk, within, Ordered, and_assoc]

open Classical in
/-- The three checks in their order, the first that fails giving the reply, in the words of R118. -/
theorem writeHousingParam_eq (h : Fin 2) {sp : Span} (s : State) (hfit : SpanFits 13 sp) :
    writeHousingParam h sp s =
      let m := s.monitors.get h
      let new := writtenHousing sp m.params
      if ¬ InRanges housingParamRanges sp then refuse .range s
      else if LeadRefused s h sp then refuse .state s
      else if CarriesThreshold sp ∧ ¬ Ordered new then refuse .check s
      else done { s with monitors := s.monitors.set h { m with params := new } } := by
  simp only [writeHousingParam, ← housingParam_inRange_iff hfit, LeadRefused, ← lit_eq_true_iff,
    ← touches_thresholds_iff hfit, ← thresholdsOk_iff, writtenHousing, State.putMonitor, List.append_nil]
  simp

/-- The slot boundary leaves what check 2 reads. -/
theorem passed_leadRefused (s : State) (h : Fin 2) (sp : Span) :
    LeadRefused (passed s) h sp ↔ LeadRefused s h sp := by
  simp only [LeadRefused, passed_monitors, passed_lit]

/-! ## WRITE_HOUSING_PARAM -/

/-- WRITE_HOUSING_PARAM in service is answered by its owner. -/
theorem answered_of_writeHousingParam {s t : State} (tag : Byte) (h : Fin 2) {sp : Span} {st : Status}
    {clamped : Bool} {data : List Byte} (hs : InService s) (hfit : SpanFits 13 sp)
    (howner : writeHousingParam h sp (passed s) = ⟨st, clamped, data, t⟩) (hnode : t.ring.node = s.ring.node) :
    Answered (.writeHousingParam ⟨tag, spanArgs h.val sp⟩) s tag 2 st clamped data t :=
  answered_of_owner (code := 2) (rq := ⟨tag, spanArgs h.val sp⟩) (owner := writeObject 2 13 writeHousingParam) rfl hs
    ((writeObject_spanArgs writeHousingParam h (passed s) (by decide) hfit (by decide)).trans howner) hnode

/-- Settles O22: the owner's checks one after the other, on a span that the Decoder reads back from its bytes. -/
theorem housingParamWritten : Obligations.HousingParamWritten := by
  intro s tag h sp hs hfit
  have howner := writeHousingParam_eq h (passed s) hfit
  rw [passed_leadRefused, passed_monitors] at howner
  refine ⟨imageOf_housingParam s h, fun hrange => ?range, fun hrange =>
    ⟨writtenHousing sp (s.monitors.get h).params, writtenHousing_words _ hfit hrange, fun hlead hlit => ?state,
      fun hlead hcarried hordered => ?check, fun hlead hordered => ?done⟩⟩
  case range =>
    exact answered_of_writeHousingParam tag h hs hfit (howner.trans (if_pos hrange)) (passed_node s)
  all_goals replace howner := howner.trans (if_neg (not_not_intro hrange))
  case state =>
    exact answered_of_writeHousingParam tag h hs hfit (howner.trans (if_pos ⟨hlead, hlit⟩)) (passed_node s)
  all_goals replace howner := howner.trans (if_neg hlead)
  case check =>
    exact answered_of_writeHousingParam tag h hs hfit (howner.trans (if_pos ⟨hcarried, hordered⟩)) (passed_node s)
  case done =>
    have hsound := fun hbad : CarriesThreshold sp ∧ ¬ Ordered _ => hbad.2 (hordered hbad.1)
    exact answered_of_writeHousingParam tag h hs hfit (howner.trans (if_neg hsound)) (passed_node s)

end Sys2Proof.HousingProofs

/-! # What a command leaves alone

The blocks of the part each command may write, said once for every command; what every block's invariant and the
statements about all commands start from. -/

namespace Sys2Proof.FrameProofs

open Sys2Proof.Machine Sys2Proof.Statements Sys2Proof.Laws

/-! ## Blocks -/

/-- The blocks of Figure 1 a command may write, the Ring Port apart. -/
inductive Block where
  | tracker | webs | inputs | profiles | loops | finishing | monitors | outputs | ramp | emission
  deriving DecidableEq

/-- Block `b` stands in `t` as in `s`. -/
def Block.Same : Block → State → State → Prop
  | .tracker, s, t => t.tracker = s.tracker
  | .webs, s, t => t.webs = s.webs
  | .inputs, s, t => t.inputs = s.inputs
  | .profiles, s, t => t.profiles = s.profiles
  | .loops, s, t => t.loops = s.loops
  | .finishing, s, t => t.finishing = s.finishing
  | .monitors, s, t => t.monitors = s.monitors
  | .outputs, s, t => t.outputs = s.outputs
  | .ramp, s, t => t.ramp = s.ramp
  | .emission, s, t => t.emission = s.emission

theorem Block.Same.refl (b : Block) (s : State) : b.Same s s := by
  cases b <;> rfl

theorem Block.Same.trans {b : Block} {s t u : State} (h : b.Same s t) (k : b.Same t u) : b.Same s u := by
  cases b <;> exact Eq.trans k h

/-- `t` is `s` but for signals, the Ring Port and the blocks listed; the node address stands too. -/
structure SameBut (bs : List Block) (s t : State) : Prop where
  pending : t.pending = s.pending
  ringIn : t.ringIn = s.ringIn
  now : t.now = s.now
  node : t.ring.node = s.ring.node
  block : ∀ b, b ∉ bs → b.Same s t

namespace SameBut

theorem refl (bs : List Block) (s : State) : SameBut bs s s :=
  ⟨rfl, rfl, rfl, rfl, fun b _ => Block.Same.refl b s⟩

theorem trans {bs : List Block} {s t u : State} (h : SameBut bs s t) (k : SameBut bs t u) : SameBut bs s u :=
  ⟨k.pending.trans h.pending, k.ringIn.trans h.ringIn, k.now.trans h.now, k.node.trans h.node,
    fun b hb => (h.block b hb).trans (k.block b hb)⟩

theorem mono {bs cs : List Block} {s t : State} (h : SameBut bs s t) (hsub : bs ⊆ cs) : SameBut cs s t :=
  ⟨h.pending, h.ringIn, h.now, h.node, fun b hb => h.block b fun hmem => hb (hsub hmem)⟩

theorem ite {bs : List Block} {s a b : State} {c : Prop} [Decidable c] (ha : SameBut bs s a) (hb : SameBut bs s b) :
    SameBut bs s (if c then a else b) := by
  split
  · exact ha
  · exact hb

/-! One lemma per block: the block and the signals replaced. -/

theorem ringPort (s : State) (r : RingPort) (cs : List Instr) (h : r.node = s.ring.node) :
    SameBut [] s { s with ring := r, signals := cs } :=
  ⟨rfl, rfl, rfl, h, fun b _ => by cases b <;> rfl⟩

theorem signals (s : State) (cs : List Instr) : SameBut [] s { s with signals := cs } :=
  ⟨rfl, rfl, rfl, rfl, fun b _ => by cases b <;> rfl⟩

theorem tracker (s : State) (x : Tracker) (cs : List Instr) : SameBut [.tracker] s { s with tracker := x, signals := cs } :=
  ⟨rfl, rfl, rfl, rfl, fun b hb => by
    cases b
    case tracker => exact absurd (List.mem_singleton_self _) hb
    all_goals rfl⟩

theorem webs (s : State) (x : Tab WebControl 4) (cs : List Instr) : SameBut [.webs] s { s with webs := x, signals := cs } :=
  ⟨rfl, rfl, rfl, rfl, fun b hb => by
    cases b
    case webs => exact absurd (List.mem_singleton_self _) hb
    all_goals rfl⟩

theorem inputs (s : State) (x : Tab InputChannel 32) (cs : List Instr) :
    SameBut [.inputs] s { s with inputs := x, signals := cs } :=
  ⟨rfl, rfl, rfl, rfl, fun b hb => by
    cases b
    case inputs => exact absurd (List.mem_singleton_self _) hb
    all_goals rfl⟩

theorem profiles (s : State) (x : Tab ProfileHousing 2) (cs : List Instr) :
    SameBut [.profiles] s { s with profiles := x, signals := cs } :=
  ⟨rfl, rfl, rfl, rfl, fun b hb => by
    cases b
    case profiles => exact absurd (List.mem_singleton_self _) hb
    all_goals rfl⟩

theorem loops (s : State) (x : Tab ZoneLoop 8) (cs : List Instr) :
    SameBut [.loops] s { s with loops := x, signals := cs } :=
  ⟨rfl, rfl, rfl, rfl, fun b hb => by
    cases b
    case loops => exact absurd (List.mem_singleton_self _) hb
    all_goals rfl⟩

theorem finishing (s : State) (x : Tab Finishing 4) (cs : List Instr) :
    SameBut [.finishing] s { s with finishing := x, signals := cs } :=
  ⟨rfl, rfl, rfl, rfl, fun b hb => by
    cases b
    case finishing => exact absurd (List.mem_singleton_self _) hb
    all_goals rfl⟩

theorem monitors (s : State) (x : Tab Monitor 2) (cs : List Instr) :
    SameBut [.monitors] s { s with monitors := x, signals := cs } :=
  ⟨rfl, rfl, rfl, rfl, fun b hb => by
    cases b
    case monitors => exact absurd (List.mem_singleton_self _) hb
    all_goals rfl⟩

theorem outputs (s : State) (x : Tab OutputChannel 30) (cs : List Instr) :
    SameBut [.outputs] s { s with outputs := x, signals := cs } :=
  ⟨rfl, rfl, rfl, rfl, fun b hb => by
    cases b
    case outputs => exact absurd (List.mem_singleton_self _) hb
    all_goals rfl⟩

theorem ramp (s : State) (x : RampEngine) (cs : List Instr) : SameBut [.ramp] s { s with ramp := x, signals := cs } :=
  ⟨rfl, rfl, rfl, rfl, fun b hb => by
    cases b
    case ramp => exact absurd (List.mem_singleton_self _) hb
    all_goals rfl⟩

theorem emission (s : State) (x : Emission) : SameBut [.emission] s { s with emission := x } :=
  ⟨rfl, rfl, rfl, rfl, fun b hb => by
    cases b
    case emission => exact absurd (List.mem_singleton_self _) hb
    all_goals rfl⟩

theorem foldl {α : Type} {bs : List Block} (f : State → α → State) (hf : ∀ s a, SameBut bs s (f s a)) (xs : List α)
    (s : State) : SameBut bs s (xs.foldl f s) := by
  induction xs generalizing s with
  | nil => exact refl bs s
  | cons a rest ih => exact (hf s a).trans (ih (f s a))

end SameBut

/-! ## The shapes of a meaning -/

theorem boundary_sameBut (s : State) (good : Bool) : SameBut [] s (s.boundary good) :=
  .ringPort s { s.ring with boundary := _, ring := _ } _ rfl

theorem putOut_sameBut (s : State) (slot : Slot) : SameBut [] s (s.putOut slot) :=
  .ringPort s { s.ring with ringOut := slot } s.signals rfl

theorem event_sameBut {bs : List Block} {f : State → State} {s t : State} (h : event f s = .next t)
    (hf : SameBut bs s (f s)) : SameBut bs s t := by
  obtain rfl := Host.Outcome.next.inj h
  exact .ite (.refl bs s) hf

theorem request_sameBut {bs : List Block} {code : Nat} {rq : Request} {owner : List Byte → State → Answer} {s t : State}
    (h : request code rq owner s = .next t) (hf : ∀ args s, SameBut bs s (owner args s).state) : SameBut bs s t := by
  obtain rfl := Host.Outcome.next.inj h
  refine .ite ?_ (.refl bs s)
  have hboundary := (boundary_sameBut s true).mono (List.nil_subset bs)
  exact hboundary.trans ((hf rq.args _).trans ((putOut_sameBut _ _).mono (List.nil_subset bs)))

theorem indexed_sameBut {bs : List Block} {n : Nat} {f : Fin n → List Byte → State → Answer}
    (hf : ∀ i args s, SameBut bs s (f i args s).state) (args : List Byte) (s : State) :
    SameBut bs s (indexed n f args s).state :=
  indexed_induction n f s (fun a => SameBut bs s a.state) (.refl bs s) (fun i rest => hf i rest s) args

theorem writeObject_sameBut {bs : List Block} {n words : Nat} {owner : Fin n → Span → State → Answer}
    (hf : ∀ i sp s, SameBut bs s (owner i sp s).state) (args : List Byte) (s : State) :
    SameBut bs s (writeObject n words owner args s).state :=
  writeObject_induction n words owner s (fun a => SameBut bs s a.state) (fun _ => .refl bs s) (fun i sp => hf i sp s) args

/-! ## Owners of written configuration -/

theorem writeSubscription_sameBut (ch : Fin 32) (sp : Span) (s : State) :
    SameBut [.inputs] s (writeSubscription ch sp s).state := by
  unfold writeSubscription
  simp only
  split
  · exact .refl _ s
  · split
    · exact .refl _ s
    · split
      · exact .refl _ s
      · unfold applySubscription
        exact .ite (.trans (.inputs s _ _) (.inputs _ _ _)) (.inputs s _ _)

theorem endEvent_sameBut (s : State) (ch : Fin 30) (again : Bool) (o : OutputChannel) (cs : List Instr) :
    SameBut [.outputs] s (s.endEvent ch again o cs) := .outputs s _ _

theorem rejudge_sameBut (ch : Fin 30) (s : State) : SameBut [.outputs] s (rejudge ch s) := by
  unfold rejudge
  exact .ite (.refl _ s) (.outputs s _ _)

theorem writeBinding_sameBut (ch : Fin 30) (sp : Span) (s : State) :
    SameBut [.outputs] s (writeBinding ch sp s).state := by
  unfold writeBinding
  simp only
  split
  · exact .refl _ s
  · split
    · exact .refl _ s
    · exact (endEvent_sameBut s ch _ _ _).trans (rejudge_sameBut ch _)

theorem setTrack_sameBut (s : State) (w : Fin 4) (t : TrackWeb) : SameBut [.tracker] s (s.setTrack w t) :=
  .tracker s _ s.signals

theorem writeStations_sameBut (w : Fin 4) (sp : Span) (s : State) :
    SameBut [.tracker] s (writeStations w sp s).state := by
  unfold writeStations
  simp only
  split_ifs <;> first | exact .refl _ s | exact setTrack_sameBut s w _

theorem writeCoverage_sameBut (i : Fin 8) (sp : Span) (s : State) :
    SameBut [.tracker] s (writeCoverage i sp s).state := by
  unfold writeCoverage
  simp only
  split_ifs <;> first | exact .refl _ s | exact setTrack_sameBut s _ _

theorem validateCoverage_sameBut (i : Fin 8) (args : List Byte) (s : State) :
    SameBut [.tracker] s (validateCoverage i args s).state := by
  unfold validateCoverage
  simp only
  split_ifs <;> first | exact .refl _ s | exact setTrack_sameBut s _ _

theorem writeProfile_sameBut (i : Fin 4) (sp : Span) (s : State) :
    SameBut [.profiles] s (writeProfile i sp s).state := by
  unfold writeProfile
  simp only
  split_ifs <;> first | exact .refl _ s | exact .profiles s _ _

theorem validateProfile_sameBut (i : Fin 4) (args : List Byte) (s : State) :
    SameBut [.profiles] s (validateProfile i args s).state := by
  unfold validateProfile
  simp only
  split
  · exact .refl _ s
  · split
    · exact .refl _ s
    · exact .profiles s _ _

theorem writeLoop_sameBut (i : Fin 12) (sp : Span) (s : State) :
    SameBut [.loops, .finishing] s (writeLoop i sp s).state := by
  unfold writeLoop
  split
  · exact .refl _ s
  · split
    · exact (SameBut.loops s _ s.signals).mono (by simp)
    · exact (SameBut.finishing s _ s.signals).mono (by simp)

theorem writeWebParam_sameBut (w : Fin 4) (sp : Span) (s : State) :
    SameBut [.webs] s (writeWebParam w sp s).state := by
  unfold writeWebParam
  simp only
  split_ifs <;> first | exact .refl _ s | exact .webs s _ _

theorem writeHousingParam_sameBut (h : Fin 2) (sp : Span) (s : State) :
    SameBut [.monitors] s (writeHousingParam h sp s).state := by
  unfold writeHousingParam
  simp only
  split_ifs <;> first | exact .refl _ s | exact .monitors s _ _

theorem writeProtection_sameBut (ch : Fin 30) (sp : Span) (s : State) :
    SameBut [.outputs] s (writeProtection ch sp s).state := by
  unfold writeProtection
  simp only
  split_ifs <;> first | exact .refl _ s | exact .outputs s _ _

theorem writeRampMemory_sameBut (i : Fin 1) (args : List Byte) (s : State) :
    SameBut [.ramp] s (writeRampMemory i args s).state := by
  unfold writeRampMemory
  split
  · exact .refl _ s
  · split
    · exact .refl _ s
    · exact .ramp s _ s.signals

theorem putRun_sameBut (s : State) (j : Fin 8) (r : RampRun) : SameBut [.ramp] s (s.putRun j r) := .ramp s _ _

theorem writeRampDescriptor_sameBut (j : Fin 8) (sp : Span) (s : State) :
    SameBut [.ramp] s (writeRampDescriptor j sp s).state := by
  unfold writeRampDescriptor
  simp only
  split
  · exact .refl _ s
  · split
    · exact .refl _ s
    · split
      · exact .refl _ s
      · unfold judgeDescriptor
        simp only
        split <;> exact putRun_sameBut s j _

/-- What a WRITE may write. -/
def written : List Block := [.inputs, .outputs, .tracker, .profiles, .loops, .finishing, .webs, .monitors, .ramp]

theorem writeAny_sameBut (object : Nat) (args : List Byte) (s : State) : SameBut written s (writeAny object args s).state := by
  have hsub : ∀ {bs : List Block}, bs.all (fun b => decide (b ∈ written)) = true → bs ⊆ written := by
    intro bs h b hb
    simpa using List.all_eq_true.mp h b hb
  unfold writeAny
  split
  · exact (writeObject_sameBut writeSubscription_sameBut args s).mono (hsub rfl)
  split
  · exact (writeObject_sameBut writeBinding_sameBut args s).mono (hsub rfl)
  split
  · exact (writeObject_sameBut writeStations_sameBut args s).mono (hsub rfl)
  split
  · exact (writeObject_sameBut writeCoverage_sameBut args s).mono (hsub rfl)
  split
  · exact (writeObject_sameBut writeProfile_sameBut args s).mono (hsub rfl)
  split
  · exact (writeObject_sameBut writeLoop_sameBut args s).mono (hsub rfl)
  split
  · exact (writeObject_sameBut writeWebParam_sameBut args s).mono (hsub rfl)
  split
  · exact (writeObject_sameBut writeHousingParam_sameBut args s).mono (hsub rfl)
  split
  · exact (writeObject_sameBut writeProtection_sameBut args s).mono (hsub rfl)
  split
  · exact (indexed_sameBut writeRampMemory_sameBut args s).mono (hsub rfl)
  split
  · exact (writeObject_sameBut writeRampDescriptor_sameBut args s).mono (hsub rfl)
  unfold writeStatus
  split
  · exact .refl _ s
  · split
    · exact .refl _ s
    · split <;> exact .refl _ s

theorem writeAnywhere_sameBut (args : List Byte) (s : State) : SameBut written s (writeAnywhere args s).state := by
  unfold writeAnywhere
  split
  · exact .refl _ s
  · exact writeAny_sameBut _ _ s

theorem readObject_sameBut (args : List Byte) (s : State) : SameBut [] s (readObject args s).state := by
  have hmemory : ∀ i args, (readRampMemory i args s).state = s := by
    intro i args
    unfold readRampMemory
    split <;> rfl
  unfold readObject
  split
  · exact .refl _ s
  · split
    · rw [hmemory]
      exact .refl _ s
    · split <;> exact .refl _ s

theorem turnAway_sameBut (args : List Byte) (s : State) : SameBut [] s (turnAway args s).state := by
  unfold turnAway
  split
  · exact .refl _ s
  · split_ifs <;> exact .refl _ s

/-! ## Owners of the other requests -/

theorem enableWeb_sameBut (w : Fin 4) (args : List Byte) (s : State) :
    SameBut [.webs, .profiles] s (enableWeb w args s).state := by
  have hwebs : ∀ s, SameBut [.webs, .profiles] s (enterStandby w s) := fun s =>
    (SameBut.webs s _ _).mono (by simp)
  unfold enableWeb
  simp only
  split
  · exact .refl _ s
  · split
    · split
      · exact .refl _ s
      · exact ((SameBut.profiles s _ _).mono (by simp)).trans (hwebs _)
    · exact hwebs s

theorem disableWeb_sameBut (w : Fin 4) (args : List Byte) (s : State) :
    SameBut [.webs] s (disableWeb w args s).state := by
  unfold disableWeb
  simp only
  split
  · exact .webs s _ _
  · exact .refl _ s

theorem clearBreakWeb_sameBut (w : Fin 4) (args : List Byte) (s : State) :
    SameBut [.webs] s (clearBreakWeb w args s).state := by
  unfold clearBreakWeb
  simp only
  split
  · exact .webs s _ _
  · exact .refl _ s

theorem planWeb_sameBut (w : Fin 4) (args : List Byte) (s : State) : SameBut [.webs] s (planWeb w args s).state := by
  unfold planWeb
  simp only
  split
  · exact .refl _ s
  · split
    · exact .webs s _ _
    · exact .refl _ s

theorem putTrackRun_sameBut (s : State) (w : Fin 4) (r : TrackRun) : SameBut [.tracker] s (s.putTrackRun w r) :=
  .tracker s _ _

theorem acceptMark_sameBut (w : Fin 4) (k : MarkerKind) (job : Option Bank) (s : State) :
    SameBut [.tracker, .profiles] s (acceptMark w k job s).state :=
  (putTrackRun_sameBut s w _).mono (by simp)

theorem markJobcut_sameBut (w : Fin 4) (s : State) : SameBut [.tracker, .profiles] s (markJobcut w s).state := by
  unfold markJobcut
  simp only
  split
  · exact .refl _ s
  · split
    · split
      · exact .refl _ s
      · split
        · exact .refl _ s
        · exact ((SameBut.profiles s _ s.signals).mono (by simp)).trans (acceptMark_sameBut _ _ _ _)
    · exact acceptMark_sameBut _ _ _ s

theorem markWeb_sameBut (w : Fin 4) (k : MarkerKind) (s : State) :
    SameBut [.tracker, .profiles] s (markWeb w k s).state := by
  unfold markWeb
  split
  · exact .refl _ s
  · split
    · exact .refl _ s
    · split
      · exact .refl _ s
      · split
        · exact markJobcut_sameBut w s
        · exact acceptMark_sameBut _ _ _ s

theorem clearTripHousing_sameBut (h : Fin 2) (args : List Byte) (s : State) :
    SameBut [.monitors] s (clearTripHousing h args s).state := by
  unfold clearTripHousing
  simp only
  split
  · exact .refl _ s
  · exact .monitors s _ _

theorem takeClaim_sameBut (ch : Fin 30) (p : Party) (vs : Lanes) (s : State) :
    SameBut [.outputs] s (takeClaim ch p vs s) := endEvent_sameBut s ch _ _ _

theorem takeRelease_sameBut (ch : Fin 30) (p : Party) (s : State) : SameBut [.outputs] s (takeRelease ch p s) := by
  unfold takeRelease
  simp only
  split
  · exact .refl _ s
  · exact .ite (.refl _ s) (endEvent_sameBut s ch _ _ _)

theorem overrideChannel_sameBut (ch : Fin 30) (args : List Byte) (s : State) :
    SameBut [.outputs] s (overrideChannel ch args s).state := by
  unfold overrideChannel
  simp only
  split
  · exact .refl _ s
  · split
    · exact .refl _ s
    · exact takeClaim_sameBut ch _ _ s

theorem setMask_sameBut (args : List Byte) (s : State) : SameBut [.emission] s (setMask args s).state := by
  unfold setMask
  split
  · exact .refl _ s
  · exact .emission s _

theorem armSlot_sameBut (j : Fin 8) (args : List Byte) (s : State) : SameBut [.ramp] s (armSlot j args s).state := by
  unfold armSlot
  simp only
  split
  · exact putRun_sameBut s j _
  · exact .refl _ s

theorem disarmSlot_sameBut (j : Fin 8) (args : List Byte) (s : State) : SameBut [.ramp] s (disarmSlot j args s).state := by
  unfold disarmSlot
  simp only
  split
  · exact putRun_sameBut s j _
  · exact .refl _ s

theorem startRequest_sameBut (j : Fin 8) (args : List Byte) (s : State) :
    SameBut [.ramp] s (startRequest j args s).state := by
  unfold startRequest
  simp only
  split
  · split
    · exact .refl _ s
    · exact putRun_sameBut s j _
  · exact .refl _ s

theorem pauseSlot_sameBut (j : Fin 8) (args : List Byte) (s : State) : SameBut [.ramp] s (pauseSlot j args s).state := by
  unfold pauseSlot
  simp only
  split
  · exact putRun_sameBut s j _
  · exact .refl _ s

theorem resumeSlot_sameBut (j : Fin 8) (args : List Byte) (s : State) : SameBut [.ramp] s (resumeSlot j args s).state := by
  unfold resumeSlot
  simp only
  split
  · exact putRun_sameBut s j _
  · split
    · exact putRun_sameBut s j _
    · exact .refl _ s

theorem stopRequest_sameBut (j : Fin 8) (args : List Byte) (s : State) : SameBut [.ramp] s (stopRequest j args s).state := by
  unfold stopRequest
  split
  · exact putRun_sameBut s j _
  · exact .refl _ s

/-- Every block. -/
def everyBlock : List Block :=
  [.tracker, .webs, .inputs, .profiles, .loops, .finishing, .monitors, .outputs, .ramp, .emission]

theorem mem_everyBlock (b : Block) : b ∈ everyBlock := by
  cases b <;> decide

theorem restartAnswer_sameBut (args : List Byte) (s : State) : SameBut everyBlock s (restartAnswer args s).state := by
  unfold restartAnswer
  split
  · exact ⟨rfl, rfl, rfl, rfl, fun b hb => absurd (mem_everyBlock b) hb⟩
  · exact .refl _ s

/-! ## Events -/

theorem intakeSample_sameBut (ch : Fin 32) (x : Sample) (s : State) : SameBut [.inputs] s (intakeSample ch x s) := by
  unfold intakeSample
  exact .ite (.inputs s _ _) (.refl _ s)

theorem enterBreak_sameBut (w : Fin 4) (c : WebControl) (causes : BitVec 5) (s : State) :
    SameBut [.webs] s (enterBreak w c causes s) := .webs s _ _

theorem takeBrkSample_sameBut (w : Fin 4) (s : State) : SameBut [.webs] s (takeBrkSample w s) := by
  unfold takeBrkSample
  exact .ite (.refl _ s) (.ite (enterBreak_sameBut w _ _ s) (.ite (.webs s _ _) (.refl _ s)))

theorem takeBrkStale_sameBut (w : Fin 4) (s : State) : SameBut [.webs] s (takeBrkStale w s) := by
  unfold takeBrkStale
  exact .ite (enterBreak_sameBut w _ _ s) (.ite (.webs s _ _) (.refl _ s))

theorem takeSpeed_sameBut (w : Fin 4) (s : State) : SameBut [.webs] s (takeSpeed w s) := by
  unfold takeSpeed
  split
  · exact .refl _ s
  · refine .ite ?_ (.webs s _ _)
    unfold judgeSpeed
    exact .ite (enterBreak_sameBut w _ _ s) (.webs s _ _)

theorem computeFrom_sameBut (view : State) (h : Fin 2) (z : Fin 4) (f : ZoneLoop → ZoneLoop) (s : State) :
    SameBut [.loops] s (computeFrom view h z f s) := by
  unfold computeFrom
  exact .ite (.refl _ s) (.loops s _ _)

theorem finishingEvent_sameBut (w : Fin 4) (f : State → Finishing → Finishing × List Instr) (s : State) :
    SameBut [.finishing] s (finishingEvent w f s) := by
  unfold finishingEvent
  exact .ite (.refl _ s) (.finishing s _ _)

theorem monitorEvent_sameBut (h : Fin 2) (f : State → Monitor → Monitor × List Instr) (s : State) :
    SameBut [.monitors] s (monitorEvent h f s) := by
  unfold monitorEvent
  exact .ite (.refl _ s) (.monitors s _ _)

theorem joinSet_sameBut (ch : Fin 30) (s : State) : SameBut [.emission] s (joinSet ch s) := by
  unfold joinSet
  exact .ite (.emission s _) (.refl _ s)

theorem forwardSlot_sameBut (slot : Slot) (s : State) : SameBut [] s (forwardSlot slot s) := by
  unfold forwardSlot
  exact .ite ((boundary_sameBut s _).trans (putOut_sameBut _ slot)) (putOut_sameBut s slot)

theorem offerSlot_sameBut (slot : Slot) (s : State) : SameBut [.outputs, .emission] s (offerSlot slot s) := by
  unfold offerSlot
  split
  · exact ⟨rfl, rfl, rfl, rfl, fun b hb => by cases b <;> first | rfl | simp at hb⟩
  · exact ⟨rfl, rfl, rfl, rfl, fun b hb => by cases b <;> first | rfl | simp at hb⟩
  · exact (putOut_sameBut s slot).mono (List.nil_subset _)

/-! ## Events whose action is not a conditional -/

theorem execRingDown_sameBut {s t : State} (h : execRingDown s = .next t) : SameBut [] s t := by
  unfold execRingDown at h
  refine event_sameBut h ?_
  split
  · refine .ite (.ringPort s _ s.signals ?_) (.refl _ s)
    unfold RingPort.expired
    split <;> rfl
  · exact .refl _ s

theorem execAdvance_sameBut {w : Fin 4} {s t : State} (h : execAdvance w s = .next t) : SameBut [.tracker] s t := by
  unfold execAdvance at h
  refine event_sameBut h ?_
  split
  · exact putTrackRun_sameBut s w _
  · exact .refl _ s

theorem execTrackingStart_sameBut {w : Fin 4} {s t : State} (h : execTrackingStart w s = .next t) :
    SameBut [.tracker] s t := by
  unfold execTrackingStart at h
  exact event_sameBut h (setTrack_sameBut s w _)

theorem execQueueEmptying_sameBut {w : Fin 4} {s t : State} (h : execQueueEmptying w s = .next t) :
    SameBut [.tracker] s t := by
  unfold execQueueEmptying at h
  exact event_sameBut h (putTrackRun_sameBut s w _)

theorem execEncStaleSignal_sameBut {w : Fin 4} {s t : State} (h : execEncStaleSignal w s = .next t) :
    SameBut [] s t := by
  unfold execEncStaleSignal at h
  exact event_sameBut h (.refl _ s)

theorem execFullUpdate_sameBut {k : Fin 2} {z : Fin 4} {s t : State} (h : execFullUpdate k z s = .next t) :
    SameBut [.loops] s t := by
  unfold execFullUpdate at h
  refine event_sameBut h ?_
  split
  · exact computeFrom_sameBut s k z _ s
  · exact .refl _ s

theorem execPurgeClaimSignal_sameBut {k : Fin 2} {s t : State} (h : execPurgeClaimSignal k s = .next t) :
    SameBut [.monitors] s t := by
  unfold execPurgeClaimSignal at h
  exact event_sameBut h (.monitors s _ _)

theorem execDwellEnd_sameBut {k : Fin 2} {s t : State} (h : execDwellEnd k s = .next t) : SameBut [.outputs] s t := by
  unfold execDwellEnd at h
  exact event_sameBut h (.ite (.foldl _ (fun s ch => endEvent_sameBut s ch _ _ _) _ s) (.refl _ s))

theorem execActivitySignal_sameBut {w : Fin 4} {s t : State} (h : execActivitySignal w s = .next t) :
    SameBut [.outputs] s t := by
  unfold execActivitySignal at h
  exact event_sameBut h (.foldl _ (fun s ch => rejudge_sameBut ch s) _ s)

theorem execScheduleValue_sameBut {ch : Fin 30} {vs : Lanes} {s t : State} (h : execScheduleValue ch vs s = .next t) :
    SameBut [.outputs] s t := by
  unfold execScheduleValue at h
  exact event_sameBut h (endEvent_sameBut s ch _ _ _)

theorem execChannelInactive_sameBut {ch : Fin 30} {s t : State} (h : execChannelInactive ch s = .next t) :
    SameBut [.emission] s t := by
  unfold execChannelInactive at h
  exact event_sameBut h (.emission s _)

theorem execTrigger_sameBut {slot : Fin 8} {sig : TriggerSignal} {s t : State} (h : execTrigger slot sig s = .next t) :
    SameBut [.ramp] s t := by
  unfold execTrigger at h
  refine event_sameBut h (.ite ?_ (.refl _ s))
  split
  · exact (SameBut.signals s _).mono (List.nil_subset _)
  · exact putRun_sameBut s slot _

/-! ## Every command -/

/-- The blocks a command may write. -/
def writes : Instr → List Block
  | .powerOnReset _ | .restart _ => everyBlock
  | .slotForward _ | .sampleSlot _ | .ringDown | .resetHeldActive _ | .unknownRequest _ | .read _
  | .encStaleSignal _ => []
  | .vacantSlot _ => [.outputs, .emission]
  | .write _ => written
  | .writeSubscription _ | .intakeSample _ _ | .ageTimerExpiry _ => [.inputs]
  | .writeStations _ | .writeCoverage _ | .validateCoverage _ | .advance _ | .trackingStart _ | .queueEmptying _ =>
    [.tracker]
  | .writeProfile _ | .validateProfile _ | .housingDarkSignal _ | .zoneSwitchSignal _ _ _ _ | .damperSwitchSignal _ _ _
  | .chillSwitchSignal _ _ _ | .completionSignal _ _ => [.profiles]
  | .writeLoop _ => [.loops, .finishing]
  | .writeWebParam _ | .webDisable _ | .speedPlan _ | .clearBreak _ | .encSpeed _ | .brkSample _ | .brkStaleSignal _ =>
    [.webs]
  | .webEnable _ => [.webs, .profiles]
  | .mark _ => [.tracker, .profiles]
  | .writeHousingParam _ | .clearTrip _ | .lelArrival _ | .monitorEncArrival _ | .zairTripCheck _ _ | .exhtArrival _
  | .lelStale _ | .purgeClaimSignal _ | .purgeTimerExpiry _ => [.monitors]
  | .writeBinding _ | .writeProtection _ | .overrideValue _ | .release _ | .claim _ _ _ | .holderRelease _ _ | .dwellEnd _
  | .dwellTimerExpiry _ | .scheduleValue _ _ | .activitySignal _ | .movementTimerExpiry _ => [.outputs]
  | .writeRampMemory _ | .writeRampDescriptor _ | .arm _ | .disarm _ | .start _ | .pause _ | .resume _ | .stop _
  | .paceTimerExpiry _ | .trigger _ _ | .breakStop _ _ => [.ramp]
  | .noticeMask _ | .channelActive _ | .channelInactive _ | .topChange _ | .outputChange _ | .refreshTimerExpiry _
  | .noticeRaised _ => [.emission]
  | .fullUpdate _ _ | .feedforwardRefresh _ _ | .zairStale _ _ | .zoneRampSignal _ _ | .operatorReturn _ _ _
  | .protectiveReturn _ _ _ => [.loops]
  | .dexitArrival _ | .cexitArrival _ | .cwretArrival _ | .finishingEncArrival _ | .dexitStale _ | .cexitStale _
  | .dampBaseRampSignal _ | .chillTargetRampSignal _ => [.finishing]

/-- A command other than a power-on reset leaves alone what waits, part time, the node address and every block it does
not write. -/
theorem exec_sameBut {c : Instr} {s t : State} (hc : ∀ straps, c ≠ .powerOnReset straps) (h : exec c s = .next t) :
    SameBut (writes c) s t := by
  cases c with
  | powerOnReset straps => exact absurd rfl (hc straps)
  | slotForward slot => obtain rfl := Host.Outcome.next.inj h; exact forwardSlot_sameBut slot s
  | sampleSlot slot =>
    obtain rfl := Host.Outcome.next.inj h
    exact .ite ((forwardSlot_sameBut slot s).trans (.signals _ _)) (forwardSlot_sameBut slot s)
  | vacantSlot slot =>
    obtain rfl := Host.Outcome.next.inj h
    exact .ite (((boundary_sameBut s true).mono (List.nil_subset _)).trans (offerSlot_sameBut slot _))
      ((forwardSlot_sameBut slot s).mono (List.nil_subset _))
  | ringDown => exact execRingDown_sameBut h
  | resetHeldActive slot => obtain rfl := Host.Outcome.next.inj h; exact .ringPort s _ s.signals rfl
  | unknownRequest rq => exact request_sameBut h turnAway_sameBut
  | read rq => exact request_sameBut h readObject_sameBut
  | write rq => exact request_sameBut h writeAnywhere_sameBut
  | writeSubscription rq => exact request_sameBut h (writeObject_sameBut writeSubscription_sameBut)
  | writeBinding rq => exact request_sameBut h (writeObject_sameBut writeBinding_sameBut)
  | writeStations rq => exact request_sameBut h (writeObject_sameBut writeStations_sameBut)
  | writeCoverage rq => exact request_sameBut h (writeObject_sameBut writeCoverage_sameBut)
  | writeProfile rq => exact request_sameBut h (writeObject_sameBut writeProfile_sameBut)
  | writeLoop rq => exact request_sameBut h (writeObject_sameBut writeLoop_sameBut)
  | writeWebParam rq => exact request_sameBut h (writeObject_sameBut writeWebParam_sameBut)
  | writeHousingParam rq => exact request_sameBut h (writeObject_sameBut writeHousingParam_sameBut)
  | writeProtection rq => exact request_sameBut h (writeObject_sameBut writeProtection_sameBut)
  | writeRampMemory rq => exact request_sameBut h (indexed_sameBut writeRampMemory_sameBut)
  | writeRampDescriptor rq => exact request_sameBut h (writeObject_sameBut writeRampDescriptor_sameBut)
  | validateCoverage rq => exact request_sameBut h (indexed_sameBut validateCoverage_sameBut)
  | validateProfile rq => exact request_sameBut h (indexed_sameBut validateProfile_sameBut)
  | webEnable rq => exact request_sameBut h (indexed_sameBut enableWeb_sameBut)
  | webDisable rq => exact request_sameBut h (indexed_sameBut disableWeb_sameBut)
  | speedPlan rq => exact request_sameBut h (indexed_sameBut planWeb_sameBut)
  | mark rq =>
    refine request_sameBut h (indexed_sameBut fun w args s => ?_)
    split
    · exact .refl _ s
    · split
      · exact .refl _ s
      · exact markWeb_sameBut w _ s
  | clearBreak rq => exact request_sameBut h (indexed_sameBut clearBreakWeb_sameBut)
  | clearTrip rq => exact request_sameBut h (indexed_sameBut clearTripHousing_sameBut)
  | overrideValue rq => exact request_sameBut h (indexed_sameBut overrideChannel_sameBut)
  | release rq => exact request_sameBut h (indexed_sameBut fun ch _ s => takeRelease_sameBut ch .operator s)
  | arm rq => exact request_sameBut h (indexed_sameBut armSlot_sameBut)
  | disarm rq => exact request_sameBut h (indexed_sameBut disarmSlot_sameBut)
  | start rq => exact request_sameBut h (indexed_sameBut startRequest_sameBut)
  | pause rq => exact request_sameBut h (indexed_sameBut pauseSlot_sameBut)
  | resume rq => exact request_sameBut h (indexed_sameBut resumeSlot_sameBut)
  | stop rq => exact request_sameBut h (indexed_sameBut stopRequest_sameBut)
  | noticeMask rq => exact request_sameBut h setMask_sameBut
  | restart rq => exact request_sameBut h restartAnswer_sameBut
  | intakeSample ch sample => exact event_sameBut h (intakeSample_sameBut ch sample s)
  | ageTimerExpiry ch => exact event_sameBut h (.ite (.inputs s _ _) (.refl _ s))
  | advance w => exact execAdvance_sameBut h
  | trackingStart w => exact execTrackingStart_sameBut h
  | queueEmptying w => exact execQueueEmptying_sameBut h
  | encSpeed w => exact event_sameBut h (takeSpeed_sameBut w s)
  | brkSample w => exact event_sameBut h (takeBrkSample_sameBut w s)
  | encStaleSignal w => exact execEncStaleSignal_sameBut (w := w) h
  | brkStaleSignal w => exact event_sameBut h (takeBrkStale_sameBut w s)
  | housingDarkSignal k => exact event_sameBut h (.ite (.profiles s _ _) (.refl _ s))
  | zoneSwitchSignal k z incoming seq => exact event_sameBut h (.ite (.profiles s _ _) (.refl _ s))
  | damperSwitchSignal k incoming seq => exact event_sameBut h (.ite (.profiles s _ _) (.refl _ s))
  | chillSwitchSignal k incoming seq => exact event_sameBut h (.ite (.profiles s _ _) (.refl _ s))
  | completionSignal k incoming => exact event_sameBut h (.ite (.profiles s _ _) (.refl _ s))
  | fullUpdate k z => exact execFullUpdate_sameBut h
  | feedforwardRefresh k z => exact event_sameBut h (computeFrom_sameBut s k z _ s)
  | zairStale k z => exact event_sameBut h (computeFrom_sameBut s k z _ s)
  | zoneRampSignal k told => exact event_sameBut h (computeFrom_sameBut _ k _ _ s)
  | operatorReturn k z value => exact event_sameBut h (computeFrom_sameBut s k z _ s)
  | protectiveReturn k z left => exact event_sameBut h (computeFrom_sameBut s k z _ s)
  | dexitArrival w => exact event_sameBut h (finishingEvent_sameBut w _ s)
  | cexitArrival w => exact event_sameBut h (finishingEvent_sameBut w _ s)
  | cwretArrival w => exact event_sameBut h (finishingEvent_sameBut w _ s)
  | finishingEncArrival w => exact event_sameBut h (finishingEvent_sameBut w _ s)
  | dexitStale w => exact event_sameBut h (finishingEvent_sameBut w _ s)
  | cexitStale w => exact event_sameBut h (finishingEvent_sameBut w _ s)
  | dampBaseRampSignal told => exact event_sameBut h (finishingEvent_sameBut told.web _ s)
  | chillTargetRampSignal told => exact event_sameBut h (finishingEvent_sameBut told.web _ s)
  | lelArrival k => exact event_sameBut h (monitorEvent_sameBut k _ s)
  | monitorEncArrival k => exact event_sameBut h (monitorEvent_sameBut k _ s)
  | zairTripCheck k z => exact event_sameBut h (monitorEvent_sameBut k _ s)
  | exhtArrival k => exact event_sameBut h (monitorEvent_sameBut k _ s)
  | lelStale k => exact event_sameBut h (monitorEvent_sameBut k _ s)
  | purgeClaimSignal k => exact execPurgeClaimSignal_sameBut h
  | purgeTimerExpiry k => exact event_sameBut h (.ite (.monitors s _ _) (.refl _ s))
  | claim ch party values => exact event_sameBut h (takeClaim_sameBut ch party values s)
  | holderRelease ch party => exact event_sameBut h (takeRelease_sameBut ch party s)
  | dwellEnd k => exact execDwellEnd_sameBut h
  | dwellTimerExpiry ch => exact event_sameBut h (.ite (endEvent_sameBut s ch _ _ _) (.refl _ s))
  | scheduleValue ch values => exact execScheduleValue_sameBut h
  | activitySignal w => exact execActivitySignal_sameBut h
  | movementTimerExpiry ch => exact event_sameBut h (.ite (.outputs s _ _) (.refl _ s))
  | channelActive ch => exact event_sameBut h (joinSet_sameBut ch s)
  | channelInactive ch => exact execChannelInactive_sameBut h
  | topChange ch => exact event_sameBut h (joinSet_sameBut ch s)
  | outputChange ch => exact event_sameBut h (.ite (joinSet_sameBut ch s) (.refl _ s))
  | refreshTimerExpiry ch =>
    exact event_sameBut h (.ite ((SameBut.emission s _).trans (joinSet_sameBut ch _)) (.refl _ s))
  | noticeRaised n => exact event_sameBut h (.ite (.emission s _) (.refl _ s))
  | paceTimerExpiry slot => exact event_sameBut h (.ite (putRun_sameBut s slot _) (.refl _ s))
  | trigger slot sig => exact execTrigger_sameBut h
  | breakStop slot w =>
    exact event_sameBut h
      (.ite (.ite (putRun_sameBut s slot _) (.ite (putRun_sameBut s slot _) (.refl _ s))) (.refl _ s))

/-! ## Invariants of a step -/

/-- Every command answers a next state. -/
theorem exec_answers (c : Instr) (s : State) : ∃ t, exec c s = .next t := by
  cases c <;> exact ⟨_, rfl⟩

/-- What every command keeps, and what waits, part time and RING IN have no part in, every step keeps. -/
theorem step_keeps {P : State → Prop} (hexec : ∀ c s t, P s → exec c s = .next t → P t)
    (hwaiting : ∀ s pending ringIn signals now, P s →
      P { s with pending := pending, ringIn := ringIn, signals := signals, now := now })
    (s t : State) (hs : P s) (h : step s = .next t) : P t := by
  unfold step at h
  split at h
  · next c rest _ => exact hexec c _ t (hwaiting s rest s.ringIn s.signals s.now hs) h
  · unfold idle at h
    split at h
    · next c s' hown =>
      refine hexec c s' t ?_ h
      unfold ownCommand at hown
      split at hown
      · next =>
        obtain ⟨-, rfl⟩ := Prod.mk.inj (Option.some.inj hown)
        exact hwaiting s s.pending s.ringIn _ s.now hs
      · next =>
        obtain ⟨-, rfl⟩ := Prod.mk.inj (Option.some.inj hown)
        exact hwaiting s s.pending _ s.signals s.now hs
      · obtain ⟨d, -, hd⟩ := Option.map_eq_some_iff.mp hown
        obtain ⟨-, rfl⟩ := Prod.mk.inj hd
        exact hs
      · exact absurd hown (by simp)
    · obtain rfl := Host.Outcome.next.inj h
      exact hwaiting s s.pending s.ringIn s.signals (s.now + 1) hs

/-- An invariant of one block: the commands that write the block, and the reset state, decide it. -/
theorem step_keeps_block {P : State → Prop} (b : Block) (hblock : ∀ s t, b.Same s t → P s → P t)
    (hreset : P State.reset)
    (hexec : ∀ c s t, b ∈ writes c → (∀ straps, c ≠ .powerOnReset straps) → P s → exec c s = .next t → P t)
    (s t : State) (hs : P s) (h : step s = .next t) : P t := by
  refine step_keeps (fun c s t hs h => ?_) (fun s _ _ _ _ hs => hblock s _ (by cases b <;> rfl) hs) s t hs h
  by_cases hc : ∃ straps, c = .powerOnReset straps
  · obtain ⟨straps, rfl⟩ := hc
    obtain rfl := Host.Outcome.next.inj h
    exact hblock State.reset _ (by cases b <;> rfl) hreset
  · have hc' : ∀ straps, c ≠ .powerOnReset straps := fun straps e => hc ⟨straps, e⟩
    by_cases hb : b ∈ writes c
    · exact hexec c s t hb hc' hs h
    · exact hblock s t ((exec_sameBut hc' h).block b hb) hs

/-- An event keeps what its action keeps. -/
theorem event_keeps {P : State → Prop} {f : State → State} {s t : State} (h : event f s = .next t) (hs : P s)
    (hf : P (f s)) : P t := by
  obtain rfl := Host.Outcome.next.inj h
  split
  · exact hs
  · exact hf

/-- A request keeps what its owner, the slot boundary and the REPLY keep. -/
theorem request_keeps {P : State → Prop} {code : Nat} {rq : Request} {owner : List Byte → State → Answer} {s t : State}
    (b : Block) (hblock : ∀ s t, b.Same s t → P s → P t) (h : request code rq owner s = .next t) (hs : P s)
    (hf : ∀ s, P s → P (owner rq.args s).state) : P t := by
  obtain rfl := Host.Outcome.next.inj h
  split
  · exact hblock _ _ (by cases b <;> rfl) (hf _ (hblock s (s.boundary true) (by cases b <;> rfl) hs))
  · exact hs

/-- A block's invariant stands where the block does. -/
theorem SameBut.keeps {P : State → Prop} {bs : List Block} {s t : State} (h : SameBut bs s t) (b : Block)
    (hblock : ∀ s t, b.Same s t → P s → P t) (hb : b ∉ bs) (hs : P s) : P t :=
  hblock s t (h.block b hb) hs

theorem indexed_keeps {P : State → Prop} {n : Nat} {f : Fin n → List Byte → State → Answer} {s : State} (hs : P s)
    (hf : ∀ i args, P (f i args s).state) (args : List Byte) : P (indexed n f args s).state :=
  indexed_induction n f s (fun a => P a.state) hs hf args

theorem writeObject_keeps {P : State → Prop} {n words : Nat} {owner : Fin n → Span → State → Answer} {s : State}
    (hs : P s) (hf : ∀ i sp, P (owner i sp s).state) (args : List Byte) : P (writeObject n words owner args s).state :=
  writeObject_induction n words owner s (fun a => P a.state) (fun _ => hs) hf args

theorem ite_keeps {P : State → Prop} {c : Prop} [Decidable c] {a b : Answer} (ha : P a.state) (hb : P b.state) :
    P (if c then a else b).state := by
  split
  · exact ha
  · exact hb

/-- A generic WRITE keeps what the eleven owners keep. -/
theorem writeAnywhere_keeps {P : State → Prop} {s : State} (hs : P s)
    (hsubscription : ∀ i sp, P (writeSubscription i sp s).state) (hbinding : ∀ i sp, P (writeBinding i sp s).state)
    (hstations : ∀ i sp, P (writeStations i sp s).state) (hcoverage : ∀ i sp, P (writeCoverage i sp s).state)
    (hprofile : ∀ i sp, P (writeProfile i sp s).state) (hloop : ∀ i sp, P (writeLoop i sp s).state)
    (hweb : ∀ i sp, P (writeWebParam i sp s).state) (hhousing : ∀ i sp, P (writeHousingParam i sp s).state)
    (hprotection : ∀ i sp, P (writeProtection i sp s).state) (hmemory : ∀ i args, P (writeRampMemory i args s).state)
    (hdescriptor : ∀ i sp, P (writeRampDescriptor i sp s).state) (args : List Byte) :
    P (writeAnywhere args s).state := by
  unfold writeAnywhere
  split
  · exact hs
  unfold writeAny
  refine ite_keeps (writeObject_keeps hs hsubscription _) ?_
  refine ite_keeps (writeObject_keeps hs hbinding _) ?_
  refine ite_keeps (writeObject_keeps hs hstations _) ?_
  refine ite_keeps (writeObject_keeps hs hcoverage _) ?_
  refine ite_keeps (writeObject_keeps hs hprofile _) ?_
  refine ite_keeps (writeObject_keeps hs hloop _) ?_
  refine ite_keeps (writeObject_keeps hs hweb _) ?_
  refine ite_keeps (writeObject_keeps hs hhousing _) ?_
  refine ite_keeps (writeObject_keeps hs hprotection _) ?_
  refine ite_keeps (indexed_keeps hs hmemory _) ?_
  refine ite_keeps (writeObject_keeps hs hdescriptor _) ?_
  unfold writeStatus
  split
  · exact hs
  · split
    · exact hs
    · split <;> exact hs

/-- Settles O3: no command has another outcome than a next state, and `SameBut` says what it leaves alone. -/
theorem everyCommandAnswers : Obligations.EveryCommandAnswers := by
  intro c s
  by_cases hc : ∃ straps, c = .powerOnReset straps
  · obtain ⟨straps, rfl⟩ := hc
    exact ⟨_, rfl, rfl, rfl, fun h => absurd rfl (h straps)⟩
  · obtain ⟨t, ht⟩ := exec_answers c s
    have hsame := exec_sameBut (fun straps e => hc ⟨straps, e⟩) ht
    exact ⟨t, ht, hsame.pending, hsame.ringIn, fun _ => ⟨hsame.now, hsame.node⟩⟩

end Sys2Proof.FrameProofs

/-! # Web tracking is kept in order (R8, R13 to R16, R22)

The invariant of one web's tracking state, split into its banks, its cursor and its queue; then each operation of the
Web Tracker against it. -/

namespace Sys2Proof.TrackingInvariant

open Sys2Proof.Machine Sys2Proof.Statements Sys2Proof.Laws Sys2Proof.FrameProofs

/-! ## The invariant of one web -/

def BanksOrdered (t : TrackWeb) : Prop :=
  (t.bankA.state ≠ .invalid → SoundBank t.bankA) ∧ (t.bankB.state ≠ .invalid → SoundBank t.bankB) ∧
    ¬ (t.bankA.state = .active ∧ t.bankB.state = .active)

/-- The cursor stands at a used run of the ACTIVE bank. -/
def CursorPlaced (t : TrackWeb) : Prop := ∀ b, t.activeBank = some b → t.cursorRun.val < (t.bank b).runCount

def CursorOrdered (t : TrackWeb) : Prop :=
  ∀ b, t.activeBank = some b → t.cursorRun.val < (t.bank b).runCount ∧ 1 ≤ t.cursorLeft

def SegmentOrdered (seg : Segment) : Prop := seg.load ≤ 4000 ∧ ∀ m, seg.marker = some m → m.next ≤ 7

def QueueOrdered (path : BitVec 32) (q : List Segment) : Prop :=
  q.length ≤ 64 ∧ Tiles path q ∧ ∀ seg ∈ q, SegmentOrdered seg

def WebOrdered (t : TrackWeb) : Prop := BanksOrdered t ∧ CursorOrdered t ∧ QueueOrdered t.path t.queue

theorem trackingOrdered_iff (s : State) : TrackingOrdered s ↔ ∀ w, WebOrdered (s.track w) :=
  forall_congr' fun w => ⟨fun ⟨ha, hb, hone, hcursor, hlen, htiles, hsegs⟩ => ⟨⟨ha, hb, hone⟩, hcursor, hlen, htiles, hsegs⟩,
    fun ⟨⟨ha, hb, hone⟩, hcursor, hlen, htiles, hsegs⟩ => ⟨ha, hb, hone, hcursor, hlen, htiles, hsegs⟩⟩

/-! ## Banks -/

theorem BanksOrdered.sound {t : TrackWeb} (h : BanksOrdered t) (b : CovBank) (hb : (t.bank b).state ≠ .invalid) :
    SoundBank (t.bank b) := by
  obtain ⟨ha, hb', -⟩ := h
  cases b with
  | a => exact ha hb
  | b => exact hb' hb

theorem activeBank_state {t : TrackWeb} {b : CovBank} (h : t.activeBank = some b) : (t.bank b).state = .active := by
  unfold TrackWeb.activeBank at h
  split at h
  · next ha => obtain rfl := Option.some.inj h; exact ha
  · split at h
    · next hb => obtain rfl := Option.some.inj h; exact hb
    · exact absurd h (by simp)

theorem BanksOrdered.active_sound {t : TrackWeb} (h : BanksOrdered t) {b : CovBank} (hb : t.activeBank = some b) :
    SoundBank (t.bank b) :=
  h.sound b (by rw [activeBank_state hb]; decide)

/-- Every used run of a sound bank has a length. -/
theorem soundBank_run_pos {b : CoverageBank} (h : SoundBank b) {i : Fin 32} (hi : i.val < b.runCount) :
    1 ≤ (b.runs.get i).length := by
  obtain ⟨-, -, -, -, hruns, -⟩ := h
  have hmem : b.runs.get i ∈ b.runs.items.take b.runCount := by
    rw [List.mem_take_iff_getElem]
    exact ⟨i.val, by rw [b.runs.size]; omega, rfl⟩
  have hlow := (hruns _ hmem).1
  omega

theorem soundBank_of_coverageSound {b : CoverageBank} (h : coverageSound b = true) : SoundBank b := by
  simp only [coverageSound, within, Bool.and_eq_true, decide_eq_true_eq, List.all_eq_true] at h
  obtain ⟨⟨⟨⟨hcount, hcount'⟩, hrepeat, hrepeat'⟩, hruns⟩, hsum⟩ := h
  exact ⟨hcount, hcount', hrepeat, hrepeat', hruns, hsum⟩

/-- The ACTIVE bank stands when a bank that is not ACTIVE is replaced by one that is not. -/
theorem activeBank_setBank {t : TrackWeb} {bank : CovBank} {x : CoverageBank} (hold : (t.bank bank).state ≠ .active)
    (hnew : x.state ≠ .active) : (t.setBank bank x).activeBank = t.activeBank := by
  cases bank with
  | a =>
    have ha : t.bankA.state ≠ .active := hold
    show (if x.state = .active then some CovBank.a else if t.bankB.state = .active then some .b else none) =
      if t.bankA.state = .active then some CovBank.a else if t.bankB.state = .active then some .b else none
    rw [if_neg hnew, if_neg ha]
  | b =>
    have hb : t.bankB.state ≠ .active := hold
    show (if t.bankA.state = .active then some CovBank.a else if x.state = .active then some .b else none) =
      if t.bankA.state = .active then some CovBank.a else if t.bankB.state = .active then some .b else none
    rw [if_neg hnew, if_neg hb]

theorem setBank_ordered {t : TrackWeb} (h : WebOrdered t) (b : CovBank) (x : CoverageBank)
    (hold : (t.bank b).state ≠ .active) (hnew : x.state ≠ .active) (hsound : x.state ≠ .invalid → SoundBank x) :
    WebOrdered (t.setBank b x) := by
  obtain ⟨⟨ha, hb, hone⟩, hcursor, hqueue⟩ := h
  have hcursor' : CursorOrdered (t.setBank b x) := by
    intro c hc
    rw [activeBank_setBank hold hnew] at hc
    have hne : c ≠ b := by
      rintro rfl
      exact hold (activeBank_state hc)
    have hstands : (t.setBank b x).bank c = t.bank c := by cases b <;> cases c <;> first | rfl | exact absurd rfl hne
    rw [hstands]
    exact (by cases b <;> exact hcursor c hc)
  cases b with
  | a => exact ⟨⟨hsound, hb, fun both => hnew both.1⟩, hcursor', hqueue⟩
  | b => exact ⟨⟨ha, hsound, fun both => hnew both.2⟩, hcursor', hqueue⟩

theorem promoteBank_banks {t : TrackWeb} (h : BanksOrdered t) : BanksOrdered (promoteBank t) := by
  obtain ⟨ha, hb, hone⟩ := h
  unfold promoteBank
  split
  · exact ⟨ha, hb, hone⟩
  · next hnone =>
    have hno : t.bankA.state ≠ .active ∧ t.bankB.state ≠ .active := by
      unfold TrackWeb.activeBank at hnone
      split_ifs at hnone with h1 h2 <;> first | exact ⟨h1, h2⟩ | exact absurd rfl hnone
    split
    · next hvalid =>
      exact ⟨fun _ => ha (by rw [hvalid]; decide), hb, fun both => hno.2 both.2⟩
    · split
      · next hvalid => exact ⟨ha, fun _ => hb (by rw [hvalid]; decide), fun both => hno.1 both.1⟩
      · exact ⟨ha, hb, hone⟩

/-! ## The cursor -/

@[simp] theorem cursorToStart_activeBank (t : TrackWeb) : t.cursorToStart.activeBank = t.activeBank := by
  unfold TrackWeb.cursorToStart
  split <;> rfl

theorem cursorToStart_banks {t : TrackWeb} (h : BanksOrdered t) : BanksOrdered t.cursorToStart := by
  unfold TrackWeb.cursorToStart
  split <;> exact h

theorem cursorToStart_queue (t : TrackWeb) : t.cursorToStart.queue = t.queue ∧ t.cursorToStart.path = t.path := by
  unfold TrackWeb.cursorToStart
  split <;> exact ⟨rfl, rfl⟩

theorem cursorToStart_cursor {t : TrackWeb} (h : BanksOrdered t) : CursorOrdered t.cursorToStart := by
  intro b hb
  rw [cursorToStart_activeBank] at hb
  have hsound := h.active_sound hb
  have hcount : (0 : Fin 32).val < (t.bank b).runCount := hsound.1
  simp only [TrackWeb.cursorToStart, hb]
  exact ⟨hcount, soundBank_run_pos hsound hcount⟩

theorem nextRun_lt {b : CoverageBank} (h : SoundBank b) (i : Fin 32) : (nextRun b i).val < b.runCount := by
  obtain ⟨hcount, -⟩ := h
  unfold nextRun
  split
  · split
    · assumption
    · exact hcount
  · exact hcount

theorem cursorNext_banks {t : TrackWeb} (h : BanksOrdered t) : BanksOrdered t.cursorNext := by
  unfold TrackWeb.cursorNext
  split <;> exact h

theorem cursorNext_queue (t : TrackWeb) : t.cursorNext.queue = t.queue ∧ t.cursorNext.path = t.path := by
  unfold TrackWeb.cursorNext
  split <;> exact ⟨rfl, rfl⟩

theorem cursorNext_cursor {t : TrackWeb} (h : BanksOrdered t) : CursorOrdered t.cursorNext := by
  intro b hb
  have hb' : t.activeBank = some b := by
    unfold TrackWeb.cursorNext at hb
    split at hb <;> exact hb
  have hsound := h.active_sound hb'
  have hnext := nextRun_lt hsound t.cursorRun
  simp only [TrackWeb.cursorNext, hb']
  exact ⟨hnext, soundBank_run_pos hsound hnext⟩

/-! ## The queue -/

theorem mapLast_length (f : Segment → Segment) (q : List Segment) : (mapLast f q).length = q.length := by
  induction q using mapLast.induct with
  | case1 => rfl
  | case2 x => rfl
  | case3 x y rest ih => simp only [mapLast, List.length_cons, ih]

theorem mem_mapLast {f : Segment → Segment} {q : List Segment} {seg : Segment} (h : seg ∈ mapLast f q) :
    seg ∈ q ∨ ∃ x ∈ q, seg = f x := by
  induction q using mapLast.induct with
  | case1 => exact .inl h
  | case2 x => exact .inr ⟨x, by simp, by simpa [mapLast] using h⟩
  | case3 x y rest ih =>
    rw [mapLast, List.mem_cons] at h
    rcases h with rfl | h
    · exact .inl List.mem_cons_self
    · rcases ih h with hold | ⟨o, ho, rfl⟩
      · exact .inl (List.mem_cons_of_mem x hold)
      · exact .inr ⟨o, List.mem_cons_of_mem x ho, rfl⟩

/-- The first record of a queue whose open record grew keeps its head. -/
theorem mapLast_cons_head {f : Segment → Segment} (hhead : ∀ seg, (f seg).head = seg.head) (y : Segment)
    (rest : List Segment) : ∃ z zs, mapLast f (y :: rest) = z :: zs ∧ z.head = y.head := by
  cases rest with
  | nil => exact ⟨f y, [], rfl, hhead y⟩
  | cons x rest => exact ⟨y, mapLast f (x :: rest), rfl, rfl⟩

/-- Records tile the path after `p` mm are put on the open record and the path counter. -/
theorem tiles_mapLast {f : Segment → Segment} {p : Nat} (hhead : ∀ seg, (f seg).head = seg.head)
    (hlength : ∀ seg, (f seg).length = seg.length + p) {path : BitVec 32} {q : List Segment} (h : Tiles path q) :
    Tiles (path + BitVec.ofNat 32 p) (mapLast f q) := by
  induction q using mapLast.induct with
  | case1 => trivial
  | case2 x =>
    have h' : path = x.head + BitVec.ofNat 32 x.length := h
    show path + BitVec.ofNat 32 p = (f x).head + BitVec.ofNat 32 (f x).length
    rw [h', hhead, hlength, BitVec.ofNat_add, BitVec.add_assoc]
  | case3 x y rest ih =>
    obtain ⟨hnext, htail⟩ := h
    obtain ⟨z, zs, hz, hzhead⟩ := mapLast_cons_head hhead y rest
    have hmap := ih htail
    rw [mapLast]
    rw [hz] at hmap ⊢
    exact ⟨hzhead.trans hnext, hmap⟩

theorem tiles_append {path : BitVec 32} {q : List Segment} {o : Segment} (h : Tiles path q) (hhead : o.head = path)
    (hlength : o.length = 0) : Tiles path (q ++ [o]) := by
  induction q using mapLast.induct with
  | case1 =>
    show path = o.head + BitVec.ofNat 32 o.length
    rw [hhead, hlength]
    simp
  | case2 x =>
    have h' : path = x.head + BitVec.ofNat 32 x.length := h
    refine ⟨hhead.trans h', ?_⟩
    show path = o.head + BitVec.ofNat 32 o.length
    rw [hhead, hlength]
    simp
  | case3 x y rest ih =>
    obtain ⟨hnext, htail⟩ := h
    exact ⟨hnext, ih htail⟩

/-- Two queues whose records lie alike tile alike. -/
theorem tiles_congr {path : BitVec 32} {q r : List Segment}
    (h : List.Forall₂ (fun a b : Segment => b.head = a.head ∧ b.length = a.length) q r) (hq : Tiles path q) :
    Tiles path r := by
  induction h with
  | nil => trivial
  | @cons a b as bs hab hrest ih =>
    obtain ⟨hhead, hlength⟩ := hab
    cases hrest with
    | nil =>
      have h' : path = a.head + BitVec.ofNat 32 a.length := hq
      show path = b.head + BitVec.ofNat 32 b.length
      rw [hhead, hlength]
      exact h'
    | @cons c d cs ds hcd hrest' =>
      obtain ⟨hnext, htail⟩ := hq
      refine ⟨?_, ih htail⟩
      rw [hcd.1, hhead, hlength]
      exact hnext

theorem mapLast_ordered {f : Segment → Segment} {p : Nat} (hhead : ∀ seg, (f seg).head = seg.head)
    (hlength : ∀ seg, (f seg).length = seg.length + p) (hseg : ∀ seg, SegmentOrdered seg → SegmentOrdered (f seg))
    {path : BitVec 32} {q : List Segment} (h : QueueOrdered path q) :
    QueueOrdered (path + BitVec.ofNat 32 p) (mapLast f q) := by
  obtain ⟨hlen, htiles, hsegs⟩ := h
  refine ⟨by rwa [mapLast_length], tiles_mapLast hhead hlength htiles, fun seg hmem => ?_⟩
  rcases mem_mapLast hmem with hold | ⟨x, hx, rfl⟩
  · exact hsegs seg hold
  · exact hseg x (hsegs x hx)

/-- The open record changed in load and marker alone. -/
theorem mapLast_marked {f : Segment → Segment} (hhead : ∀ seg, (f seg).head = seg.head)
    (hlength : ∀ seg, (f seg).length = seg.length) (hseg : ∀ seg, SegmentOrdered seg → SegmentOrdered (f seg))
    {path : BitVec 32} {q : List Segment} (h : QueueOrdered path q) : QueueOrdered path (mapLast f q) := by
  have hzero : path + BitVec.ofNat 32 0 = path := by simp
  have hgrown := mapLast_ordered (p := 0) hhead hlength hseg h
  rwa [hzero] at hgrown

theorem append_ordered {path : BitVec 32} {q : List Segment} {o : Segment} (h : QueueOrdered path q)
    (hroom : q.length < 64) (hhead : o.head = path) (hlength : o.length = 0) (ho : SegmentOrdered o) :
    QueueOrdered path (q ++ [o]) := by
  obtain ⟨-, htiles, hsegs⟩ := h
  refine ⟨by simp; omega, tiles_append htiles hhead hlength, fun seg hmem => ?_⟩
  rcases List.mem_append.mp hmem with hold | hnew
  · exact hsegs seg hold
  · rw [List.mem_singleton.mp hnew]
    exact ho

theorem nil_ordered (path : BitVec 32) : QueueOrdered path [] := ⟨by decide, trivial, by simp⟩

theorem recordLoad_le (p : WebParams) (r : CoverageRun) (washed : Bool) : recordLoad p r washed ≤ 4000 :=
  Nat.min_le_left _ _

theorem runMarker_next {r : CoverageRun} {m : Marker} (h : runMarker r = some m) : m.next ≤ 7 := by
  obtain ⟨k, -, rfl⟩ := Option.map_eq_some_iff.mp h
  exact Nat.zero_le 7

/-! ## Firing and retirement -/

theorem fireMarker_next (env : TrackEnv) (stations : Tab Nat 7) (mask : BitVec 7) (seq : BitVec 16) (dist fuel : Nat)
    (m : Marker) (job : Option Bank) (h : m.next ≤ 7) :
    (fireMarker env stations mask seq dist fuel m job).1.next ≤ 7 := by
  induction fuel generalizing m job with
  | zero => exact h
  | succ fuel ih =>
    unfold fireMarker
    split
    · next hlt =>
      split
      · exact ih _ _ hlt
      · exact h
    · exact h

/-- Firing changes markers alone: records lie as before. -/
theorem fireQueue_lies (env : TrackEnv) (stations : Tab Nat 7) (mask : BitVec 7) (path : BitVec 32) (q : List Segment)
    (job : Option Bank) :
    List.Forall₂ (fun a b : Segment => b.head = a.head ∧ b.length = a.length) q
      (fireQueue env stations mask path q job).1 := by
  induction q generalizing job with
  | nil => exact .nil
  | cons seg rest ih =>
    unfold fireQueue
    split
    · exact .cons ⟨rfl, rfl⟩ (ih job)
    · exact .cons ⟨rfl, rfl⟩ (ih _)

theorem fireQueue_segments (env : TrackEnv) (stations : Tab Nat 7) (mask : BitVec 7) (path : BitVec 32)
    (q : List Segment) (job : Option Bank) (h : ∀ seg ∈ q, SegmentOrdered seg) :
    ∀ seg ∈ (fireQueue env stations mask path q job).1, SegmentOrdered seg := by
  induction q generalizing job with
  | nil => exact h
  | cons seg rest ih =>
    obtain ⟨hseg, hrest⟩ := List.forall_mem_cons.mp h
    unfold fireQueue
    split
    · exact List.forall_mem_cons.mpr ⟨hseg, ih job hrest⟩
    · next m hm =>
      refine List.forall_mem_cons.mpr ⟨⟨hseg.1, fun m' hm' => ?_⟩, ih _ hrest⟩
      obtain rfl := Option.some.inj hm'
      exact fireMarker_next _ _ _ _ _ _ _ _ (hseg.2 m hm)

theorem fireQueue_ordered (env : TrackEnv) (stations : Tab Nat 7) (mask : BitVec 7) {path : BitVec 32}
    {q : List Segment} (job : Option Bank) (h : QueueOrdered path q) :
    QueueOrdered path (fireQueue env stations mask path q job).1 := by
  obtain ⟨hlen, htiles, hsegs⟩ := h
  have hlies := fireQueue_lies env stations mask path q job
  exact ⟨hlies.length_eq ▸ hlen, tiles_congr hlies htiles, fireQueue_segments _ _ _ _ _ _ hsegs⟩

theorem retire_ordered {path : BitVec 32} (chillout : Nat) {q : List Segment} (h : QueueOrdered path q) :
    QueueOrdered path (retire path chillout q) := by
  induction q using retire.induct with
  | path => exact path
  | chillout => exact chillout
  | case1 a b rest hgone ih =>
    obtain ⟨hlen, ⟨-, htiles⟩, hsegs⟩ := h
    rw [retire, if_pos hgone]
    exact ih ⟨by simp at hlen ⊢; omega, htiles, fun seg hmem => hsegs seg (List.mem_cons_of_mem a hmem)⟩
  | case2 a b rest hstays => rwa [retire, if_neg hstays]
  | case3 q hshort =>
    unfold retire
    split
    · exact absurd rfl (hshort _ _ _)
    · exact h

/-! ## Encoder advance (R12) -/

theorem CursorOrdered.placed {t : TrackWeb} (h : CursorOrdered t) : CursorPlaced t := fun b hb => (h b hb).1

theorem boundaryPiece_ordered (env : TrackEnv) {r : TrackRun} (hbanks : BanksOrdered r.web)
    (hcursor : CursorPlaced r.web) (hqueue : QueueOrdered r.web.path r.web.queue) :
    WebOrdered (boundaryPiece env r).web := by
  obtain ⟨hsame, hpath⟩ := cursorNext_queue r.web
  have hnext : WebOrdered r.web.cursorNext :=
    ⟨cursorNext_banks hbanks, cursorNext_cursor hbanks, by rwa [hsame, hpath]⟩
  obtain ⟨hbanks', hcursor', hqueue'⟩ := hnext
  unfold boundaryPiece
  split
  · simp only
    split
    · exact ⟨hbanks', hcursor', hqueue'⟩
    · split
      · next hroom =>
        exact ⟨hbanks', hcursor',
          append_ordered hqueue' hroom rfl rfl ⟨recordLoad_le _ _ _, fun m hm => runMarker_next hm⟩⟩
      · refine ⟨hbanks', hcursor', mapLast_marked (by intro _; rfl) (by intro _; rfl) ?_ hqueue'⟩
        intro seg hseg
        refine ⟨max_le hseg.1 (recordLoad_le _ _ _), fun m hm => ?_⟩
        simp only at hm
        split at hm
        · exact runMarker_next hm
        · exact hseg.2 m hm
  · next hstays =>
    refine ⟨hbanks, fun b hb => ⟨hcursor b hb, ?_⟩, hqueue⟩
    have hleft : ¬ r.web.cursorLeft = 0 := fun hzero => hstays ⟨hzero, by rw [hb]; rfl⟩
    omega

theorem takePiece_ordered (env : TrackEnv) (p : Nat) {r : TrackRun} (h : WebOrdered r.web) :
    WebOrdered (takePiece env p r).web := by
  obtain ⟨hbanks, hcursor, hqueue⟩ := h
  have hgrown : QueueOrdered (growPiece p r.web).path (growPiece p r.web).queue :=
    mapLast_ordered (f := fun seg => { seg with length := seg.length + p }) (fun _ => rfl) (fun _ => rfl)
      (fun _ hseg => hseg) hqueue
  unfold takePiece
  exact boundaryPiece_ordered env hbanks hcursor.placed (retire_ordered _ (fireQueue_ordered _ _ _ _ hgrown))

theorem takePieces_ordered (env : TrackEnv) (fuel rest : Nat) {r : TrackRun} (h : WebOrdered r.web) :
    WebOrdered (takePieces env fuel rest r).web := by
  induction fuel generalizing rest r with
  | zero => exact h
  | succ fuel ih =>
    unfold takePieces
    split
    · exact h
    · exact ih _ (takePiece_ordered env _ h)

theorem takePosition_ordered (s : State) (w : Fin 4) (pos : BitVec 32) (h : WebOrdered (s.track w)) :
    WebOrdered (takePosition s w pos).web := by
  unfold takePosition
  simp only
  split
  · exact h
  · exact takePieces_ordered _ _ _ h

/-! ## Start, emptying and MARK -/

theorem startTracking_ordered (p : WebParams) {t : TrackWeb} (h : WebOrdered t) : WebOrdered (startTracking p t) := by
  have hbanks := promoteBank_banks h.1
  refine ⟨cursorToStart_banks hbanks, cursorToStart_cursor hbanks, ?_⟩
  exact append_ordered (nil_ordered _) (by simp) rfl rfl ⟨recordLoad_le _ _ _, fun m hm => runMarker_next hm⟩

theorem emptyQueue_ordered {t : TrackWeb} (h : WebOrdered t) : WebOrdered (emptyQueue t) :=
  ⟨h.1, h.2.1, nil_ordered _⟩

theorem restarted_ordered {t : TrackWeb} (h : WebOrdered t) : WebOrdered t.restarted :=
  ⟨cursorToStart_banks h.1, cursorToStart_cursor h.1, nil_ordered _⟩

theorem emptyTracking_ordered {s : State} {w : Fin 4} (h : WebOrdered (s.track w)) :
    WebOrdered (emptyTracking s w).web := by
  unfold emptyTracking
  split <;> exact emptyQueue_ordered h

theorem swapBanks_ordered {t : TrackWeb} (h : WebOrdered t)
    (hspare : (spareBank t).map CoverageBank.state = some .valid) : WebOrdered (swapBanks t) := by
  obtain ⟨⟨ha, hb, hone⟩, -, hqueue⟩ := h
  unfold spareBank at hspare
  unfold swapBanks
  split
  · next hnone => simp [hnone] at hspare
  · next bank hactive =>
    have hstate := activeBank_state hactive
    rw [hactive] at hspare
    have hother : (t.bank (otherCovBank bank)).state = .valid := by simpa using hspare
    have hswapped : BanksOrdered ((t.setBank bank { t.bank bank with state := .valid }).setBank (otherCovBank bank)
        { t.bank (otherCovBank bank) with state := .active }) := by
      cases bank with
      | a =>
        exact ⟨fun _ => ha (by rw [show t.bankA.state = .active from hstate]; decide),
          fun _ => hb (by rw [show t.bankB.state = .valid from hother]; decide), fun both => by cases both.1⟩
      | b =>
        exact ⟨fun _ => ha (by rw [show t.bankA.state = .valid from hother]; decide),
          fun _ => hb (by rw [show t.bankB.state = .active from hstate]; decide), fun both => by cases both.2⟩
    refine ⟨cursorToStart_banks hswapped, cursorToStart_cursor hswapped, ?_⟩
    obtain ⟨hsame, hpath⟩ := cursorToStart_queue ((t.setBank bank { t.bank bank with state := .valid }).setBank (otherCovBank bank)
        { t.bank (otherCovBank bank) with state := .active })
    rw [hsame, hpath]
    cases bank <;> exact hqueue

theorem prepareMark_ordered (env : TrackEnv) (k : MarkerKind) (job : Option Bank) {t : TrackWeb} (h : WebOrdered t)
    (hspare : k = .jobcut → (spareBank t).map CoverageBank.state = some .valid) :
    WebOrdered (prepareMark env k job t).web := by
  unfold prepareMark
  split
  · exact h
  · split
    · next hjobcut => exact swapBanks_ordered h (hspare hjobcut)
    · exact h

theorem placeMarker_ordered (env : TrackEnv) (k : MarkerKind) {r : TrackRun} (h : WebOrdered r.web) :
    WebOrdered (placeMarker env k r).web := by
  obtain ⟨hbanks, hcursor, hqueue⟩ := h
  unfold placeMarker
  simp only
  split
  · exact ⟨hbanks, hcursor, hqueue⟩
  · split
    · refine ⟨hbanks, hcursor, mapLast_marked (by intro _; rfl) (by intro _; rfl) ?_ hqueue⟩
      intro seg _
      exact ⟨recordLoad_le _ _ _, fun m hm => by obtain rfl := Option.some.inj hm; exact Nat.zero_le 7⟩
    · split
      · next hroom =>
        refine ⟨hbanks, hcursor, append_ordered hqueue hroom rfl rfl ?_⟩
        exact ⟨recordLoad_le _ _ _, fun m hm => by obtain rfl := Option.some.inj hm; exact Nat.zero_le 7⟩
      · split
        · refine ⟨hbanks, hcursor, mapLast_marked (by intro _; rfl) (by intro _; rfl) ?_ hqueue⟩
          intro seg hseg
          exact ⟨max_le hseg.1 (recordLoad_le _ _ _),
            fun m hm => by obtain rfl := Option.some.inj hm; exact Nat.zero_le 7⟩
        · have hmerged : ∀ load, load ≤ 4000 → WebOrdered { r.web with
              queue := mapLast (fun seg => { seg with load := max seg.load load }) r.web.queue } := by
            intro load hload
            refine ⟨hbanks, hcursor, mapLast_marked (by intro _; rfl) (by intro _; rfl) ?_ hqueue⟩
            exact fun seg hseg => ⟨max_le hseg.1 hload, hseg.2⟩
          split <;> exact hmerged _ (recordLoad_le _ _ _)

/-! ## The part's tracking -/

theorem track_setTrack (s : State) (w v : Fin 4) (t : TrackWeb) :
    (s.setTrack w t).track v = if v = w then t else s.track v := tab_get_set _ _ _ _

theorem setTrack_ordered {s : State} (h : TrackingOrdered s) (w : Fin 4) {t : TrackWeb} (ht : WebOrdered t) :
    TrackingOrdered (s.setTrack w t) := by
  rw [trackingOrdered_iff] at h ⊢
  intro v
  rw [track_setTrack]
  split
  · exact ht
  · exact h v

theorem trackingOrdered_of_same (s t : State) (hsame : Block.tracker.Same s t) (h : TrackingOrdered s) :
    TrackingOrdered t := by
  have htracker : t.tracker = s.tracker := hsame
  rw [trackingOrdered_iff] at h ⊢
  intro w
  rw [State.track, htracker]
  exact h w

theorem putTrackRun_ordered {s : State} (h : TrackingOrdered s) (w : Fin 4) {r : TrackRun} (hr : WebOrdered r.web) :
    TrackingOrdered (s.putTrackRun w r) := by
  rw [trackingOrdered_iff] at h ⊢
  intro v
  refine (congrArg WebOrdered (tab_get_set s.tracker.webs w v r.web)).mpr ?_
  split
  · exact hr
  · exact h v

theorem TrackingOrdered.web {s : State} (h : TrackingOrdered s) (w : Fin 4) : WebOrdered (s.track w) :=
  (trackingOrdered_iff s).mp h w

theorem writeStations_ordered {s : State} (h : TrackingOrdered s) (w : Fin 4) (sp : Span) :
    TrackingOrdered (writeStations w sp s).state := by
  unfold writeStations
  simp only
  split_ifs <;> first | exact h | exact setTrack_ordered h w (TrackingOrdered.web h w)

theorem writeCoverage_ordered {s : State} (h : TrackingOrdered s) (i : Fin 8) (sp : Span) :
    TrackingOrdered (writeCoverage i sp s).state := by
  unfold writeCoverage
  simp only
  split
  · exact h
  · next hbank =>
    split
    · exact h
    · split
      · exact h
      · exact setTrack_ordered h _ (setBank_ordered (TrackingOrdered.web h _) _ _ hbank (fun e => by cases e)
          fun hne => absurd rfl hne)

theorem validateCoverage_ordered {s : State} (h : TrackingOrdered s) (i : Fin 8) (args : List Byte) :
    TrackingOrdered (validateCoverage i args s).state := by
  unfold validateCoverage
  simp only
  split
  · exact h
  · next hinvalid =>
    have hinvalid' := not_not.mp hinvalid
    split
    · next hsound =>
      refine setTrack_ordered h _ (setBank_ordered (TrackingOrdered.web h _) _ _ (by rw [hinvalid']; decide)
        (fun e => by cases e) fun _ => ?_)
      exact soundBank_of_coverageSound hsound
    · exact h

theorem acceptMark_ordered {s : State} (h : TrackingOrdered s) (w : Fin 4) (k : MarkerKind) (job : Option Bank)
    (hspare : k = .jobcut → (spareBank (s.track w)).map CoverageBank.state = some .valid) :
    TrackingOrdered (acceptMark w k job s).state :=
  putTrackRun_ordered h w
    (placeMarker_ordered _ k (prepareMark_ordered _ k job (TrackingOrdered.web h w) hspare))

theorem markJobcut_ordered {s : State} (h : TrackingOrdered s) (w : Fin 4) : TrackingOrdered (markJobcut w s).state := by
  unfold markJobcut
  simp only
  split
  · exact h
  · next hspare =>
    have hspare' := not_not.mp hspare
    split
    · split
      · exact h
      · split
        · exact h
        · exact acceptMark_ordered (s := s.reserve _ _) h w .jobcut _ fun _ => hspare'
    · exact acceptMark_ordered h w .jobcut _ fun _ => hspare'

theorem markWeb_ordered {s : State} (h : TrackingOrdered s) (w : Fin 4) (k : MarkerKind) :
    TrackingOrdered (markWeb w k s).state := by
  unfold markWeb
  split
  · exact h
  · split
    · exact h
    · split
      · exact h
      · split
        · exact markJobcut_ordered h w
        · next hne => exact acceptMark_ordered h w k _ fun hk => absurd hk hne

theorem reset_trackingOrdered : TrackingOrdered State.reset := by
  rw [trackingOrdered_iff]
  intro w
  have hweb : State.reset.track w = TrackWeb.reset := tab_get_replicate _ _
  have hnone : TrackWeb.reset.activeBank = none := rfl
  rw [hweb]
  exact ⟨⟨fun hne => absurd rfl hne, fun hne => absurd rfl hne, fun both => by cases both.1⟩,
    fun _ hbank => absurd (hnone.symm.trans hbank) (by simp), nil_ordered _⟩

theorem restarted_trackingOrdered {s : State} (h : TrackingOrdered s) : TrackingOrdered (restarted s) := by
  rw [trackingOrdered_iff]
  intro w
  have hweb : (restarted s).track w = (s.track w).restarted := tab_get_ofFn _ _
  rw [hweb]
  exact restarted_ordered (TrackingOrdered.web h w)

/-- Settles O57: every command that writes the Web Tracker keeps each web's tracking state in order. -/
theorem trackingInvariantKept : Obligations.TrackingInvariantKept := by
  refine step_keeps_block .tracker trackingOrdered_of_same reset_trackingOrdered fun c s t hb hc hs h => ?_
  have hsame := trackingOrdered_of_same
  cases c with
  | powerOnReset straps => exact absurd rfl (hc straps)
  | write rq =>
    refine request_keeps .tracker hsame h hs fun s hs => writeAnywhere_keeps hs
      (fun i sp => (writeSubscription_sameBut i sp s).keeps .tracker hsame (by decide) hs)
      (fun i sp => (writeBinding_sameBut i sp s).keeps .tracker hsame (by decide) hs)
      (writeStations_ordered hs) (writeCoverage_ordered hs)
      (fun i sp => (writeProfile_sameBut i sp s).keeps .tracker hsame (by decide) hs)
      (fun i sp => (writeLoop_sameBut i sp s).keeps .tracker hsame (by decide) hs)
      (fun i sp => (writeWebParam_sameBut i sp s).keeps .tracker hsame (by decide) hs)
      (fun i sp => (writeHousingParam_sameBut i sp s).keeps .tracker hsame (by decide) hs)
      (fun i sp => (writeProtection_sameBut i sp s).keeps .tracker hsame (by decide) hs)
      (fun i args => (writeRampMemory_sameBut i args s).keeps .tracker hsame (by decide) hs)
      (fun i sp => (writeRampDescriptor_sameBut i sp s).keeps .tracker hsame (by decide) hs) _
  | writeStations rq => exact request_keeps .tracker hsame h hs fun s hs => writeObject_keeps hs (writeStations_ordered hs) _
  | writeCoverage rq => exact request_keeps .tracker hsame h hs fun s hs => writeObject_keeps hs (writeCoverage_ordered hs) _
  | validateCoverage rq =>
    exact request_keeps .tracker hsame h hs fun s hs => indexed_keeps hs (validateCoverage_ordered hs) _
  | mark rq =>
    refine request_keeps .tracker hsame h hs fun s hs => indexed_keeps hs (fun w args => ?_) _
    split
    · exact hs
    · split
      · exact hs
      · exact markWeb_ordered hs w _
  | restart rq =>
    refine request_keeps .tracker hsame h hs fun s hs => ?_
    unfold restartAnswer
    split
    · exact restarted_trackingOrdered hs
    · exact hs
  | advance w =>
    have h' : execAdvance w s = .next t := h
    unfold execAdvance at h'
    refine event_keeps h' hs ?_
    split
    · exact putTrackRun_ordered hs w (takePosition_ordered s w _ (TrackingOrdered.web hs w))
    · exact hs
  | trackingStart w =>
    have h' : execTrackingStart w s = .next t := h
    unfold execTrackingStart at h'
    exact event_keeps h' hs (setTrack_ordered hs w (startTracking_ordered _ (TrackingOrdered.web hs w)))
  | queueEmptying w =>
    have h' : execQueueEmptying w s = .next t := h
    unfold execQueueEmptying at h'
    exact event_keeps h' hs (putTrackRun_ordered hs w (emptyTracking_ordered (TrackingOrdered.web hs w)))
  | _ => simp [writes] at hb

end Sys2Proof.TrackingInvariant

/-! # The notice queue is kept in order (R171)

Kind and subject are the key of an entry: an operation on the queue keeps the keys or adds a new one at the end. -/

namespace Sys2Proof.NoticeInvariant

open Sys2Proof.Machine Sys2Proof.Statements Sys2Proof.Laws Sys2Proof.FrameProofs

theorem noticeView_kind (n : Notice) : (noticeView n).kind = (noticeKind n).val := by
  cases n with
  | profileSwitched i bank cause => cases cause <;> rfl
  | trip h causes reading => cases reading <;> rfl
  | _ => rfl

theorem indicatorCode_eq (i : Indicator) : indicatorCode i = indicatorNumber i := by
  cases i <;> rfl

theorem windowCode_eq (win : Window) : windowCode win = windowNumber win := by
  cases win with
  | waterReturn w c => cases c <;> rfl
  | _ => rfl

theorem noticeView_subject (n : Notice) : (noticeView n).subject = subjectNumber n := by
  cases n with
  | profileSwitched i bank cause => cases cause <;> exact indicatorCode_eq i
  | trip h causes reading => cases reading <;> rfl
  | outOfWindow win value bound => exact windowCode_eq win
  | windowRestored win value bound => exact windowCode_eq win
  | _ => rfl

/-- Kind and subject of an entry: two entries are of one report when they agree (R171). -/
def key (e : NoticeEntry) : Nat × Nat := ((noticeView e.notice).kind, (noticeView e.notice).subject)

theorem sameReport_iff (a b : Notice) :
    sameReport a b = true ↔
      (noticeView a).kind = (noticeView b).kind ∧ (noticeView a).subject = (noticeView b).subject := by
  simp [sameReport, noticeView_kind, noticeView_subject, Fin.ext_iff]

def QueueOrdered (q : List NoticeEntry) : Prop :=
  q.length ≤ 16 ∧ (q.map key).Nodup ∧ ∀ e ∈ q, 1 ≤ e.count ∧ e.count ≤ 255

theorem noticesOrdered_iff (s : State) : NoticesOrdered s ↔ QueueOrdered s.emission.queue := by
  unfold NoticesOrdered QueueOrdered List.Nodup
  rw [List.pairwise_map]
  simp only [key, ne_eq, Prod.mk.injEq]

theorem coalesceQueue_keys (n : Notice) (now : PartTime) (q : List NoticeEntry) :
    (coalesceQueue n now q).map key = q.map key := by
  induction q with
  | nil => rfl
  | cons e rest ih =>
    unfold coalesceQueue
    split
    · next hsame =>
      obtain ⟨hkind, hsubject⟩ := (sameReport_iff _ _).mp hsame
      simp [key, coalesce, hkind, hsubject]
    · simp [ih]

theorem coalesceQueue_counts (n : Notice) (now : PartTime) (q : List NoticeEntry)
    (h : ∀ e ∈ q, 1 ≤ e.count ∧ e.count ≤ 255) : ∀ e ∈ coalesceQueue n now q, 1 ≤ e.count ∧ e.count ≤ 255 := by
  induction q with
  | nil => exact h
  | cons e rest ih =>
    obtain ⟨he, hrest⟩ := List.forall_mem_cons.mp h
    unfold coalesceQueue
    split
    · refine List.forall_mem_cons.mpr ⟨?_, hrest⟩
      simp only [coalesce, Config.countMax]
      omega
    · exact List.forall_mem_cons.mpr ⟨he, ih hrest⟩

theorem markOverflow_keys (q : List NoticeEntry) : (markOverflow q).map key = q.map key := by
  induction q using markOverflow.induct with
  | case1 => rfl
  | case2 e => rfl
  | case3 e x rest ih => simp only [markOverflow, List.map_cons, ih]

theorem markOverflow_counts (q : List NoticeEntry) (h : ∀ e ∈ q, 1 ≤ e.count ∧ e.count ≤ 255) :
    ∀ e ∈ markOverflow q, 1 ≤ e.count ∧ e.count ≤ 255 := by
  induction q using markOverflow.induct with
  | case1 => exact h
  | case2 e => simpa [markOverflow] using h
  | case3 e x rest ih =>
    obtain ⟨he, hrest⟩ := List.forall_mem_cons.mp h
    exact List.forall_mem_cons.mpr ⟨he, ih hrest⟩

theorem queueNotice_ordered (n : Notice) (now : PartTime) {q : List NoticeEntry} (h : QueueOrdered q) :
    QueueOrdered (queueNotice n now q) := by
  obtain ⟨hlen, hkeys, hcounts⟩ := h
  unfold queueNotice
  split
  · exact ⟨by rwa [coalesceQueue_length], by rwa [coalesceQueue_keys], coalesceQueue_counts n now q hcounts⟩
  · next hnew =>
    split
    · next hroom =>
      have hfresh : ∀ e ∈ q, ¬ key e = ((noticeView n).kind, (noticeView n).subject) := by
        intro e he heq
        refine hnew (List.any_eq_true.mpr ⟨e, he, (sameReport_iff _ _).mpr ?_⟩)
        exact Prod.mk.inj heq
      refine ⟨?_, ?_, ?_⟩
      · simp only [List.length_append, List.length_singleton, Config.noticeEntries] at hroom ⊢
        omega
      · rw [List.map_append, List.nodup_append]
        refine ⟨hkeys, by simp, ?_⟩
        rintro k hk k' hk' rfl
        obtain ⟨e, he, rfl⟩ := List.mem_map.mp hk
        exact hfresh e he (by simpa [key] using hk')
      · intro e he
        rcases List.mem_append.mp he with hold | hadded
        · exact hcounts e hold
        · rw [List.mem_singleton.mp hadded]
          exact ⟨Nat.le_refl 1, (by decide : 1 ≤ 255)⟩
    · exact ⟨by rwa [markOverflow_length], by rwa [markOverflow_keys], markOverflow_counts q hcounts⟩

/-! ## The part's queue -/

theorem noticesOrdered_of_queue {s t : State} (hqueue : t.emission.queue = s.emission.queue) (h : NoticesOrdered s) :
    NoticesOrdered t := by
  rw [noticesOrdered_iff] at h ⊢
  rwa [hqueue]

theorem noticesOrdered_of_same (s t : State) (hsame : Block.emission.Same s t) (h : NoticesOrdered s) :
    NoticesOrdered t :=
  noticesOrdered_of_queue (congrArg Emission.queue hsame) h

theorem joinSet_queue (ch : Fin 30) (s : State) : (joinSet ch s).emission.queue = s.emission.queue := by
  unfold joinSet
  split <;> rfl

theorem empty_ordered : QueueOrdered [] := ⟨by decide, by simp, by simp⟩

/-- A grant takes the oldest entry or none. -/
theorem decideGrant_notice {s : State} {e : NoticeEntry} {rest : List NoticeEntry} (h : decideGrant s = .notice e rest) :
    s.emission.queue = e :: rest := by
  unfold decideGrant at h
  split at h
  · cases h
  · split at h
    · next hqueue _ => cases h; exact hqueue
    · next hqueue _ =>
      split at h
      · cases h; exact hqueue
      · cases h
    · cases h
    · cases h

theorem offerSlot_ordered (slot : Slot) {s : State} (h : NoticesOrdered s) : NoticesOrdered (offerSlot slot s) := by
  unfold offerSlot
  split
  · exact h
  · next e rest hgrant =>
    rw [noticesOrdered_iff, decideGrant_notice hgrant] at h
    obtain ⟨hlen, hkeys, hcounts⟩ := h
    rw [noticesOrdered_iff]
    exact ⟨(Nat.le_succ _).trans hlen, (List.nodup_cons.mp hkeys).2, (List.forall_mem_cons.mp hcounts).2⟩
  · exact h

/-- Every step keeps the notice queue in order. -/
theorem step_keeps_notices (s t : State) (hs : NoticesOrdered s) (h : step s = .next t) : NoticesOrdered t := by
  refine step_keeps_block .emission noticesOrdered_of_same ((noticesOrdered_iff _).mpr empty_ordered) (fun c s t hb hc hs h => ?_) s t hs h
  have hsame := noticesOrdered_of_same
  cases c with
  | powerOnReset straps => exact absurd rfl (hc straps)
  | vacantSlot slot =>
    obtain rfl := Host.Outcome.next.inj h
    split
    · exact offerSlot_ordered slot hs
    · exact (forwardSlot_sameBut slot s).keeps .emission hsame (by decide) hs
  | noticeMask rq =>
    refine request_keeps .emission hsame h hs fun s hs => ?_
    unfold setMask
    split <;> exact hs
  | restart rq =>
    refine request_keeps .emission hsame h hs fun s hs => ?_
    unfold restartAnswer
    split
    · exact (noticesOrdered_iff _).mpr empty_ordered
    · exact hs
  | channelActive ch => exact event_keeps h hs (noticesOrdered_of_queue (joinSet_queue ch s) hs)
  | topChange ch => exact event_keeps h hs (noticesOrdered_of_queue (joinSet_queue ch s) hs)
  | channelInactive ch =>
    have h' : execChannelInactive ch s = .next t := h
    unfold execChannelInactive at h'
    exact event_keeps h' hs hs
  | outputChange ch =>
    have h' : execOutputChange ch s = .next t := h
    unfold execOutputChange at h'
    refine event_keeps h' hs ?_
    split
    · exact noticesOrdered_of_queue (joinSet_queue ch s) hs
    · exact hs
  | refreshTimerExpiry ch =>
    have h' : execRefreshTimerExpiry ch s = .next t := h
    unfold execRefreshTimerExpiry at h'
    refine event_keeps h' hs ?_
    simp only
    split
    · exact noticesOrdered_of_queue (joinSet_queue ch _) hs
    · exact hs
  | noticeRaised n =>
    have h' : execNoticeRaised n s = .next t := h
    unfold execNoticeRaised at h'
    refine event_keeps h' hs ?_
    split
    · exact (noticesOrdered_iff _).mpr (queueNotice_ordered n s.now ((noticesOrdered_iff s).mp hs))
    · exact hs
  | _ => simp [writes, written] at hb

end Sys2Proof.NoticeInvariant

/-! # Ramp memory and the ownership table are kept in order (R148, R149)

The invariant of the ownership table against the slots, and each operation of one slot against it. -/

namespace Sys2Proof.RampInvariant

open Sys2Proof.Machine Sys2Proof.Statements Sys2Proof.Laws Sys2Proof.FrameProofs

/-! ## Targets and the ownership table -/

theorem targetIx_injective {t u : RampTarget} (h : targetIx t = targetIx u) : t = u := by
  have hval := congrArg Fin.val h
  cases t <;> cases u <;> simp only [targetIx] at hval <;>
    first | (exfalso; omega) | (congr 1 <;> apply Fin.ext <;> omega)

/-- A table with the targets of a list set to one entry. -/
theorem get_foldl_set (v : Ownership) (ts : List RampTarget) (o : Tab Ownership 24) (u : RampTarget) :
    (ts.foldl (fun o t => o.set (targetIx t) v) o).get (targetIx u) = if u ∈ ts then v else o.get (targetIx u) := by
  induction ts generalizing o with
  | nil => simp
  | cons t rest ih =>
    rw [List.foldl_cons, ih]
    by_cases hrest : u ∈ rest
    · simp [hrest]
    · by_cases heq : u = t
      · simp [heq]
      · have hix : targetIx u ≠ targetIx t := fun e => heq (targetIx_injective e)
        simp [hrest, heq, hix]

theorem releaseTargets_get (ts : List RampTarget) (o : Tab Ownership 24) (u : RampTarget) :
    (releaseTargets o ts).get (targetIx u) = if u ∈ ts then ⟨none, none⟩ else o.get (targetIx u) :=
  get_foldl_set ⟨none, none⟩ ts o u

theorem claimTargets_get (j : Fin 8) (ts : List RampTarget) (o : Tab Ownership 24) (u : RampTarget) :
    (claimTargets j o ts).get (targetIx u) = if u ∈ ts then ⟨some j, none⟩ else o.get (targetIx u) :=
  get_foldl_set ⟨some j, none⟩ ts o u

theorem firstConflict_none {o : Tab Ownership 24} {ts : List RampTarget} (h : firstConflict o ts = none) :
    ∀ t ∈ ts, (o.get (targetIx t)).owner = none := by
  induction ts with
  | nil => simp
  | cons t rest ih =>
    unfold firstConflict at h
    split at h
    · cases h
    · next hfree => exact List.forall_mem_cons.mpr ⟨hfree, ih h⟩

/-! ## The invariant -/

/-- A slot in a state in which it owns the targets of its list. -/
def Running (x : RampSlot) : Prop :=
  x.state = .running ∨ x.state = .pausing ∨ x.state = .paused ∨ x.state = .holding

theorem ownsTargets_iff (x : RampSlot) : ownsTargets x.state = true ↔ Running x := by
  unfold Running
  cases x.state <;> simp [ownsTargets]

/-- The owners are the slots that run, each of the targets it lists. -/
def OwnersOrdered (slots : Tab RampSlot 8) (o : Tab Ownership 24) : Prop :=
  ∀ (t : RampTarget) (j : Fin 8), (o.get (targetIx t)).owner = some j ↔ Running (slots.get j) ∧ t ∈ (slots.get j).targetList

/-- Ramp values stand on owned targets, in their ranges. -/
def ValuesOrdered (o : Tab Ownership 24) : Prop :=
  ∀ (t : RampTarget) (v : Nat), (o.get (targetIx t)).value = some v → (o.get (targetIx t)).owner ≠ none ∧ v ≤ targetMax t

theorem rampsOrdered_iff (s : State) :
    RampsOrdered s ↔
      RampMemory.wf s.ramp.memory = true ∧ OwnersOrdered s.ramp.slots s.ramp.owners ∧ ValuesOrdered s.ramp.owners := Iff.rfl

/-- The run of an event at slot `j` leaves the table in order. -/
def RunOrdered (slots : Tab RampSlot 8) (j : Fin 8) (r : RampRun) : Prop :=
  OwnersOrdered (slots.set j r.slot) r.owners ∧ ValuesOrdered r.owners

/-- A slot that lists the same targets and runs as before may be put in place. -/
theorem OwnersOrdered.replace {slots : Tab RampSlot 8} {j : Fin 8} {x y : RampSlot} {o : Tab Ownership 24}
    (h : OwnersOrdered (slots.set j x) o) (hlist : y.targetList = x.targetList) (hrun : Running y ↔ Running x) :
    OwnersOrdered (slots.set j y) o := by
  intro t k
  have hold := h t k
  rw [tab_get_set] at hold ⊢
  split at hold
  · next hk => rw [if_pos hk, hlist, hrun]; exact hold
  · next hk => rw [if_neg hk]; exact hold

/-- A slot that does not run lists what it likes. -/
theorem OwnersOrdered.replace_idle {slots : Tab RampSlot 8} {j : Fin 8} {x y : RampSlot} {o : Tab Ownership 24}
    (h : OwnersOrdered (slots.set j x) o) (hx : ¬ Running x) (hy : ¬ Running y) : OwnersOrdered (slots.set j y) o := by
  intro t k
  have hold := h t k
  rw [tab_get_set] at hold ⊢
  split at hold
  · next hk => rw [if_pos hk]; simpa [hx, hy] using hold
  · next hk => rw [if_neg hk]; exact hold

theorem OwnersOrdered.owner {slots : Tab RampSlot 8} {j : Fin 8} {x : RampSlot} {o : Tab Ownership 24}
    (h : OwnersOrdered (slots.set j x) o) (hx : Running x) {t : RampTarget} (ht : t ∈ x.targetList) :
    (o.get (targetIx t)).owner = some j :=
  (h t j).mpr (by rw [tab_get_set_same]; exact ⟨hx, ht⟩)

/-! ## Steps and transfers -/

theorem advanceSlot_desc (x : RampSlot) : (advanceSlot x).1.desc = x.desc ∧ (advanceSlot x).1.state = x.state := by
  unfold advanceSlot
  simp only
  split_ifs <;> exact ⟨rfl, rfl⟩

theorem stepValue_le (m : RampMemory) (x : RampSlot) (t : RampTarget) : stepValue m x t ≤ targetMax t := by
  unfold stepValue clampInt
  omega

theorem running_congr {x y : RampSlot} (h : y.state = x.state) : Running y ↔ Running x := by
  unfold Running
  rw [h]

theorem takeStep_slot (m : RampMemory) (r : RampRun) : (takeStep m r).slot = (advanceSlot r.slot).1 := by
  unfold takeStep
  simp only
  split <;> rfl

theorem takeStep_running {m : RampMemory} {r : RampRun} (h : Running r.slot) : Running (takeStep m r).slot := by
  rw [takeStep_slot]
  exact (running_congr (advanceSlot_desc r.slot).2).mpr h

/-- A write to an owned target keeps the values in order. -/
theorem ValuesOrdered.write {o : Tab Ownership 24} (h : ValuesOrdered o) {t : RampTarget} {v : Nat}
    (howned : (o.get (targetIx t)).owner ≠ none) (hv : v ≤ targetMax t) :
    ValuesOrdered (o.modify (targetIx t) fun e => { e with value := some v }) := by
  intro u w hw
  by_cases heq : u = t
  · subst heq
    rw [tab_get_modify_same] at hw ⊢
    obtain rfl := Option.some.inj hw
    exact ⟨howned, hv⟩
  · have hix : targetIx u ≠ targetIx t := fun e => heq (targetIx_injective e)
    rw [tab_get_modify_other _ _ hix] at hw ⊢
    exact h u w hw

theorem OwnersOrdered.write {slots : Tab RampSlot 8} {o : Tab Ownership 24} (h : OwnersOrdered slots o) (t : RampTarget)
    (v : Nat) : OwnersOrdered slots (o.modify (targetIx t) fun e => { e with value := some v }) := by
  intro u k
  rw [← h u k]
  by_cases heq : u = t
  · subst heq
    rw [tab_get_modify_same]
  · have hix : targetIx u ≠ targetIx t := fun e => heq (targetIx_injective e)
    rw [tab_get_modify_other _ _ hix]

theorem takeStep_ordered {slots : Tab RampSlot 8} {j : Fin 8} (m : RampMemory) {r : RampRun}
    (h : RunOrdered slots j r) (hrun : Running r.slot) : RunOrdered slots j (takeStep m r) := by
  obtain ⟨howners, hvalues⟩ := h
  obtain ⟨hdesc, hstate⟩ := advanceSlot_desc r.slot
  have hreplaced : OwnersOrdered (slots.set j (advanceSlot r.slot).1) r.owners :=
    howners.replace (by rw [RampSlot.targetList, hdesc]; rfl) (running_congr hstate)
  unfold takeStep
  simp only
  split
  · next t ht =>
    have hmem : t ∈ r.slot.targetList := List.mem_of_getElem? ht
    have howner := howners.owner hrun hmem
    exact ⟨hreplaced.write t _, hvalues.write (by rw [howner]; simp) (stepValue_le m r.slot t)⟩
  · exact ⟨hreplaced, hvalues⟩

theorem takeLine_ordered {slots : Tab RampSlot 8} {j : Fin 8} (m : RampMemory) (fuel : Nat) {r : RampRun}
    (h : RunOrdered slots j r) (hrun : Running r.slot) :
    RunOrdered slots j (takeLine m fuel r) ∧ Running (takeLine m fuel r).slot := by
  induction fuel generalizing r with
  | zero => exact ⟨h, hrun⟩
  | succ fuel ih =>
    have hstep := takeStep_ordered m h hrun
    have hstill : Running (takeStep m r).slot := takeStep_running hrun
    unfold takeLine
    split
    · exact ⟨hstep, hstill⟩
    · exact ih hstep hstill

theorem transferSteps_ordered {slots : Tab RampSlot 8} {j : Fin 8} (m : RampMemory) {r : RampRun}
    (h : RunOrdered slots j r) (hrun : Running r.slot) :
    RunOrdered slots j (transferSteps m r) ∧ Running (transferSteps m r).slot := by
  unfold transferSteps
  split
  · exact takeLine_ordered m 8 h hrun
  · exact ⟨takeStep_ordered m h hrun, takeStep_running hrun⟩

/-! ## Release and completion -/

/-- The targets of a slot that ran are free again, and the slot no longer runs. -/
theorem release_ordered {slots : Tab RampSlot 8} {j : Fin 8} {r : RampRun} (h : RunOrdered slots j r)
    (hrun : Running r.slot) {y : RampSlot} (hy : ¬ Running y) : RunOrdered slots j { r.release with slot := y } := by
  obtain ⟨howners, hvalues⟩ := h
  refine ⟨fun t k => ?_, fun t v hv => ?_⟩
  · show ((releaseTargets r.owners r.slot.targetList).get (targetIx t)).owner = some k ↔ _
    rw [releaseTargets_get]
    have hold := howners t k
    rw [tab_get_set] at hold ⊢
    by_cases hk : k = j
    · subst hk
      rw [if_pos rfl] at hold ⊢
      simp only [hy, false_and, iff_false]
      split
      · simp
      · next hmem => exact fun howned => hmem (hold.mp howned).2
    · rw [if_neg hk] at hold ⊢
      split
      · next hmem =>
        have howner := howners.owner hrun hmem
        refine iff_of_false (by simp) fun hother => hk ?_
        exact (Option.some.inj (howner.symm.trans (hold.mpr hother))).symm
      · exact hold
  · have hget : ((releaseTargets r.owners r.slot.targetList).get (targetIx t)).value = some v := hv
    show ((releaseTargets r.owners r.slot.targetList).get (targetIx t)).owner ≠ none ∧ v ≤ targetMax t
    rw [releaseTargets_get] at hget ⊢
    split at hget
    · cases hget
    · next hmem => rw [if_neg hmem]; exact hvalues t v hget

theorem endAction_ordered {slots : Tab RampSlot 8} {j : Fin 8} {r : RampRun} (h : RunOrdered slots j r)
    (hrun : Running r.slot) : RunOrdered slots j (endAction r) := by
  unfold endAction
  split
  · refine ⟨h.1.replace (x := r.slot) rfl ?_, h.2⟩
    exact iff_of_true (.inr (.inr (.inr rfl))) hrun
  · exact h
  · refine release_ordered h hrun ?_
    unfold Running
    simp only
    split <;> simp

theorem completePass_ordered {slots : Tab RampSlot 8} {j : Fin 8} (k : Fin 8) {r : RampRun} (h : RunOrdered slots j r)
    (hrun : Running r.slot) : RunOrdered slots j (completePass k r) :=
  endAction_ordered (r := { r with slot := { r.slot with passes := _ } }) ⟨h.1.replace rfl Iff.rfl, h.2⟩ hrun

theorem takeTransfer_ordered {slots : Tab RampSlot 8} {j : Fin 8} (k : Fin 8) (m : RampMemory) {r : RampRun}
    (h : RunOrdered slots j r) (hrun : Running r.slot) : RunOrdered slots j (takeTransfer k m r) := by
  obtain ⟨hsteps, hstill⟩ := transferSteps_ordered m h hrun
  unfold takeTransfer
  simp only
  split
  · exact completePass_ordered k hsteps hstill
  · exact hsteps

/-! ## Starts, pauses and stops -/

/-- A slot that does not run takes free targets. -/
theorem claim_ordered {slots : Tab RampSlot 8} {j : Fin 8} {r : RampRun} (h : RunOrdered slots j r)
    (hidle : ¬ Running r.slot) (hfree : ∀ t ∈ r.slot.targetList, (r.owners.get (targetIx t)).owner = none) {y : RampSlot}
    (hlist : y.targetList = r.slot.targetList) (hy : Running y) :
    RunOrdered slots j { r with slot := y, owners := claimTargets j r.owners r.slot.targetList } := by
  obtain ⟨howners, hvalues⟩ := h
  refine ⟨fun t k => ?_, fun t v hv => ?_⟩
  · show ((claimTargets j r.owners r.slot.targetList).get (targetIx t)).owner = some k ↔ _
    rw [claimTargets_get]
    have hold := howners t k
    rw [tab_get_set] at hold ⊢
    by_cases hk : k = j
    · subst hk
      rw [if_pos rfl] at hold ⊢
      rw [hlist]
      simp only [hidle, false_and, iff_false] at hold
      simp only [hy, true_and]
      split
      · next hmem => simp [hmem]
      · next hmem => simp [hmem, hold]
    · rw [if_neg hk] at hold ⊢
      split
      · next hmem =>
        refine iff_of_false (fun heq => hk (Option.some.inj heq).symm) fun hother => ?_
        have howned := hold.mpr hother
        rw [hfree t hmem] at howned
        cases howned
      · exact hold
  · have hget : ((claimTargets j r.owners r.slot.targetList).get (targetIx t)).value = some v := hv
    show ((claimTargets j r.owners r.slot.targetList).get (targetIx t)).owner ≠ none ∧ v ≤ targetMax t
    rw [claimTargets_get] at hget ⊢
    split at hget
    · cases hget
    · next hmem => rw [if_neg hmem]; exact hvalues t v hget

theorem startSlot_ordered {slots : Tab RampSlot 8} {j : Fin 8} (now : PartTime) (m : RampMemory) {r : RampRun}
    (h : RunOrdered slots j r) (hidle : ¬ Running r.slot)
    (hfree : ∀ t ∈ r.slot.targetList, (r.owners.get (targetIx t)).owner = none) :
    RunOrdered slots j (startSlot j now m r) :=
  takeTransfer_ordered j m (claim_ordered h hidle hfree rfl (.inl rfl)) (.inl rfl)

theorem settlePause_list (now : PartTime) (x : RampSlot) : (settlePause now x).targetList = x.targetList := by
  unfold settlePause
  split <;> rfl

theorem settlePause_running (now : PartTime) (x : RampSlot) : Running (settlePause now x) ↔ Running x := by
  unfold settlePause
  split
  · next hpausing => exact iff_of_true (.inr (.inr (.inl rfl))) (.inr (.inl hpausing.1))
  · exact Iff.rfl

theorem expireSlot_ordered {slots : Tab RampSlot 8} {j : Fin 8} (now : PartTime) (m : RampMemory) {r : RampRun}
    (h : RunOrdered slots j r) (hrun : Running r.slot) : RunOrdered slots j (expireSlot j now m r) := by
  have htransfer := takeTransfer_ordered j m (r := { r with slot := { r.slot with
    timer := r.slot.timer.map fun e => after e (pacePeriod r.slot.desc) } }) ⟨h.1.replace rfl Iff.rfl, h.2⟩ hrun
  exact ⟨htransfer.1.replace (settlePause_list now _) (settlePause_running now _), htransfer.2⟩

theorem stopSlot_ordered {slots : Tab RampSlot 8} {j : Fin 8} {r : RampRun} (h : RunOrdered slots j r)
    (hrun : Running r.slot) : RunOrdered slots j (stopSlot r) :=
  release_ordered h hrun (by simp [Running])

/-! ## The part's ramp engine -/

theorem rampsOrdered_of_same (s t : State) (hsame : Block.ramp.Same s t) (h : RampsOrdered s) : RampsOrdered t := by
  have hramp : t.ramp = s.ramp := hsame
  rw [rampsOrdered_iff] at h ⊢
  rwa [hramp]

theorem rampRun_ordered {s : State} (h : RampsOrdered s) (j : Fin 8) : RunOrdered s.ramp.slots j (s.rampRun j) := by
  obtain ⟨-, howners, hvalues⟩ := (rampsOrdered_iff s).mp h
  refine ⟨?_, hvalues⟩
  show OwnersOrdered (s.ramp.slots.set j (s.ramp.slots.get j)) s.ramp.owners
  rwa [tab_set_get]

theorem putRun_ordered {s : State} (h : RampsOrdered s) {j : Fin 8} {r : RampRun} (hr : RunOrdered s.ramp.slots j r) :
    RampsOrdered (s.putRun j r) :=
  ⟨h.1, hr.1, hr.2⟩

/-- A slot replaced by one that lists the same targets and runs as before. -/
theorem putSlot_ordered {s : State} (h : RampsOrdered s) (j : Fin 8) {x : RampSlot}
    (hlist : x.targetList = (s.ramp.slots.get j).targetList) (hrun : Running x ↔ Running (s.ramp.slots.get j)) :
    RampsOrdered (s.putSlot j x) :=
  putRun_ordered h ⟨(rampRun_ordered h j).1.replace hlist hrun, (rampRun_ordered h j).2⟩

theorem putSlot_idle_ordered {s : State} (h : RampsOrdered s) (j : Fin 8) {x : RampSlot}
    (hold : ¬ Running (s.ramp.slots.get j)) (hx : ¬ Running x) : RampsOrdered (s.putSlot j x) :=
  putRun_ordered h ⟨(rampRun_ordered h j).1.replace_idle hold hx, (rampRun_ordered h j).2⟩

theorem not_running_of {x : RampSlot} {st : SlotState} (h : x.state = st) (hst : ownsTargets st = false) : ¬ Running x := by
  rw [← ownsTargets_iff, h, hst]
  simp

theorem started_ordered {s : State} (h : RampsOrdered s) (j : Fin 8) (hidle : ¬ Running (s.ramp.slots.get j))
    (hfree : s.conflict j = none) : RampsOrdered (s.started j) :=
  putRun_ordered h (startSlot_ordered _ _ (rampRun_ordered h j) hidle (firstConflict_none hfree))

theorem armSlot_ordered {s : State} (h : RampsOrdered s) (j : Fin 8) (args : List Byte) :
    RampsOrdered (armSlot j args s).state := by
  unfold armSlot
  simp only
  split
  · next hloaded => exact putSlot_idle_ordered h j (not_running_of hloaded rfl) (by simp [Running])
  · exact h

theorem disarmSlot_ordered {s : State} (h : RampsOrdered s) (j : Fin 8) (args : List Byte) :
    RampsOrdered (disarmSlot j args s).state := by
  unfold disarmSlot
  simp only
  split
  · next harmed => exact putSlot_idle_ordered h j (not_running_of harmed rfl) (by simp [Running])
  · exact h

theorem startRequest_ordered {s : State} (h : RampsOrdered s) (j : Fin 8) (args : List Byte) :
    RampsOrdered (startRequest j args s).state := by
  unfold startRequest
  simp only
  split
  · next hstate =>
    have hidle : ¬ Running (s.ramp.slots.get j) :=
      hstate.elim (fun e => not_running_of e rfl) fun e => not_running_of e rfl
    split
    · exact h
    · next hfree => exact started_ordered h j hidle hfree
  · exact h

theorem pausedSlot_list (now : PartTime) (x : RampSlot) :
    (pausedSlot now x).targetList = x.targetList ∧ Running (pausedSlot now x) := by
  unfold pausedSlot
  split
  · exact ⟨rfl, .inr (.inr (.inl rfl))⟩
  · exact ⟨rfl, .inr (.inl rfl)⟩

theorem pauseSlot_ordered {s : State} (h : RampsOrdered s) (j : Fin 8) (args : List Byte) :
    RampsOrdered (pauseSlot j args s).state := by
  unfold pauseSlot
  simp only
  split
  · next hrunning =>
    obtain ⟨hlist, hrun⟩ := pausedSlot_list s.now (s.ramp.slots.get j)
    exact putSlot_ordered h j hlist (iff_of_true hrun (.inl hrunning))
  · exact h

theorem resumeSlot_ordered {s : State} (h : RampsOrdered s) (j : Fin 8) (args : List Byte) :
    RampsOrdered (resumeSlot j args s).state := by
  unfold resumeSlot
  simp only
  split
  · next hpaused => exact putSlot_ordered h j rfl (iff_of_true (.inl rfl) (.inr (.inr (.inl hpaused))))
  · split
    · next hpausing => exact putSlot_ordered h j rfl (iff_of_true (.inl rfl) (.inr (.inl hpausing)))
    · exact h

theorem stopRequest_ordered {s : State} (h : RampsOrdered s) (j : Fin 8) (args : List Byte) :
    RampsOrdered (stopRequest j args s).state := by
  unfold stopRequest
  split
  · next howns => exact putRun_ordered h (stopSlot_ordered (rampRun_ordered h j) ((ownsTargets_iff _).mp howns))
  · exact h

theorem wordsOfBytes_length (bs : List Byte) : (wordsOfBytes bs).length = bs.length / 2 := by
  induction bs using wordsOfBytes.induct with
  | case1 hi lo rest ih =>
    simp only [wordsOfBytes, List.length_cons, ih]
    omega
  | case2 bs hshort =>
    match bs with
    | [] => rfl
    | [b] => simp [wordsOfBytes]
    | hi :: lo :: rest => exact absurd rfl (hshort hi lo rest)

theorem writeRampMemory_ordered {s : State} (h : RampsOrdered s) (i : Fin 1) (args : List Byte) :
    RampsOrdered (writeRampMemory i args s).state := by
  unfold writeRampMemory
  split
  · exact h
  · next a k hspan =>
    split
    · exact h
    · have hin : a + k ≤ Config.rampWords := by
        unfold rampSpan at hspan
        simp only at hspan
        split at hspan
        · cases hspan
        · next hok =>
          obtain ⟨rfl, rfl⟩ := Prod.mk.inj (Option.some.inj hspan)
          omega
      refine ⟨writeAll_wf s.ramp.memory a _ ?_ h.1, h.2⟩
      rw [List.length_map, wordsOfBytes_length, List.length_take]
      omega

theorem writeRampDescriptor_ordered {s : State} (h : RampsOrdered s) (j : Fin 8) (sp : Span) :
    RampsOrdered (writeRampDescriptor j sp s).state := by
  unfold writeRampDescriptor
  simp only
  split
  · exact h
  · split
    · exact h
    · next hstate =>
      have hidle : ¬ Running (s.ramp.slots.get j) := by
        rw [not_and_or, not_not, not_not] at hstate
        exact hstate.elim (fun e => not_running_of e rfl) fun e => not_running_of e rfl
      split
      · exact h
      · unfold judgeDescriptor
        simp only
        split <;> exact putSlot_idle_ordered h j hidle (by simp [Running])

theorem free_ordered {slots : Tab RampSlot 8} (h : ∀ j, ¬ Running (slots.get j)) :
    OwnersOrdered slots (Tab.replicate 24 ⟨none, none⟩) ∧ ValuesOrdered (Tab.replicate 24 ⟨none, none⟩) := by
  refine ⟨fun t j => ?_, fun t v hv => ?_⟩
  · rw [tab_get_replicate]
    exact iff_of_false (by simp) fun hrun => h j hrun.1
  · rw [tab_get_replicate] at hv
    cases hv

theorem reset_rampsOrdered : RampsOrdered State.reset :=
  ⟨rfl, free_ordered fun j => by
    have hslot : State.reset.ramp.slots.get j = RampSlot.reset := tab_get_replicate _ _
    rw [hslot]
    simp [Running, RampSlot.reset]⟩

theorem restarted_rampsOrdered {s : State} (h : RampsOrdered s) : RampsOrdered (restarted s) :=
  ⟨h.1, free_ordered fun j => by
    have hslot : (restarted s).ramp.slots.get j = (s.ramp.slots.get j).restarted := tab_get_ofFn _ _
    rw [hslot]
    unfold Running RampSlot.restarted
    simp only
    split <;> simp⟩

/-- Every step keeps ramp memory and the ownership table in order. -/
theorem step_keeps_ramps (s t : State) (hs : RampsOrdered s) (h : step s = .next t) : RampsOrdered t := by
  refine step_keeps_block .ramp rampsOrdered_of_same reset_rampsOrdered (fun c s t hb hc hs h => ?_) s t hs h
  have hsame := rampsOrdered_of_same
  cases c with
  | powerOnReset straps => exact absurd rfl (hc straps)
  | write rq =>
    exact request_keeps .ramp hsame h hs fun s hs => writeAnywhere_keeps hs
      (fun i sp => (writeSubscription_sameBut i sp s).keeps .ramp hsame (by decide) hs)
      (fun i sp => (writeBinding_sameBut i sp s).keeps .ramp hsame (by decide) hs)
      (fun i sp => (writeStations_sameBut i sp s).keeps .ramp hsame (by decide) hs)
      (fun i sp => (writeCoverage_sameBut i sp s).keeps .ramp hsame (by decide) hs)
      (fun i sp => (writeProfile_sameBut i sp s).keeps .ramp hsame (by decide) hs)
      (fun i sp => (writeLoop_sameBut i sp s).keeps .ramp hsame (by decide) hs)
      (fun i sp => (writeWebParam_sameBut i sp s).keeps .ramp hsame (by decide) hs)
      (fun i sp => (writeHousingParam_sameBut i sp s).keeps .ramp hsame (by decide) hs)
      (fun i sp => (writeProtection_sameBut i sp s).keeps .ramp hsame (by decide) hs)
      (writeRampMemory_ordered hs) (writeRampDescriptor_ordered hs) _
  | writeRampMemory rq => exact request_keeps .ramp hsame h hs fun s hs => indexed_keeps hs (writeRampMemory_ordered hs) _
  | writeRampDescriptor rq =>
    exact request_keeps .ramp hsame h hs fun s hs => writeObject_keeps hs (writeRampDescriptor_ordered hs) _
  | arm rq => exact request_keeps .ramp hsame h hs fun s hs => indexed_keeps hs (armSlot_ordered hs) _
  | disarm rq => exact request_keeps .ramp hsame h hs fun s hs => indexed_keeps hs (disarmSlot_ordered hs) _
  | start rq => exact request_keeps .ramp hsame h hs fun s hs => indexed_keeps hs (startRequest_ordered hs) _
  | pause rq => exact request_keeps .ramp hsame h hs fun s hs => indexed_keeps hs (pauseSlot_ordered hs) _
  | resume rq => exact request_keeps .ramp hsame h hs fun s hs => indexed_keeps hs (resumeSlot_ordered hs) _
  | stop rq => exact request_keeps .ramp hsame h hs fun s hs => indexed_keeps hs (stopRequest_ordered hs) _
  | restart rq =>
    refine request_keeps .ramp hsame h hs fun s hs => ?_
    unfold restartAnswer
    split
    · exact restarted_rampsOrdered hs
    · exact hs
  | paceTimerExpiry slot =>
    have h' : execPaceTimerExpiry slot s = .next t := h
    unfold execPaceTimerExpiry at h'
    refine event_keeps h' hs ?_
    split
    · next hdue =>
      have hrun : Running (s.ramp.slots.get slot) := by
        simp only [paceDue, Bool.and_eq_true, Bool.or_eq_true, decide_eq_true_eq] at hdue
        exact hdue.1.elim .inl fun e => .inr (.inl e)
      exact putRun_ordered hs (expireSlot_ordered _ _ (rampRun_ordered hs slot) hrun)
    · exact hs
  | trigger slot sig =>
    have h' : execTrigger slot sig s = .next t := h
    unfold execTrigger at h'
    refine event_keeps h' hs ?_
    simp only
    split
    · next harmed =>
      split
      · exact hs
      · next hfree => exact started_ordered hs slot (not_running_of harmed.1 rfl) hfree
    · exact hs
  | breakStop slot w =>
    have h' : execBreakStop slot w s = .next t := h
    unfold execBreakStop at h'
    refine event_keeps h' hs ?_
    simp only
    split
    · split
      · next howns => exact putRun_ordered hs (stopSlot_ordered (rampRun_ordered hs slot) ((ownsTargets_iff _).mp howns))
      · split
        · next harmed => exact putSlot_idle_ordered hs slot (not_running_of harmed rfl) (by simp [Running])
        · exact hs
    · exact hs
  | _ => simp [writes] at hb

/-- Settles O58: the notice queue and the ramp engine are each a block of their own. -/
theorem noticeAndRampInvariantsKept : Obligations.NoticeAndRampInvariantsKept :=
  ⟨NoticeInvariant.step_keeps_notices, step_keeps_ramps⟩

end Sys2Proof.RampInvariant

/-! # Controllers, profile banks and trip latches are kept in order

Four invariants of one block each: zone loops (R90 to R92), circuit B loops (R110), monitors (R119, R123) and profile
banks (R62). -/

namespace Sys2Proof.ControlInvariant

open Sys2Proof.Machine Sys2Proof.Statements Sys2Proof.Laws Sys2Proof.FrameProofs

/-! ## The proportional-integral law -/

/-- An integrator within its limit, and the last trim the sum of its terms. -/
def TrimOrdered (iLimit : Nat) (iAcc lastP lastTrim : Int) : Prop :=
  lastTrim = lastP + iAcc / 4096 ∧ -(iLimit * 4096 : Int) ≤ iAcc ∧ iAcc ≤ (iLimit * 4096 : Int)

theorem integralTerm_eq (acc : Int) : integralTerm acc = acc / 4096 := rfl

theorem boundAcc_within (limit : Nat) (acc : Int) :
    -(limit * 4096 : Int) ≤ boundAcc limit acc ∧ boundAcc limit acc ≤ (limit * 4096 : Int) := by
  unfold boundAcc clampInt
  omega

theorem trimOrdered_bound (limit : Nat) (acc p : Int) :
    TrimOrdered limit (boundAcc limit acc) p (p + integralTerm (boundAcc limit acc)) :=
  ⟨rfl, boundAcc_within limit acc⟩

theorem trimOrdered_integrate (ki limit low prev : Nat) (e : Int) {acc p trim p' : Int}
    (h : TrimOrdered limit acc p trim) :
    TrimOrdered limit (integrate ki limit low prev e acc) p' (p' + integralTerm (integrate ki limit low prev e acc)) := by
  unfold integrate
  split
  · exact ⟨rfl, h.2⟩
  · exact trimOrdered_bound limit _ p'

/-- The trim without its proportional term. -/
theorem trimOrdered_drop {limit : Nat} {acc p trim : Int} (h : TrimOrdered limit acc p trim) :
    TrimOrdered limit acc 0 (integralTerm acc) :=
  ⟨(Int.zero_add _).symm, h.2⟩

theorem trimOrdered_zero (limit : Nat) : TrimOrdered limit 0 0 0 := ⟨rfl, by omega, by omega⟩

theorem schedule_le (low : Nat) (ff trim : Int) (hlow : low ≤ 10000) : schedule low ff trim ≤ 10000 := by
  unfold schedule clampInt
  omega

/-- A word of an image that a span does not cover stands. -/
theorem apply_getD_stands {sp : Span} {image : List Nat} {i : Nat} (hi : i < image.length) (hcover : sp.covers i = false) :
    (sp.apply image).getD i 0 = image.getD i 0 := by
  simp only [Span.covers, Bool.and_eq_false_iff, decide_eq_false_iff_not] at hcover
  unfold Span.apply splice
  rw [List.append_assoc]
  simp only [List.getD_eq_getElem?_getD]
  by_cases hbefore : i < sp.start
  · rw [List.getElem?_append_left (by simp; omega), List.getElem?_take_of_lt hbefore]
  · rw [List.getElem?_append_right (by simp; omega), List.length_take, Nat.min_eq_left (by omega),
      List.getElem?_append_right (by omega), List.getElem?_drop]
    congr 2
    omega

/-! ## Zone loops -/

def LoopOrdered (l : ZoneLoop) : Prop :=
  TrimOrdered l.iLimit l.iAcc l.lastP l.lastTrim ∧ l.heat ≤ 10000 ∧ l.ff ≤ 10000

/-- What a change of the trim alone must keep. -/
def KeepsLoop (f : ZoneLoop → ZoneLoop) : Prop := ∀ l, LoopOrdered l → LoopOrdered (f l)

theorem updateTrim_keeps (t : Int) : KeepsLoop (updateTrim t) :=
  fun _ h => ⟨trimOrdered_integrate _ _ _ _ _ h.1, h.2⟩

theorem dropProportional_keeps : KeepsLoop dropProportional := fun _ h => ⟨trimOrdered_drop h.1, h.2⟩

theorem presetLoop_keeps (f : Trim) (fresh : Bool) (v : Nat) : KeepsLoop (presetLoop f fresh v) :=
  fun _ h => ⟨trimOrdered_bound _ _ _, h.2⟩

theorem clearTrim_keeps : KeepsLoop clearTrim := fun l h => ⟨trimOrdered_zero l.iLimit, h.2⟩

theorem id_keeps : KeepsLoop id := fun _ h => h

theorem formLoop_keeps (s : State) (h : Fin 2) (z : Fin 4) : KeepsLoop (formLoop s h z) :=
  fun _ hl => ⟨hl.1, hl.2.1, Nat.min_le_left _ _⟩

theorem scheduleLoop_keeps (s : State) (h : Fin 2) (z : Fin 4) : KeepsLoop (scheduleLoop s h z) :=
  fun _ hl => ⟨hl.1, schedule_le 0 _ _ (by decide), hl.2.2⟩

theorem retuneLoop_ordered {l : ZoneLoop} (h : LoopOrdered l) (sp : Span) :
    LoopOrdered (retuneLoop l (sp.apply [l.kp, l.ki, l.iLimit]) (sp.covers 2)) := by
  unfold retuneLoop
  cases hcover : sp.covers 2 with
  | true => exact ⟨trimOrdered_bound _ _ _, h.2⟩
  | false =>
    have hlimit : (sp.apply [l.kp, l.ki, l.iLimit]).getD 2 0 = l.iLimit := apply_getD_stands (by simp) hcover
    refine ⟨?_, h.2⟩
    simp only [hlimit]
    exact h.1

def LoopsOrdered (s : State) : Prop := ∀ i, LoopOrdered (s.loops.get i)

theorem loopsOrdered_of_same (s t : State) (hsame : Block.loops.Same s t) (h : LoopsOrdered s) : LoopsOrdered t := by
  have hloops : t.loops = s.loops := hsame
  intro i
  rw [hloops]
  exact h i

theorem loopsOrdered_set {s t : State} (h : LoopsOrdered s) (i : Fin 8) {l : ZoneLoop}
    (ht : t.loops = s.loops.set i l) (hl : LoopOrdered l) : LoopsOrdered t := by
  intro k
  rw [ht, tab_get_set]
  split
  · exact hl
  · exact h k

theorem computeFrom_ordered {s : State} (hs : LoopsOrdered s) (view : State) (h : Fin 2) (z : Fin 4)
    {f : ZoneLoop → ZoneLoop} (hf : KeepsLoop f) : LoopsOrdered (computeFrom view h z f s) := by
  unfold computeFrom
  split
  · exact hs
  · exact loopsOrdered_set hs (loopIx h z) rfl
      (scheduleLoop_keeps view h z _ (hf _ (formLoop_keeps view h z _ (hs _))))

theorem writeLoop_loops {s : State} (hs : LoopsOrdered s) (i : Fin 12) (sp : Span) :
    LoopsOrdered (writeLoop i sp s).state := by
  unfold writeLoop
  split
  · exact hs
  · split
    · exact loopsOrdered_set hs _ rfl (retuneLoop_ordered (hs _) sp)
    · exact hs

theorem resetLoop_ordered (kp ki iLimit : Nat) :
    LoopOrdered { ZoneLoop.reset with kp := kp, ki := ki, iLimit := iLimit } :=
  ⟨trimOrdered_zero iLimit, Nat.zero_le _, Nat.zero_le _⟩

theorem reset_loopsOrdered : LoopsOrdered State.reset := fun i => by
  have hloop : State.reset.loops.get i = ZoneLoop.reset := tab_get_replicate _ _
  rw [hloop]
  exact resetLoop_ordered 0 0 0

theorem step_keeps_loops (s t : State) (hs : LoopsOrdered s) (h : step s = .next t) : LoopsOrdered t := by
  have hsame := loopsOrdered_of_same
  refine step_keeps_block .loops hsame reset_loopsOrdered (fun c s t hb hc hs h => ?_) s t hs h
  cases c with
  | powerOnReset straps => exact absurd rfl (hc straps)
  | write rq =>
    exact request_keeps .loops hsame h hs fun s hs => writeAnywhere_keeps hs
      (fun i sp => (writeSubscription_sameBut i sp s).keeps .loops hsame (by decide) hs)
      (fun i sp => (writeBinding_sameBut i sp s).keeps .loops hsame (by decide) hs)
      (fun i sp => (writeStations_sameBut i sp s).keeps .loops hsame (by decide) hs)
      (fun i sp => (writeCoverage_sameBut i sp s).keeps .loops hsame (by decide) hs)
      (fun i sp => (writeProfile_sameBut i sp s).keeps .loops hsame (by decide) hs)
      (writeLoop_loops hs)
      (fun i sp => (writeWebParam_sameBut i sp s).keeps .loops hsame (by decide) hs)
      (fun i sp => (writeHousingParam_sameBut i sp s).keeps .loops hsame (by decide) hs)
      (fun i sp => (writeProtection_sameBut i sp s).keeps .loops hsame (by decide) hs)
      (fun i args => (writeRampMemory_sameBut i args s).keeps .loops hsame (by decide) hs)
      (fun i sp => (writeRampDescriptor_sameBut i sp s).keeps .loops hsame (by decide) hs) _
  | writeLoop rq => exact request_keeps .loops hsame h hs fun s hs => writeObject_keeps hs (writeLoop_loops hs) _
  | restart rq =>
    refine request_keeps .loops hsame h hs fun s hs => ?_
    unfold restartAnswer
    split
    · intro i
      have hloop : (restarted s).loops.get i = (s.loops.get i).restarted := tab_get_ofFn _ _
      rw [done_state, hloop]
      exact resetLoop_ordered _ _ _
    · exact hs
  | fullUpdate k z =>
    have h' : execFullUpdate k z s = .next t := h
    unfold execFullUpdate at h'
    refine event_keeps h' hs ?_
    split
    · exact computeFrom_ordered hs s k z (updateTrim_keeps _)
    · exact hs
  | feedforwardRefresh k z =>
    refine event_keeps h hs (computeFrom_ordered hs s k z ?_)
    split
    · exact id_keeps
    · exact dropProportional_keeps
  | zairStale k z => exact event_keeps h hs (computeFrom_ordered hs s k z dropProportional_keeps)
  | zoneRampSignal k told => exact event_keeps h hs (computeFrom_ordered hs _ k told.zone id_keeps)
  | operatorReturn k z value => exact event_keeps h hs (computeFrom_ordered hs s k z (presetLoop_keeps _ _ _))
  | protectiveReturn k z left => exact event_keeps h hs (computeFrom_ordered hs s k z clearTrim_keeps)
  | _ => simp [writes] at hb

/-! ## Circuit B loops -/

def ChillOrdered (f : Finishing) : Prop := TrimOrdered f.iLimit f.iAcc f.lastP f.lastTrim

/-- A part of an event that leaves the circuit B loop alone. -/
def SameLoop (f g : Finishing) : Prop :=
  g.iLimit = f.iLimit ∧ g.iAcc = f.iAcc ∧ g.lastP = f.lastP ∧ g.lastTrim = f.lastTrim

theorem SameLoop.ordered {f g : Finishing} (h : SameLoop f g) (hf : ChillOrdered f) : ChillOrdered g := by
  obtain ⟨hlimit, hacc, hp, htrim⟩ := h
  unfold ChillOrdered
  rw [hlimit, hacc, hp, htrim]
  exact hf

theorem updateDampers_sameLoop (s : State) (w : Fin 4) (f : Finishing) : SameLoop f (updateDampers s w f) := by
  unfold updateDampers
  simp only
  split
  · exact ⟨rfl, rfl, rfl, rfl⟩
  · split <;> exact ⟨rfl, rfl, rfl, rfl⟩

theorem judgeDry_sameLoop (s : State) (w : Fin 4) (f : Finishing) : SameLoop f (judgeDry s w f).1 := by
  unfold judgeDry
  simp only
  split <;> exact ⟨rfl, rfl, rfl, rfl⟩

theorem judgeChillExit_sameLoop (s : State) (w : Fin 4) (f : Finishing) : SameLoop f (judgeChillExit s w f).1 := by
  unfold judgeChillExit
  simp only
  split <;> exact ⟨rfl, rfl, rfl, rfl⟩

theorem takeCwret_sameLoop (s : State) (w : Fin 4) (f : Finishing) : SameLoop f (takeCwret w s f).1 := by
  unfold takeCwret
  simp only
  split <;> exact ⟨rfl, rfl, rfl, rfl⟩

theorem dropChill_ordered {f : Finishing} (h : ChillOrdered f) : ChillOrdered (dropChillProportional f) :=
  trimOrdered_drop h

theorem scheduleChill_ordered (s : State) (w : Fin 4) {f : Finishing} (h : ChillOrdered f) :
    ChillOrdered (scheduleChill s w f) := by
  unfold scheduleChill
  simp only
  split
  · exact h
  · split
    · exact trimOrdered_zero f.iLimit
    · exact h

theorem fullChill_ordered (s : State) (w : Fin 4) {f : Finishing} (h : ChillOrdered f) :
    ChillOrdered (fullChill s w f) := by
  refine scheduleChill_ordered s w ?_
  have hformed : ChillOrdered (formChill s w f) := h
  unfold fullChillTrim
  simp only
  split
  · split
    · exact trimOrdered_integrate _ _ _ _ _ hformed
    · exact dropChill_ordered hformed
  · exact hformed

theorem refreshChill_ordered (s : State) (w : Fin 4) {f : Finishing} (h : ChillOrdered f) :
    ChillOrdered (refreshChill s w f) := by
  refine scheduleChill_ordered s w ?_
  have hformed : ChillOrdered (formChill s w f) := h
  split
  · exact dropChill_ordered hformed
  · exact hformed

theorem alignDampers_ordered (s : State) (w : Fin 4) {f : Finishing} (h : ChillOrdered f) :
    ChillOrdered (alignDampers s w f) := h

theorem takeDexit_ordered (s : State) (w : Fin 4) {f : Finishing} (h : ChillOrdered f) :
    ChillOrdered (takeDexit w s f).1 := by
  refine fullChill_ordered s w ((judgeDry_sameLoop s w _).ordered ?_)
  split
  · exact (updateDampers_sameLoop s w _).ordered h
  · exact h

theorem takeCexit_ordered (s : State) (w : Fin 4) {f : Finishing} (h : ChillOrdered f) :
    ChillOrdered (takeCexit w s f).1 :=
  fullChill_ordered s w ((judgeChillExit_sameLoop s w f).ordered h)

theorem retuneChill_ordered {f : Finishing} (h : ChillOrdered f) (sp : Span) :
    ChillOrdered (retuneChill f (sp.apply [f.kp, f.ki, f.iLimit]) (sp.covers 2)) := by
  unfold retuneChill
  cases hcover : sp.covers 2 with
  | true => exact trimOrdered_bound _ _ _
  | false =>
    have hlimit : (sp.apply [f.kp, f.ki, f.iLimit]).getD 2 0 = f.iLimit := apply_getD_stands (by simp) hcover
    unfold ChillOrdered
    simp only [hlimit]
    exact h

def ChillsOrdered (s : State) : Prop := ∀ w, ChillOrdered (s.finishing.get w)

theorem chillsOrdered_of_same (s t : State) (hsame : Block.finishing.Same s t) (h : ChillsOrdered s) :
    ChillsOrdered t := by
  have hfinishing : t.finishing = s.finishing := hsame
  intro w
  rw [hfinishing]
  exact h w

theorem chillsOrdered_set {s t : State} (h : ChillsOrdered s) (w : Fin 4) {f : Finishing}
    (ht : t.finishing = s.finishing.set w f) (hf : ChillOrdered f) : ChillsOrdered t := by
  intro v
  rw [ht, tab_get_set]
  split
  · exact hf
  · exact h v

theorem finishingEvent_ordered {s : State} (hs : ChillsOrdered s) (w : Fin 4)
    {f : State → Finishing → Finishing × List Instr} (hf : ∀ x, ChillOrdered x → ChillOrdered (f s x).1) :
    ChillsOrdered (finishingEvent w f s) := by
  unfold finishingEvent
  split
  · exact hs
  · exact chillsOrdered_set hs w rfl (hf _ (hs w))

theorem writeLoop_chills {s : State} (hs : ChillsOrdered s) (i : Fin 12) (sp : Span) :
    ChillsOrdered (writeLoop i sp s).state := by
  unfold writeLoop
  split
  · exact hs
  · split
    · exact hs
    · exact chillsOrdered_set hs _ rfl (retuneChill_ordered (hs _) sp)

theorem reset_chillsOrdered : ChillsOrdered State.reset := fun w => by
  have hfinishing : State.reset.finishing.get w = Finishing.reset := tab_get_replicate _ _
  rw [hfinishing]
  exact trimOrdered_zero 0

theorem step_keeps_chills (s t : State) (hs : ChillsOrdered s) (h : step s = .next t) : ChillsOrdered t := by
  have hsame := chillsOrdered_of_same
  refine step_keeps_block .finishing hsame reset_chillsOrdered (fun c s t hb hc hs h => ?_) s t hs h
  cases c with
  | powerOnReset straps => exact absurd rfl (hc straps)
  | write rq =>
    exact request_keeps .finishing hsame h hs fun s hs => writeAnywhere_keeps hs
      (fun i sp => (writeSubscription_sameBut i sp s).keeps .finishing hsame (by decide) hs)
      (fun i sp => (writeBinding_sameBut i sp s).keeps .finishing hsame (by decide) hs)
      (fun i sp => (writeStations_sameBut i sp s).keeps .finishing hsame (by decide) hs)
      (fun i sp => (writeCoverage_sameBut i sp s).keeps .finishing hsame (by decide) hs)
      (fun i sp => (writeProfile_sameBut i sp s).keeps .finishing hsame (by decide) hs)
      (writeLoop_chills hs)
      (fun i sp => (writeWebParam_sameBut i sp s).keeps .finishing hsame (by decide) hs)
      (fun i sp => (writeHousingParam_sameBut i sp s).keeps .finishing hsame (by decide) hs)
      (fun i sp => (writeProtection_sameBut i sp s).keeps .finishing hsame (by decide) hs)
      (fun i args => (writeRampMemory_sameBut i args s).keeps .finishing hsame (by decide) hs)
      (fun i sp => (writeRampDescriptor_sameBut i sp s).keeps .finishing hsame (by decide) hs) _
  | writeLoop rq => exact request_keeps .finishing hsame h hs fun s hs => writeObject_keeps hs (writeLoop_chills hs) _
  | restart rq =>
    refine request_keeps .finishing hsame h hs fun s hs => ?_
    unfold restartAnswer
    split
    · intro w
      have hfinishing : (restarted s).finishing.get w = (s.finishing.get w).restarted := tab_get_ofFn _ _
      rw [done_state, hfinishing]
      exact trimOrdered_zero _
    · exact hs
  | dexitArrival w => exact event_keeps h hs (finishingEvent_ordered hs w fun x hx => takeDexit_ordered s w hx)
  | cexitArrival w => exact event_keeps h hs (finishingEvent_ordered hs w fun x hx => takeCexit_ordered s w hx)
  | cwretArrival w =>
    exact event_keeps h hs (finishingEvent_ordered hs w fun x hx => (takeCwret_sameLoop s w x).ordered hx)
  | finishingEncArrival w =>
    exact event_keeps h hs (finishingEvent_ordered hs w fun x hx => refreshChill_ordered s w (f := alignDampers s w x) hx)
  | dexitStale w =>
    exact event_keeps h hs (finishingEvent_ordered hs w fun x hx => refreshChill_ordered s w (f := alignDampers s w x) hx)
  | cexitStale w =>
    exact event_keeps h hs (finishingEvent_ordered hs w fun x hx =>
      scheduleChill_ordered s w (f := formChill s w (dropChillProportional x))
        (show ChillOrdered (dropChillProportional x) from dropChill_ordered hx))
  | dampBaseRampSignal told =>
    exact event_keeps h hs (finishingEvent_ordered hs told.web fun x hx => alignDampers_ordered _ _ hx)
  | chillTargetRampSignal told =>
    exact event_keeps h hs (finishingEvent_ordered hs told.web fun x hx => refreshChill_ordered _ _ hx)
  | _ => simp [writes] at hb

/-! ## Monitors -/

def MonitorOrdered (m : Monitor) : Prop := m.exhaust.exh ≤ 10000 ∧ (m.latch = true ↔ m.causes ≠ 0)

theorem causeBit_ne_zero (c : TripCause) : causeBit c ≠ 0 := by
  cases c with
  | zone z => revert z; decide
  | _ => decide

theorem or_causeBit_ne_zero (m : BitVec 7) (c : TripCause) : m ||| causeBit c ≠ 0 := fun h =>
  causeBit_ne_zero c (BitVec.or_eq_zero_iff.mp h).2

theorem exhaustStep_ordered (s : State) (h : Fin 2) {m : Monitor} (hm : MonitorOrdered m) :
    MonitorOrdered (exhaustStep s h m).1 :=
  ⟨Nat.min_le_left _ _, hm.2⟩

theorem limitStep_ordered (h : Fin 2) (v : Nat) {m : Monitor} (hm : MonitorOrdered m) :
    MonitorOrdered (limitStep h v m).1 := by
  unfold limitStep
  split
  · exact hm
  · split <;> exact hm

theorem tripStep_ordered (h : Fin 2) (c : TripCause) (reading : Option Int) {m : Monitor} (hm : MonitorOrdered m) :
    MonitorOrdered (tripStep h c reading m).1 := by
  refine ⟨hm.1, iff_of_true rfl ?_⟩
  unfold tripStep
  simp only
  split
  · exact or_causeBit_ne_zero _ _
  · exact causeBit_ne_zero c

theorem stepIf_ordered {b : Bool} {f : Monitor → Monitor × List Instr} {r : Monitor × List Instr}
    (hr : MonitorOrdered r.1) (hf : ∀ m, MonitorOrdered m → MonitorOrdered (f m).1) : MonitorOrdered (stepIf b f r).1 := by
  unfold stepIf
  split
  · exact hf _ hr
  · exact hr

theorem takeLel_ordered (h : Fin 2) (s : State) {m : Monitor} (hm : MonitorOrdered m) :
    MonitorOrdered (takeLel h s m).1 := by
  have hexhaust := exhaustStep_ordered s h hm
  unfold takeLel
  simp only
  split
  · exact stepIf_ordered (stepIf_ordered hexhaust fun _ => limitStep_ordered h _) fun _ => tripStep_ordered h _ _
  · exact hexhaust

theorem takeTemperature_ordered (h : Fin 2) (c : TripCause) (trip : Nat) (t : Option Int) {m : Monitor}
    (hm : MonitorOrdered m) : MonitorOrdered (takeTemperature h c trip t m).1 := by
  unfold takeTemperature
  split
  · exact stepIf_ordered hm fun _ => tripStep_ordered h _ _
  · exact hm

def MonitorsOrdered (s : State) : Prop := ∀ h, MonitorOrdered (s.monitors.get h)

theorem monitorsOrdered_of_same (s t : State) (hsame : Block.monitors.Same s t) (h : MonitorsOrdered s) :
    MonitorsOrdered t := by
  have hmonitors : t.monitors = s.monitors := hsame
  intro k
  rw [hmonitors]
  exact h k

theorem putMonitor_ordered {s : State} (hs : MonitorsOrdered s) (h : Fin 2) {m : Monitor} (cs : List Instr)
    (hm : MonitorOrdered m) : MonitorsOrdered (s.putMonitor h m cs) := by
  intro k
  rw [putMonitor_monitors, tab_get_set]
  split
  · exact hm
  · exact hs k

theorem monitorEvent_ordered {s : State} (hs : MonitorsOrdered s) (h : Fin 2)
    {f : State → Monitor → Monitor × List Instr} (hf : ∀ m, MonitorOrdered m → MonitorOrdered (f s m).1) :
    MonitorsOrdered (monitorEvent h f s) := by
  unfold monitorEvent
  split
  · exact hs
  · exact putMonitor_ordered hs h _ (hf _ (hs h))

theorem writeHousingParam_ordered {s : State} (hs : MonitorsOrdered s) (h : Fin 2) (sp : Span) :
    MonitorsOrdered (writeHousingParam h sp s).state := by
  unfold writeHousingParam
  simp only
  split_ifs <;> first | exact hs | exact putMonitor_ordered hs h [] (m := { s.monitors.get h with params := _ }) (hs h)

theorem clearTripHousing_ordered {s : State} (hs : MonitorsOrdered s) (h : Fin 2) (args : List Byte) :
    MonitorsOrdered (clearTripHousing h args s).state := by
  unfold clearTripHousing
  simp only
  split
  · exact hs
  · exact putMonitor_ordered hs h _ ⟨(hs h).1, by simp⟩

theorem resetMonitor_ordered (p : HousingParams) : MonitorOrdered { Monitor.reset with params := p } :=
  ⟨Nat.zero_le _, by simp [Monitor.reset]⟩

theorem reset_monitorsOrdered : MonitorsOrdered State.reset := fun k => by
  have hmonitor : State.reset.monitors.get k = Monitor.reset := tab_get_replicate _ _
  rw [hmonitor]
  exact resetMonitor_ordered HousingParams.reset

theorem step_keeps_monitors (s t : State) (hs : MonitorsOrdered s) (h : step s = .next t) : MonitorsOrdered t := by
  have hsame := monitorsOrdered_of_same
  refine step_keeps_block .monitors hsame reset_monitorsOrdered (fun c s t hb hc hs h => ?_) s t hs h
  cases c with
  | powerOnReset straps => exact absurd rfl (hc straps)
  | write rq =>
    exact request_keeps .monitors hsame h hs fun s hs => writeAnywhere_keeps hs
      (fun i sp => (writeSubscription_sameBut i sp s).keeps .monitors hsame (by decide) hs)
      (fun i sp => (writeBinding_sameBut i sp s).keeps .monitors hsame (by decide) hs)
      (fun i sp => (writeStations_sameBut i sp s).keeps .monitors hsame (by decide) hs)
      (fun i sp => (writeCoverage_sameBut i sp s).keeps .monitors hsame (by decide) hs)
      (fun i sp => (writeProfile_sameBut i sp s).keeps .monitors hsame (by decide) hs)
      (fun i sp => (writeLoop_sameBut i sp s).keeps .monitors hsame (by decide) hs)
      (fun i sp => (writeWebParam_sameBut i sp s).keeps .monitors hsame (by decide) hs)
      (writeHousingParam_ordered hs)
      (fun i sp => (writeProtection_sameBut i sp s).keeps .monitors hsame (by decide) hs)
      (fun i args => (writeRampMemory_sameBut i args s).keeps .monitors hsame (by decide) hs)
      (fun i sp => (writeRampDescriptor_sameBut i sp s).keeps .monitors hsame (by decide) hs) _
  | writeHousingParam rq =>
    exact request_keeps .monitors hsame h hs fun s hs => writeObject_keeps hs (writeHousingParam_ordered hs) _
  | clearTrip rq =>
    exact request_keeps .monitors hsame h hs fun s hs => indexed_keeps hs (clearTripHousing_ordered hs) _
  | restart rq =>
    refine request_keeps .monitors hsame h hs fun s hs => ?_
    unfold restartAnswer
    split
    · intro k
      have hmonitor : (restarted s).monitors.get k = (s.monitors.get k).restarted := tab_get_ofFn _ _
      rw [done_state, hmonitor]
      exact resetMonitor_ordered _
    · exact hs
  | lelArrival k => exact event_keeps h hs (monitorEvent_ordered hs k fun _ => takeLel_ordered k s)
  | monitorEncArrival k =>
    exact event_keeps h hs (monitorEvent_ordered hs k fun m hm =>
      stepIf_ordered (exhaustStep_ordered s k hm) fun _ => tripStep_ordered k _ _)
  | zairTripCheck k z =>
    exact event_keeps h hs (monitorEvent_ordered hs k fun _ => takeTemperature_ordered k _ _ _)
  | exhtArrival k => exact event_keeps h hs (monitorEvent_ordered hs k fun _ => takeTemperature_ordered k _ _ _)
  | lelStale k => exact event_keeps h hs (monitorEvent_ordered hs k fun _ => tripStep_ordered k _ _)
  | purgeClaimSignal k =>
    have h' : execPurgeClaimSignal k s = .next t := h
    unfold execPurgeClaimSignal at h'
    exact event_keeps h' hs (putMonitor_ordered hs k [] (m := { s.monitors.get k with purge := _ }) (hs k))
  | purgeTimerExpiry k =>
    have h' : execPurgeTimerExpiry k s = .next t := h
    unfold execPurgeTimerExpiry at h'
    refine event_keeps h' hs ?_
    simp only
    split
    · exact putMonitor_ordered hs k _ (m := { s.monitors.get k with purge := none }) (hs k)
    · exact hs
  | _ => simp [writes] at hb

/-! ## Profile banks -/

/-- A bank is IN_USE exactly while an indicator refers to it. -/
def BanksInUse (p : ProfileHousing) : Prop := ∀ b, (p.bank b).state = .inUse ↔ some b ∈ p.indicators

theorem refersTo_iff (p : ProfileHousing) (b : Bank) : p.refersTo b = true ↔ some b ∈ p.indicators := by
  simp [ProfileHousing.refersTo]

theorem settleBank_inUse (p : ProfileHousing) (b : Bank) : (settleBank p b).state = .inUse ↔ some b ∈ p.indicators := by
  rw [← refersTo_iff]
  unfold settleBank
  split
  · next hrefers => simp [hrefers]
  · next hfree =>
    split
    · simp [hfree]
    · next hstate => simp [hfree, hstate]

/-- Settling gives every bank its state. -/
theorem settled_banks (p : ProfileHousing) : BanksInUse p.settled := by
  intro b
  have hbank : p.settled.bank b = settleBank p b := by cases b <;> rfl
  rw [hbank]
  exact settleBank_inUse p b

theorem freeOutgoing_banks (h : Fin 2) (inc : Bank) (p : ProfileHousing) : BanksInUse (freeOutgoing h inc p).1 := by
  unfold freeOutgoing
  split
  · exact settled_banks p
  · exact settled_banks _

/-- A bank no indicator refers to may be replaced by another that is not IN_USE. -/
theorem setBank_banks {p : ProfileHousing} (hp : BanksInUse p) {b : Bank} {x : ProfileBank}
    (hold : (p.bank b).state ≠ .inUse) (hx : x.state ≠ .inUse) : BanksInUse (p.setBank b x) := by
  intro c
  have hindicators : (p.setBank b x).indicators = p.indicators := by cases b <;> rfl
  rw [hindicators, ← hp c]
  by_cases hc : c = b
  · subst hc
    have hbank : (p.setBank c x).bank c = x := by cases c <;> rfl
    rw [hbank]
    exact iff_of_false hx hold
  · have hbank : (p.setBank b x).bank c = p.bank c := by
      cases b <;> cases c <;> first | rfl | exact absurd rfl hc
    rw [hbank]

theorem lightHousing_banks {p p' : ProfileHousing} (h : lightHousing p = some p') : BanksInUse p' := by
  unfold lightHousing at h
  simp only at h
  split_ifs at h
  all_goals
    obtain rfl := Option.some.inj h
    exact settled_banks _

def ProfilesOrdered (s : State) : Prop := ∀ h, BanksInUse (s.profiles.get h)

theorem profilesOrdered_of_same (s t : State) (hsame : Block.profiles.Same s t) (h : ProfilesOrdered s) :
    ProfilesOrdered t := by
  have hprofiles : t.profiles = s.profiles := hsame
  intro k
  rw [hprofiles]
  exact h k

theorem putProfiles_ordered {s : State} (hs : ProfilesOrdered s) (h : Fin 2) {p : ProfileHousing} (cs : List Instr)
    (hp : BanksInUse p) : ProfilesOrdered (s.putProfiles h p cs) := by
  intro k
  rw [putProfiles_profiles, tab_get_set]
  split
  · exact hp
  · exact hs k

theorem writeProfile_ordered {s : State} (hs : ProfilesOrdered s) (i : Fin 4) (sp : Span) :
    ProfilesOrdered (writeProfile i sp s).state := by
  unfold writeProfile
  simp only
  split
  · exact hs
  · next hfree =>
    split_ifs <;> first | exact hs | exact putProfiles_ordered hs _ [] (setBank_banks (hs _) hfree (fun e => by cases e))

theorem validateProfile_ordered {s : State} (hs : ProfilesOrdered s) (i : Fin 4) (args : List Byte) :
    ProfilesOrdered (validateProfile i args s).state := by
  unfold validateProfile
  simp only
  split
  · exact hs
  · next hinvalid =>
    have hfree : ((s.profiles.get (profileHousingOf i)).bank (profileBankOf i)).state ≠ .inUse := by
      rw [not_not.mp hinvalid]
      decide
    split
    · exact hs
    · exact putProfiles_ordered hs _ [] (setBank_banks (hs _) hfree (fun e => by cases e))

theorem enableWeb_ordered {s : State} (hs : ProfilesOrdered s) (w : Fin 4) (args : List Byte) :
    ProfilesOrdered (enableWeb w args s).state := by
  have hstandby : ∀ s, ProfilesOrdered s → ProfilesOrdered (enterStandby w s) := fun _ hs => hs
  unfold enableWeb
  simp only
  split
  · exact hs
  · split
    · split
      · exact hs
      · next hlight => exact hstandby _ (putProfiles_ordered hs _ _ (lightHousing_banks hlight))
    · exact hstandby s hs

theorem reserve_ordered {s : State} (hs : ProfilesOrdered s) (h : Fin 2) (inc : Bank) : ProfilesOrdered (s.reserve h inc) := by
  intro k
  refine (congrArg BanksInUse (tab_get_set s.profiles h k _)).mpr ?_
  split
  · exact fun b => by cases b <;> first | exact hs h .p | exact hs h .q
  · exact hs k

theorem markWeb_profiles {s : State} (hs : ProfilesOrdered s) (w : Fin 4) (k : MarkerKind) :
    ProfilesOrdered (markWeb w k s).state := by
  have haccept : ∀ k job s, ProfilesOrdered s → ProfilesOrdered (acceptMark w k job s).state := fun _ _ _ hs => hs
  unfold markWeb
  split
  · exact hs
  · split
    · exact hs
    · split
      · exact hs
      · split
        · unfold markJobcut
          simp only
          split
          · exact hs
          · split
            · split
              · exact hs
              · split
                · exact hs
                · exact haccept _ _ _ (reserve_ordered hs _ _)
            · exact haccept _ _ _ hs
        · exact haccept _ _ _ hs

theorem reset_profilesOrdered : ProfilesOrdered State.reset := fun k => by
  have hprofiles : State.reset.profiles.get k = ProfileHousing.reset := tab_get_replicate _ _
  rw [hprofiles]
  intro b
  cases b <;> decide

theorem step_keeps_profiles (s t : State) (hs : ProfilesOrdered s) (h : step s = .next t) : ProfilesOrdered t := by
  have hsame := profilesOrdered_of_same
  refine step_keeps_block .profiles hsame reset_profilesOrdered (fun c s t hb hc hs h => ?_) s t hs h
  cases c with
  | powerOnReset straps => exact absurd rfl (hc straps)
  | write rq =>
    exact request_keeps .profiles hsame h hs fun s hs => writeAnywhere_keeps hs
      (fun i sp => (writeSubscription_sameBut i sp s).keeps .profiles hsame (by decide) hs)
      (fun i sp => (writeBinding_sameBut i sp s).keeps .profiles hsame (by decide) hs)
      (fun i sp => (writeStations_sameBut i sp s).keeps .profiles hsame (by decide) hs)
      (fun i sp => (writeCoverage_sameBut i sp s).keeps .profiles hsame (by decide) hs)
      (writeProfile_ordered hs)
      (fun i sp => (writeLoop_sameBut i sp s).keeps .profiles hsame (by decide) hs)
      (fun i sp => (writeWebParam_sameBut i sp s).keeps .profiles hsame (by decide) hs)
      (fun i sp => (writeHousingParam_sameBut i sp s).keeps .profiles hsame (by decide) hs)
      (fun i sp => (writeProtection_sameBut i sp s).keeps .profiles hsame (by decide) hs)
      (fun i args => (writeRampMemory_sameBut i args s).keeps .profiles hsame (by decide) hs)
      (fun i sp => (writeRampDescriptor_sameBut i sp s).keeps .profiles hsame (by decide) hs) _
  | writeProfile rq =>
    exact request_keeps .profiles hsame h hs fun s hs => writeObject_keeps hs (writeProfile_ordered hs) _
  | validateProfile rq =>
    exact request_keeps .profiles hsame h hs fun s hs => indexed_keeps hs (validateProfile_ordered hs) _
  | webEnable rq => exact request_keeps .profiles hsame h hs fun s hs => indexed_keeps hs (enableWeb_ordered hs) _
  | mark rq =>
    refine request_keeps .profiles hsame h hs fun s hs => indexed_keeps hs (fun w args => ?_) _
    split
    · exact hs
    · split
      · exact hs
      · exact markWeb_profiles hs w _
  | restart rq =>
    refine request_keeps .profiles hsame h hs fun s hs => ?_
    unfold restartAnswer
    split
    · intro k
      have hprofiles : (restarted s).profiles.get k = (s.profiles.get k).released := tab_get_ofFn _ _
      rw [done_state, hprofiles]
      exact settled_banks _
    · exact hs
  | housingDarkSignal k =>
    have h' : execHousingDarkSignal k s = .next t := h
    unfold execHousingDarkSignal at h'
    refine event_keeps h' hs ?_
    simp only
    split
    · exact putProfiles_ordered hs k _ (settled_banks _)
    · exact hs
  | zoneSwitchSignal k z incoming seq =>
    have h' : execZoneSwitchSignal k z incoming seq s = .next t := h
    unfold execZoneSwitchSignal at h'
    refine event_keeps h' hs ?_
    simp only
    split
    · exact putProfiles_ordered hs k _ (settled_banks _)
    · exact hs
  | damperSwitchSignal k incoming seq =>
    have h' : execDamperSwitchSignal k incoming seq s = .next t := h
    unfold execDamperSwitchSignal at h'
    refine event_keeps h' hs ?_
    simp only
    split
    · exact putProfiles_ordered hs k _ (freeOutgoing_banks _ _ _)
    · exact hs
  | chillSwitchSignal k incoming seq =>
    have h' : execChillSwitchSignal k incoming seq s = .next t := h
    unfold execChillSwitchSignal at h'
    refine event_keeps h' hs ?_
    simp only
    split
    · exact putProfiles_ordered hs k _ (freeOutgoing_banks _ _ _)
    · exact hs
  | completionSignal k incoming =>
    have h' : execCompletionSignal k incoming s = .next t := h
    unfold execCompletionSignal at h'
    refine event_keeps h' hs ?_
    simp only
    split
    · exact putProfiles_ordered hs k _ (freeOutgoing_banks _ _ _)
    · exact hs
  | _ => simp [writes] at hb

/-! ## The four together -/

theorem controlsOrdered_iff (s : State) :
    ControlsOrdered s ↔ LoopsOrdered s ∧ ChillsOrdered s ∧ MonitorsOrdered s ∧ ProfilesOrdered s := by
  refine and_congr (forall_congr' fun i => ?_) (and_congr (forall_congr' fun w => Iff.rfl) Iff.rfl)
  simp only [LoopOrdered, TrimOrdered, and_assoc]

theorem step_keeps_controls (s t : State) (hs : ControlsOrdered s) (h : step s = .next t) : ControlsOrdered t := by
  rw [controlsOrdered_iff] at hs ⊢
  obtain ⟨hloops, hchills, hmonitors, hprofiles⟩ := hs
  exact ⟨step_keeps_loops s t hloops h, step_keeps_chills s t hchills h, step_keeps_monitors s t hmonitors h,
    step_keeps_profiles s t hprofiles h⟩

end Sys2Proof.ControlInvariant

/-! # The output channels are kept in order (R131, R134 to R142)

The invariant of one channel; the close of an event keeps it, and each event of the Authority Arbiter hands the close a
channel in order. -/

namespace Sys2Proof.OutputInvariant

open Sys2Proof.Machine Sys2Proof.Statements Sys2Proof.Laws Sys2Proof.FrameProofs

/-! ## One channel -/

/-- Lanes that fit a channel of `k` lanes. -/
def Fits (k : Nat) (vs : Lanes) : Prop := vs.length = k ∧ ∀ v ∈ vs, v ≤ 10000

def EntryOrdered (k : Nat) (i : Fin 4) (e : Entry) : Prop :=
  Fits k e.value ∧ (e.releasePending = true ↔ e.holders = 0) ∧ (i = 0 ∨ i = 1 → e.releasePending = false)

def EntriesOrdered (k : Nat) (es : Tab (Option Entry) 4) : Prop := ∀ i e, es.get i = some e → EntryOrdered k i e

/-- What is stored of a channel is in order; target and output follow from it. -/
structure ChannelOrdered (ch : Fin 30) (o : OutputChannel) : Prop where
  schedule : Fits (laneCount ch) o.schedule
  origin : Fits (laneCount ch) o.originValue
  hold : ∀ v, o.returnHold = some v → v ≤ 10000 ∧ laneCount ch = 1
  protection : ∀ k v, o.protection.get k = some v → v ≤ 10000
  entries : EntriesOrdered (laneCount ch) o.entries

theorem ChannelOrdered.scheduleTarget {ch : Fin 30} {o : OutputChannel} (h : ChannelOrdered ch o) :
    Fits (laneCount ch) o.scheduleTarget := by
  unfold OutputChannel.scheduleTarget
  split
  · next v hv =>
    obtain ⟨hle, hone⟩ := h.hold v hv
    exact ⟨hone.symm, by simpa using hle⟩
  · exact h.schedule

theorem ChannelOrdered.target {ch : Fin 30} {o : OutputChannel} (h : ChannelOrdered ch o) :
    Fits (laneCount ch) o.target := by
  unfold OutputChannel.target
  split
  · next i _ =>
    split
    · next e he => exact (h.entries i e he).1
    · exact h.scheduleTarget
  · exact h.scheduleTarget

theorem moveLane_le {d a b : Nat} (ha : a ≤ 10000) (hb : b ≤ 10000) : moveLane d a b ≤ 10000 := by
  unfold moveLane
  split <;> omega

theorem fits_moved {k : Nat} (d : Nat) {as bs : Lanes} (ha : Fits k as) (hb : Fits k bs) :
    Fits k (List.zipWith (moveLane d) as bs) := by
  refine ⟨by rw [List.length_zipWith, ha.1, hb.1, Nat.min_self], fun v hv => ?_⟩
  obtain ⟨i, hi, rfl⟩ := List.getElem_of_mem hv
  rw [List.getElem_zipWith]
  exact moveLane_le (ha.2 _ (List.getElem_mem _)) (hb.2 _ (List.getElem_mem _))

theorem ChannelOrdered.output {ch : Fin 30} {o : OutputChannel} (h : ChannelOrdered ch o) (now : PartTime) :
    Fits (laneCount ch) (o.output now) := by
  unfold OutputChannel.output
  split
  · exact h.target
  · exact fits_moved _ h.origin h.target

theorem outputsOrdered_iff (s : State) : OutputsOrdered s ↔ ∀ ch, ChannelOrdered ch (s.outputs.get ch) :=
  forall_congr' fun _ =>
    ⟨fun ⟨hschedule, horigin, _, _, hhold, hprotection, hentries⟩ => ⟨hschedule, horigin, hhold, hprotection, hentries⟩,
      fun h => ⟨h.schedule, h.origin, h.target, h.output, h.hold, h.protection, h.entries⟩⟩

/-! ## The close of an event (R140 to R142) -/

theorem fits_headD {k : Nat} {vs : Lanes} (h : Fits k vs) : vs.headD 0 ≤ 10000 := by
  cases vs with
  | nil => exact Nat.zero_le _
  | cons v rest => exact h.2 v List.mem_cons_self

theorem heatZone_laneCount {ch : Fin 30} (h : (heatZone ch).isSome) : laneCount ch = 1 := by
  revert ch
  decide

theorem holdAfter_ordered {ch : Fin 30} (now : PartTime) {o o' : OutputChannel} (h : ChannelOrdered ch o)
    (h' : ChannelOrdered ch o') {v : Nat} (hv : holdAfter ch now o o' = some v) : v ≤ 10000 ∧ laneCount ch = 1 := by
  unfold holdAfter at hv
  split at hv
  · cases hv
  · split at hv
    · next hheat =>
      obtain rfl := Option.some.inj hv
      exact ⟨fits_headD (h.output now), heatZone_laneCount hheat.2⟩
    · exact h'.hold v hv

theorem retimed_ordered {ch : Fin 30} {o : OutputChannel} (h : ChannelOrdered ch o) (now : PartTime) (ls : Option Lanes) :
    ChannelOrdered ch (o.retimed now ls) :=
  ⟨h.schedule, h.origin, h.hold, h.protection, h.entries⟩

theorem setOrigin_ordered {ch : Fin 30} (now : PartTime) {o o' : OutputChannel} (h : ChannelOrdered ch o)
    (h' : ChannelOrdered ch o') : ChannelOrdered ch (setOrigin now o o') := by
  refine ⟨h'.schedule, ?_, h'.hold, h'.protection, h'.entries⟩
  unfold setOrigin
  simp only
  split
  · exact h'.target
  · exact h.output now

theorem closeEvent_ordered {ch : Fin 30} (now : PartTime) (ls : Option Lanes) (again : Bool) {o o' : OutputChannel}
    (h : ChannelOrdered ch o) (h' : ChannelOrdered ch o') : ChannelOrdered ch (closeEvent ch now ls again o o') := by
  have hheld : ChannelOrdered ch { o' with returnHold := holdAfter ch now o o' } :=
    ⟨h'.schedule, h'.origin, fun _ hv => holdAfter_ordered now h h' hv, h'.protection, h'.entries⟩
  unfold closeEvent
  simp only
  split
  · exact retimed_ordered (setOrigin_ordered now h hheld) now ls
  · split
    · exact retimed_ordered hheld now ls
    · exact hheld

/-! ## The part's channels -/

theorem outputsOrdered_of_same (s t : State) (hsame : Block.outputs.Same s t) (h : OutputsOrdered s) :
    OutputsOrdered t := by
  have houtputs : t.outputs = s.outputs := hsame
  rw [outputsOrdered_iff] at h ⊢
  rwa [houtputs]

theorem OutputsOrdered.channel {s : State} (h : OutputsOrdered s) (ch : Fin 30) : ChannelOrdered ch (s.outputs.get ch) :=
  (outputsOrdered_iff s).mp h ch

theorem putOutput_ordered {s t : State} (h : OutputsOrdered s) (ch : Fin 30) {o : OutputChannel}
    (ht : t.outputs = s.outputs.set ch o) (ho : ChannelOrdered ch o) : OutputsOrdered t := by
  rw [outputsOrdered_iff] at h ⊢
  intro k
  rw [ht, tab_get_set]
  split
  · next hk => rw [hk]; exact ho
  · exact h k

theorem endEvent_ordered {s : State} (h : OutputsOrdered s) (ch : Fin 30) (again : Bool) {o : OutputChannel}
    (cs : List Instr) (ho : ChannelOrdered ch o) : OutputsOrdered (s.endEvent ch again o cs) :=
  putOutput_ordered h ch rfl (closeEvent_ordered _ _ _ (OutputsOrdered.channel h ch) ho)

/-- The entries of a channel replaced. -/
theorem ChannelOrdered.withEntries {ch : Fin 30} {o : OutputChannel} (h : ChannelOrdered ch o)
    {es : Tab (Option Entry) 4} (hes : EntriesOrdered (laneCount ch) es) (dwell : Option PartTime) :
    ChannelOrdered ch { o with entries := es, dwell := dwell } :=
  ⟨h.schedule, h.origin, h.hold, h.protection, hes⟩

theorem EntriesOrdered.set {k : Nat} {es : Tab (Option Entry) 4} (h : EntriesOrdered k es) (i : Fin 4) {x : Option Entry}
    (hx : ∀ e, x = some e → EntryOrdered k i e) : EntriesOrdered k (es.set i x) := by
  intro j e he
  rw [tab_get_set] at he
  split at he
  · next hj => rw [hj]; exact hx e he
  · exact h j e he

/-! ## Claims and releases -/

theorem fits_replicate {k v : Nat} (h : v ≤ 10000) : Fits k (List.replicate k v) :=
  ⟨List.length_replicate, fun x hx => by rw [List.eq_of_mem_replicate hx]; exact h⟩

theorem fits_fitLanes (k : Nat) (vs : Lanes) : Fits k (fitLanes k vs) := by
  refine ⟨by simp [fitLanes], fun v hv => ?_⟩
  obtain ⟨i, -, rfl⟩ := List.mem_map.mp hv
  exact Nat.min_le_right _ _

theorem entryValue_fits {ch : Fin 30} {o : OutputChannel} (h : ChannelOrdered ch o) (now : PartTime) (party : Party)
    (values : Lanes) : Fits (laneCount ch) (entryValue ch now o party values).2 := by
  have hkept : ∀ i : Fin 3, Fits (laneCount ch) (match o.protection.get i with
      | some p => (ValueSource.park, List.replicate (laneCount ch) p)
      | none => (ValueSource.held, o.output now)).2 := by
    intro i
    split
    · next p hp => exact fits_replicate (h.protection i p hp)
    · exact h.output now
  cases party with
  | operator => exact fits_fitLanes _ _
  | lel => exact hkept 0
  | web w => exact hkept 1
  | cause c => exact hkept 2

theorem partyBit_ne_zero (p : Party) : partyBit p ≠ 0 := by
  cases p with
  | web w => revert w; decide
  | cause c =>
    cases c with
    | zone z => revert z; decide
    | _ => decide
  | _ => decide

theorem claimedEntry_ordered {ch : Fin 30} {o : OutputChannel} (h : ChannelOrdered ch o) (now : PartTime)
    (party : Party) (values : Lanes) :
    EntryOrdered (laneCount ch) (partyIx party) (claimedEntry ch now o party values) := by
  have hvalue := entryValue_fits h now party values
  unfold claimedEntry
  simp only
  split
  · exact ⟨hvalue, iff_of_false (by simp) (partyBit_ne_zero party), fun _ => rfl⟩
  · next e he =>
    refine ⟨?_, iff_of_false (by simp) fun hzero => ?_, fun _ => rfl⟩
    · simp only
      split
      · exact hvalue
      · exact (h.entries _ e he).1
    · exact partyBit_ne_zero party (BitVec.or_eq_zero_iff.mp hzero).2

theorem takeClaim_ordered {s : State} (h : OutputsOrdered s) (ch : Fin 30) (party : Party) (values : Lanes) :
    OutputsOrdered (takeClaim ch party values s) := by
  have hchannel := OutputsOrdered.channel h ch
  refine endEvent_ordered h ch false _ (hchannel.withEntries (hchannel.entries.set _ fun e he => ?_) _)
  obtain rfl := Option.some.inj he
  exact claimedEntry_ordered hchannel _ _ _

theorem isProtective_place {p : Party} (h : isProtective p = true) : ¬ (partyIx p = 0 ∨ partyIx p = 1) := by
  cases p with
  | operator => exact absurd h (by decide)
  | lel => exact absurd h (by decide)
  | web w => simp [partyIx]
  | cause c => simp [partyIx]

theorem releasedEntry_ordered {ch : Fin 30} {party : Party} {s : State} {e x : Entry}
    (he : EntryOrdered (laneCount ch) (partyIx party) e) (hholds : e.holders &&& partyBit party ≠ 0)
    (hx : releasedEntry ch party s e = some x) : EntryOrdered (laneCount ch) (partyIx party) x := by
  obtain ⟨hfits, hpending, hlow⟩ := he
  have hheld : e.releasePending = false := by
    cases hp : e.releasePending with
    | false => rfl
    | true =>
      rw [hpending.mp hp] at hholds
      exact absurd (BitVec.zero_and) hholds
  unfold releasedEntry at hx
  simp only at hx
  split at hx
  · next hleft =>
    obtain rfl := Option.some.inj hx
    exact ⟨hfits, iff_of_false (by simp [hheld]) hleft, hlow⟩
  · split at hx
    · next hdwell =>
      obtain rfl := Option.some.inj hx
      rw [Bool.and_eq_true] at hdwell
      exact ⟨hfits, iff_of_true rfl rfl, fun hplace => absurd hplace (isProtective_place hdwell.1)⟩
    · cases hx

theorem takeRelease_ordered {s : State} (h : OutputsOrdered s) (ch : Fin 30) (party : Party) :
    OutputsOrdered (takeRelease ch party s) := by
  have hchannel := OutputsOrdered.channel h ch
  unfold takeRelease
  simp only
  split
  · exact h
  · next e he =>
    split
    · exact h
    · next hholds =>
      exact endEvent_ordered h ch false _ (hchannel.withEntries
        (hchannel.entries.set _ fun x hx => releasedEntry_ordered (hchannel.entries _ e he) hholds hx) _)

theorem dwellEnded_ordered {k : Nat} {es : Tab (Option Entry) 4} (h : EntriesOrdered k es) (i : Fin 4) {e : Entry}
    (he : dwellEnded (es.get i) = some e) : EntryOrdered k i e :=
  h i e (Option.filter_eq_some_iff.mp he).1

theorem endDwell_ordered {s : State} (h : OutputsOrdered s) (ch : Fin 30) : OutputsOrdered (endDwell ch s) := by
  have hchannel := OutputsOrdered.channel h ch
  refine endEvent_ordered h ch false _ (hchannel.withEntries ?_ _)
  exact (hchannel.entries.set 2 fun _ he => dwellEnded_ordered hchannel.entries 2 he).set 3 fun _ he =>
    dwellEnded_ordered hchannel.entries 3 he

theorem foldl_ordered {f : State → Fin 30 → State} (hf : ∀ s ch, OutputsOrdered s → OutputsOrdered (f s ch))
    (chs : List (Fin 30)) {s : State} (h : OutputsOrdered s) : OutputsOrdered (chs.foldl f s) := by
  induction chs generalizing s with
  | nil => exact h
  | cons ch rest ih => exact ih (hf s ch h)

theorem rejudge_ordered {s : State} (h : OutputsOrdered s) (ch : Fin 30) : OutputsOrdered (rejudge ch s) := by
  have hchannel := OutputsOrdered.channel h ch
  unfold rejudge
  simp only
  split
  · exact h
  · have hjudged : ChannelOrdered ch { s.outputs.get ch with active := judgedActive s ch (s.outputs.get ch).binding } :=
      ⟨hchannel.schedule, hchannel.origin, hchannel.hold, hchannel.protection, hchannel.entries⟩
    exact putOutput_ordered h ch rfl (retimed_ordered hjudged _ _)

/-! ## Requests -/

theorem writeBinding_ordered {s : State} (h : OutputsOrdered s) (ch : Fin 30) (sp : Span) :
    OutputsOrdered (writeBinding ch sp s).state := by
  have hchannel := OutputsOrdered.channel h ch
  unfold writeBinding
  simp only
  split
  · exact h
  · split
    · exact h
    · refine rejudge_ordered (endEvent_ordered h ch _ _ ?_) ch
      exact ⟨hchannel.schedule, hchannel.origin, hchannel.hold, hchannel.protection, hchannel.entries⟩

theorem optionOfWords_pairs (a b c : Option Nat) :
    optionOfWords ([a, b, c].flatMap optionWords) 0 = a ∧ optionOfWords ([a, b, c].flatMap optionWords) 2 = b ∧
      optionOfWords ([a, b, c].flatMap optionWords) 4 = c := by
  cases a <;> cases b <;> cases c <;> simp [optionOfWords, optionWords]

theorem items_three {α : Type} (t : Tab α 3) : t.items = [t.get 0, t.get 1, t.get 2] := by
  apply List.ext_getElem (by rw [t.size]; rfl)
  intro k hk hk'
  rw [t.size] at hk
  interval_cases k <;> rfl

/-- The two words of a level in the image of a protection row give the level back. -/
theorem optionOfWords_protectionWords (p : Tab (Option Nat) 3) (i : Fin 3) :
    optionOfWords (protectionWords p) (2 * i.val) = p.get i := by
  obtain ⟨hlimit, hbreak, htrip⟩ := optionOfWords_pairs (p.get 0) (p.get 1) (p.get 2)
  rw [protectionWords, items_three p]
  fin_cases i
  · exact hlimit
  · exact hbreak
  · exact htrip

theorem protectionWords_length (p : Tab (Option Nat) 3) : (protectionWords p).length = 6 := by
  have hpair : ∀ x : Option Nat, (optionWords x).length = 2 := fun x => by cases x <;> rfl
  simp [protectionWords, items_three p, hpair]

theorem optionOfWords_le {ws : List Nat} {i v : Nat} (h : optionOfWords ws i = some v) : ws.getD (i + 1) 0 = v := by
  unfold optionOfWords at h
  split at h
  · cases h
  · exact Option.some.inj h

/-- A word that a span covers is the carried one. -/
theorem apply_getD_carried {sp : Span} {image : List Nat} {i : Nat} (hcover : sp.covers i = true)
    (hin : sp.start ≤ image.length) : (sp.apply image).getD i 0 = sp.val i := by
  simp only [Span.covers, Bool.and_eq_true, decide_eq_true_eq] at hcover
  have hstart : (image.take sp.start).length = sp.start := List.length_take_of_le hin
  rw [Span.apply, splice, List.append_assoc, List.getD_append_right _ _ _ _ (by omega), hstart,
    List.getD_append _ _ _ _ (by omega), Span.val]

/-- Each level of a written row is a carried park value in range, HOLD, or what stood. -/
theorem written_protection_le {p : Tab (Option Nat) 3} (hp : ∀ k v, p.get k = some v → v ≤ 10000) {sp : Span}
    (hpairs : pairsWhole 3 sp = true) (hok : protectionOk sp = true) (i : Fin 3) {v : Nat}
    (hv : optionOfWords (sp.apply (protectionWords p)) (2 * i.val) = some v) : v ≤ 10000 := by
  have hi : i.val ∈ List.range 3 := List.mem_range.mpr i.isLt
  have hpair := List.all_eq_true.mp hpairs i.val hi
  have hlevel := List.all_eq_true.mp hok i.val hi
  have hlength := protectionWords_length p
  cases htouch : sp.touches (2 * i.val) 2 with
  | true =>
    have hholds : sp.holds (2 * i.val) 2 = true := by simpa [htouch] using hpair
    have hcovers : sp.covers (2 * i.val) = true ∧ sp.covers (2 * i.val + 1) = true ∧ sp.start ≤ 6 := by
      simp only [Span.holds, Span.covers, Bool.and_eq_true, decide_eq_true_eq] at hholds ⊢
      omega
    obtain ⟨hpresence, hvalue, hin⟩ := hcovers
    simp only [hholds, Bool.not_true, Bool.false_or, Bool.or_eq_true, Bool.and_eq_true, decide_eq_true_eq] at hlevel
    unfold optionOfWords at hv
    rw [apply_getD_carried hpresence (hlength ▸ hin), apply_getD_carried hvalue (hlength ▸ hin)] at hv
    split at hv
    · cases hv
    · next hne =>
      obtain rfl := Option.some.inj hv
      exact (hlevel.resolve_left hne).2
  | false =>
    have hcovers : sp.covers (2 * i.val) = false ∧ sp.covers (2 * i.val + 1) = false := by
      simp only [Span.touches, Span.covers, Bool.and_eq_false_iff, decide_eq_false_iff_not] at htouch ⊢
      omega
    refine hp i v ?_
    rw [← optionOfWords_protectionWords, ← hv]
    unfold optionOfWords
    rw [ControlInvariant.apply_getD_stands (by omega) hcovers.1, ControlInvariant.apply_getD_stands (by omega) hcovers.2]

theorem writeProtection_ordered {s : State} (h : OutputsOrdered s) (ch : Fin 30) (sp : Span) :
    OutputsOrdered (writeProtection ch sp s).state := by
  have hchannel := OutputsOrdered.channel h ch
  unfold writeProtection
  simp only
  split
  · exact h
  · next hpairs =>
    split
    · exact h
    · next hok =>
      rw [Bool.not_eq_true, Bool.not_eq_false'] at hpairs hok
      refine putOutput_ordered h ch rfl ⟨hchannel.schedule, hchannel.origin, hchannel.hold, fun k v hv => ?_,
        hchannel.entries⟩
      rw [tab_get_ofFn] at hv
      exact written_protection_le hchannel.protection hpairs hok k hv

theorem overrideChannel_ordered {s : State} (h : OutputsOrdered s) (ch : Fin 30) (args : List Byte) :
    OutputsOrdered (overrideChannel ch args s).state := by
  unfold overrideChannel
  simp only
  split
  · exact h
  · split
    · exact h
    · exact takeClaim_ordered h ch _ _

theorem protectionDefault_le {ch : Fin 30} {v : Nat} (h : protectionDefault ch = some v) : v ≤ 10000 := by
  unfold protectionDefault at h
  split at h
  · obtain rfl := Option.some.inj h
    decide
  · obtain rfl := Option.some.inj h
    decide
  · cases h

/-- A channel at its reset values, whatever its binding and its protection row. -/
theorem resetChannel_ordered (ch : Fin 30) (b : Binding) {p : Tab (Option Nat) 3}
    (hp : ∀ k v, p.get k = some v → v ≤ 10000) :
    ChannelOrdered ch { OutputChannel.reset ch with binding := b, protection := p } := by
  refine ⟨fits_replicate (Nat.zero_le _), fits_replicate (Nat.zero_le _), (fun _ hv => nomatch hv), hp, fun i e he => ?_⟩
  have hnone : (OutputChannel.reset ch).entries.get i = none := tab_get_replicate _ _
  exact absurd (hnone.symm.trans he) (by simp)

theorem reset_outputsOrdered : OutputsOrdered State.reset := by
  rw [outputsOrdered_iff]
  intro ch
  have hchannel : State.reset.outputs.get ch = OutputChannel.reset ch := tab_get_ofFn _ _
  rw [hchannel]
  exact resetChannel_ordered ch Binding.reset fun k v hv => protectionDefault_le (by rwa [tab_get_replicate] at hv)

theorem restarted_outputsOrdered {s : State} (h : OutputsOrdered s) : OutputsOrdered (restarted s) := by
  rw [outputsOrdered_iff]
  intro ch
  have hchannel : (restarted s).outputs.get ch = (s.outputs.get ch).restarted ch := tab_get_ofFn _ _
  rw [hchannel]
  exact resetChannel_ordered ch _ (OutputsOrdered.channel h ch).protection

theorem offerSlot_ordered (slot : Slot) {s : State} (h : OutputsOrdered s) : OutputsOrdered (offerSlot slot s) := by
  unfold offerSlot
  split
  · next l ch _ => exact putOutput_ordered h ch rfl (retimed_ordered (OutputsOrdered.channel h ch) _ _)
  · exact h
  · exact h

theorem step_keeps_outputs (s t : State) (hs : OutputsOrdered s) (h : step s = .next t) : OutputsOrdered t := by
  have hsame := outputsOrdered_of_same
  refine step_keeps_block .outputs hsame reset_outputsOrdered (fun c s t hb hc hs h => ?_) s t hs h
  cases c with
  | powerOnReset straps => exact absurd rfl (hc straps)
  | write rq =>
    exact request_keeps .outputs hsame h hs fun s hs => writeAnywhere_keeps hs
      (fun i sp => (writeSubscription_sameBut i sp s).keeps .outputs hsame (by decide) hs)
      (writeBinding_ordered hs)
      (fun i sp => (writeStations_sameBut i sp s).keeps .outputs hsame (by decide) hs)
      (fun i sp => (writeCoverage_sameBut i sp s).keeps .outputs hsame (by decide) hs)
      (fun i sp => (writeProfile_sameBut i sp s).keeps .outputs hsame (by decide) hs)
      (fun i sp => (writeLoop_sameBut i sp s).keeps .outputs hsame (by decide) hs)
      (fun i sp => (writeWebParam_sameBut i sp s).keeps .outputs hsame (by decide) hs)
      (fun i sp => (writeHousingParam_sameBut i sp s).keeps .outputs hsame (by decide) hs)
      (writeProtection_ordered hs)
      (fun i args => (writeRampMemory_sameBut i args s).keeps .outputs hsame (by decide) hs)
      (fun i sp => (writeRampDescriptor_sameBut i sp s).keeps .outputs hsame (by decide) hs) _
  | writeBinding rq => exact request_keeps .outputs hsame h hs fun s hs => writeObject_keeps hs (writeBinding_ordered hs) _
  | writeProtection rq =>
    exact request_keeps .outputs hsame h hs fun s hs => writeObject_keeps hs (writeProtection_ordered hs) _
  | overrideValue rq =>
    exact request_keeps .outputs hsame h hs fun s hs => indexed_keeps hs (overrideChannel_ordered hs) _
  | release rq =>
    exact request_keeps .outputs hsame h hs fun s hs => indexed_keeps hs (fun ch _ => takeRelease_ordered hs ch .operator) _
  | vacantSlot slot =>
    obtain rfl := Host.Outcome.next.inj h
    split
    · exact offerSlot_ordered slot hs
    · exact (forwardSlot_sameBut slot s).keeps .outputs hsame (by decide) hs
  | restart rq =>
    refine request_keeps .outputs hsame h hs fun s hs => ?_
    unfold restartAnswer
    split
    · exact restarted_outputsOrdered hs
    · exact hs
  | claim ch party values => exact event_keeps h hs (takeClaim_ordered hs ch party values)
  | holderRelease ch party => exact event_keeps h hs (takeRelease_ordered hs ch party)
  | dwellEnd k =>
    have h' : execDwellEnd k s = .next t := h
    unfold execDwellEnd at h'
    refine event_keeps h' hs ?_
    split
    · exact foldl_ordered (fun _ ch hs => endDwell_ordered hs ch) _ hs
    · exact hs
  | dwellTimerExpiry ch =>
    have hchannel := OutputsOrdered.channel hs ch
    have h' : execDwellTimerExpiry ch s = .next t := h
    unfold execDwellTimerExpiry at h'
    refine event_keeps h' hs ?_
    simp only
    split
    · exact endEvent_ordered hs ch false _ (hchannel.withEntries
        (hchannel.entries.set 2 fun _ he => dwellEnded_ordered hchannel.entries 2 he) none)
    · exact hs
  | scheduleValue ch values =>
    have hchannel := OutputsOrdered.channel hs ch
    have h' : execScheduleValue ch values s = .next t := h
    unfold execScheduleValue at h'
    refine event_keeps h' hs (endEvent_ordered hs ch false _ ?_)
    exact ⟨fits_fitLanes _ _, hchannel.origin, (fun _ hv => nomatch hv), hchannel.protection, hchannel.entries⟩
  | activitySignal w =>
    have h' : execActivitySignal w s = .next t := h
    unfold execActivitySignal at h'
    exact event_keeps h' hs (foldl_ordered (fun _ ch hs => rejudge_ordered hs ch) _ hs)
  | movementTimerExpiry ch =>
    have hchannel := OutputsOrdered.channel hs ch
    have h' : execMovementTimerExpiry ch s = .next t := h
    unfold execMovementTimerExpiry at h'
    refine event_keeps h' hs ?_
    simp only
    split
    · exact putOutput_ordered hs ch rfl
        ⟨hchannel.schedule, hchannel.origin, hchannel.hold, hchannel.protection, hchannel.entries⟩
    · exact hs
  | _ => simp [writes] at hb

/-- Settles O59: the five blocks concerned each keep their own invariant. -/
theorem controlAndOutputInvariantsKept : Obligations.ControlAndOutputInvariantsKept :=
  ⟨ControlInvariant.step_keeps_controls, step_keeps_outputs⟩

/-- Settles O60: the reset state meets the invariants block by block. -/
theorem resetMeetsInvariants : Obligations.ResetMeetsInvariants :=
  ⟨TrackingInvariant.reset_trackingOrdered, (NoticeInvariant.noticesOrdered_iff _).mpr NoticeInvariant.empty_ordered,
    RampInvariant.reset_rampsOrdered,
    (ControlInvariant.controlsOrdered_iff _).mpr ⟨ControlInvariant.reset_loopsOrdered,
      ControlInvariant.reset_chillsOrdered, ControlInvariant.reset_monitorsOrdered,
      ControlInvariant.reset_profilesOrdered⟩,
    reset_outputsOrdered⟩

end Sys2Proof.OutputInvariant

/-! # The machine and the Line Ring Port

A step with and without a command waiting, the expiries that are due, the reset pin, and the slots forwarded, sampled and
granted. -/

namespace Sys2Proof.MachineProofs

open Sys2Proof.Machine Sys2Proof.Statements Sys2Proof.Laws Sys2Proof.WriteProofs

/-- Settles O1: `step` looks at the queue first. -/
theorem stepRunsFrontCommand : Obligations.StepRunsFrontCommand := by
  intro c rest s hpending
  unfold step
  rw [hpending]

/-! ## Expiries -/

theorem timerDue_iff (now : PartTime) (t : Option PartTime) : timerDue now t = true ↔ TimerDue now t := by
  cases t with
  | none => exact ⟨fun h => (nomatch h), fun ⟨_, h, _⟩ => (nomatch h)⟩
  | some t => exact ⟨fun h => ⟨t, rfl, of_decide_eq_true h⟩, fun ⟨_, ht, h⟩ => decide_eq_true (Option.some.inj ht ▸ h)⟩

theorem mem_giveIf (b : Bool) (c d : Instr) : d ∈ giveIf b c ↔ b = true ∧ d = c := by
  cases b <;> simp [giveIf]

theorem ageExpired_iff (s : State) (ch : Fin 32) :
    (s.inputs.get ch).ageExpired s.now = true ↔ ExpiryDue s (.ageTimerExpiry ch) := by
  simp only [InputChannel.ageExpired, ExpiryDue, State.record, elapsed, Bool.and_eq_true]
  exact and_congr_right fun _ => decide_eq_true_iff

theorem paceDue_iff (s : State) (j : Fin 8) :
    paceDue s.now (s.ramp.slots.get j) = true ↔ ExpiryDue s (.paceTimerExpiry j) := by
  have hdue := timerDue_iff s.now (s.ramp.slots.get j).timer
  unfold timerDue at hdue
  simp only [paceDue, ExpiryDue, Bool.and_eq_true, Bool.or_eq_true, decide_eq_true_eq, hdue]

/-- The expiries given are those due. -/
theorem mem_dueExpiries (s : State) (c : Instr) : c ∈ dueExpiries s ↔ ExpiryDue s c := by
  unfold dueExpiries
  simp only [List.mem_append, List.mem_flatMap, List.mem_finRange, true_and, mem_giveIf, timerDue_iff, ageExpired_iff,
    paceDue_iff]
  cases c <;> simp [ExpiryDue]

/-- The commands of a list stand in the order of their ranks, which lie in `lo` up to `hi`. -/
def RankedIn (lo hi : Nat) (cs : List Instr) : Prop :=
  (cs.Pairwise fun c d => expiryRank c < expiryRank d) ∧ ∀ c ∈ cs, lo ≤ expiryRank c ∧ expiryRank c < hi

theorem RankedIn.append {lo mid hi : Nat} {cs ds : List Instr} (hcs : RankedIn lo mid cs) (hds : RankedIn mid hi ds)
    (hle : lo ≤ mid) (hle' : mid ≤ hi) : RankedIn lo hi (cs ++ ds) := by
  obtain ⟨hcs, hcsIn⟩ := hcs
  obtain ⟨hds, hdsIn⟩ := hds
  refine ⟨List.pairwise_append.mpr ⟨hcs, hds, fun c hc d hd => ?_⟩, fun c hc => ?_⟩
  · have hc' := (hcsIn c hc).2
    have hd' := (hdsIn d hd).1
    omega
  · rcases List.mem_append.mp hc with hc | hc
    · have := hcsIn c hc
      omega
    · have := hdsIn c hc
      omega

/-- The expiries of one kind of timer stand in the order of their numbers. -/
theorem rankedIn_flatMap {n lo : Nat} (due : Fin n → Bool) (mk : Fin n → Instr) (hrank : ∀ i, expiryRank (mk i) = lo + i.val)
    {hi : Nat} (hhi : lo + n ≤ hi) : RankedIn lo hi ((List.finRange n).flatMap fun i => giveIf (due i) (mk i)) := by
  refine ⟨List.pairwise_flatMap.mpr ⟨fun i _ => ?_, ?_⟩, fun c hc => ?_⟩
  · cases due i <;> simp [giveIf]
  · refine (List.pairwise_lt_finRange n).imp fun {i j} hij c hc d hd => ?_
    rw [((mem_giveIf _ _ _).mp hc).2, ((mem_giveIf _ _ _).mp hd).2, hrank, hrank]
    have : i.val < j.val := hij
    omega
  · obtain ⟨i, -, hi⟩ := List.mem_flatMap.mp hc
    rw [((mem_giveIf _ _ _).mp hi).2, hrank]
    omega

theorem dueExpiries_ranked (s : State) : RankedIn 0 700 (dueExpiries s) := by
  have hring : RankedIn 0 100 (giveIf (timerDue s.now s.ring.boundary) .ringDown) := by
    unfold giveIf
    split
    · exact ⟨List.pairwise_singleton _ _, by simp [expiryRank]⟩
    · exact ⟨.nil, by simp⟩
  have hages := rankedIn_flatMap (lo := 100) (hi := 200) (fun ch => (s.inputs.get ch).ageExpired s.now)
    Instr.ageTimerExpiry (fun _ => rfl) (by decide)
  have hpurges := rankedIn_flatMap (lo := 200) (hi := 300) (fun h => timerDue s.now (s.monitors.get h).purge)
    Instr.purgeTimerExpiry (fun _ => rfl) (by decide)
  have hmoves := rankedIn_flatMap (lo := 300) (hi := 400) (fun ch => timerDue s.now (s.outputs.get ch).moveTimer)
    Instr.movementTimerExpiry (fun _ => rfl) (by decide)
  have hdwells := rankedIn_flatMap (lo := 400) (hi := 500) (fun ch => timerDue s.now (s.outputs.get ch).dwell)
    Instr.dwellTimerExpiry (fun _ => rfl) (by decide)
  have hrefreshes := rankedIn_flatMap (lo := 500) (hi := 600)
    (fun ch => timerDue s.now (s.emission.records.get ch).refresh) Instr.refreshTimerExpiry (fun _ => rfl) (by decide)
  have hpaces := rankedIn_flatMap (lo := 600) (hi := 700) (fun j => paceDue s.now (s.ramp.slots.get j))
    Instr.paceTimerExpiry (fun _ => rfl) (by decide)
  exact ((((((hring.append hages (by decide) (by decide)).append hpurges (by decide) (by decide)).append hmoves
    (by decide) (by decide)).append hdwells (by decide) (by decide)).append hrefreshes (by decide) (by decide)).append
    hpaces (by decide) (by decide))

/-! ## The idle step -/

theorem step_of_empty {s : State} (hpending : s.pending = []) : step s = idle s := by
  unfold step
  split
  · next heq => simp [hpending] at heq
  · rfl

theorem step_of_own {s s' : State} {c : Instr} (hpending : s.pending = []) (hown : ownCommand s = some (c, s')) :
    step s = exec c s' := by
  rw [step_of_empty hpending, idle, hown]

theorem step_of_none {s : State} (hpending : s.pending = []) (hown : ownCommand s = none) :
    step s = .next { s with now := s.now + 1 } := by
  rw [step_of_empty hpending, idle, hown]
  exact rfl

theorem ownCommand_signal {s : State} {c : Instr} {rest : List Instr} (hreleased : Released s)
    (hsignals : s.signals = c :: rest) : ownCommand s = some (c, { s with signals := rest }) := by
  unfold ownCommand
  rw [hreleased, hsignals]

theorem ownCommand_slot {s : State} {slot : Slot} {rest : List Slot}
    (hquiet : s.ring.resetHeld = true ∨ s.signals = []) (hring : s.ringIn = slot :: rest) :
    ownCommand s = some (slotRow s slot, { s with ringIn := rest }) := by
  unfold ownCommand
  rw [hring]
  rcases hquiet with hheld | hsignals
  · rw [hheld]
  · rw [hsignals]
    cases s.ring.resetHeld <;> rfl

theorem ownCommand_expiry {s : State} (hreleased : Released s) (hsignals : s.signals = []) (hring : s.ringIn = []) :
    ownCommand s = (dueExpiries s).head?.map fun c => (c, s) := by
  unfold ownCommand
  rw [hreleased, hsignals, hring]

theorem ownCommand_held {s : State} (hheld : s.ring.resetHeld = true) (hring : s.ringIn = []) : ownCommand s = none := by
  unfold ownCommand
  rw [hheld, hring]

/-- Settles O2: the own command by case, and the expiries as a ranked list. -/
theorem idleStepOrder : Obligations.IdleStepOrder := by
  intro s hpending
  refine ⟨fun c rest hreleased hsignals => step_of_own hpending (ownCommand_signal hreleased hsignals),
    fun slot rest hquiet hring => step_of_own hpending (ownCommand_slot hquiet hring),
    fun c hreleased hsignals hring hhead => step_of_own hpending ?_, fun hquiet hring => step_of_none hpending ?_,
    mem_dueExpiries s, (dueExpiries_ranked s).1⟩
  · rw [ownCommand_expiry hreleased hsignals hring, hhead]
    rfl
  · cases hheld : s.ring.resetHeld with
    | true => exact ownCommand_held hheld hring
    | false =>
      obtain ⟨hsignals, hdue⟩ := hquiet.resolve_left (by simp [hheld])
      rw [ownCommand_expiry hheld hsignals hring, hdue]
      rfl

/-! ## The reset pin (R179) -/

theorem inService_held {s : State} (hheld : s.ring.resetHeld = true) : s.ring.inService = false := by
  simp [RingPort.inService, hheld]

theorem forwardSlot_out {s : State} (hout : s.ring.inService = false) (slot : Slot) :
    forwardSlot slot s = s.putOut slot := by
  simp [forwardSlot, hout]

/-- Under a held reset pin a command that is no slot and no event of the pin changes nothing. -/
theorem exec_held {c : Instr} {s : State} (hheld : s.ring.resetHeld = true)
    (hslot : ∀ slot, c ∉ [Instr.slotForward slot, .sampleSlot slot, .vacantSlot slot, .resetHeldActive slot])
    (hpin : ∀ straps, c ≠ .powerOnReset straps) : exec c s = .next s := by
  have hrequest := fun code rq owner => request_out code rq owner s (inService_held hheld)
  have hevent := fun f => event_held f s hheld
  cases c with
  | powerOnReset straps => exact absurd rfl (hpin straps)
  | slotForward slot => exact absurd (by simp) (hslot slot)
  | sampleSlot slot => exact absurd (by simp) (hslot slot)
  | vacantSlot slot => exact absurd (by simp) (hslot slot)
  | resetHeldActive slot => exact absurd (by simp) (hslot slot)
  | _ => simp only [exec, hrequest, hevent, execUnknownRequest, execRead, execWrite, execWriteSubscription, execWriteBinding, execWriteStations,
      execWriteCoverage, execWriteProfile, execWriteLoop, execWriteWebParam, execWriteHousingParam,
      execWriteProtection, execWriteRampMemory, execWriteRampDescriptor, execValidateCoverage,
      execValidateProfile, execWebEnable, execWebDisable, execSpeedPlan, execMark, execClearBreak,
      execClearTrip, execOverrideValue, execRelease, execArm, execDisarm, execStart, execPause, execResume,
      execStop, execNoticeMask, execRestart, execRingDown, execIntakeSample, execAgeTimerExpiry, execAdvance,
      execTrackingStart, execQueueEmptying, execEncSpeed, execBrkSample, execEncStaleSignal, execBrkStaleSignal,
      execHousingDarkSignal, execZoneSwitchSignal, execDamperSwitchSignal, execChillSwitchSignal,
      execCompletionSignal, execFullUpdate, execFeedforwardRefresh, execZairStale, execZoneRampSignal,
      execOperatorReturn, execProtectiveReturn, execDexitArrival, execCexitArrival, execCwretArrival,
      execFinishingEncArrival, execDexitStale, execCexitStale, execDampBaseRampSignal,
      execChillTargetRampSignal, execLelArrival, execMonitorEncArrival, execZairTripCheck, execExhtArrival,
      execLelStale, execPurgeClaimSignal, execPurgeTimerExpiry, execClaim, execHolderRelease, execDwellEnd,
      execDwellTimerExpiry, execScheduleValue, execActivitySignal, execMovementTimerExpiry, execChannelActive,
      execChannelInactive, execTopChange, execOutputChange, execRefreshTimerExpiry, execNoticeRaised,
      execPaceTimerExpiry, execTrigger, execBreakStop]

/-- Settles O4: the two events of the pin, and what a held pin leaves of every other command. -/
theorem resetPin : Obligations.ResetPin := by
  refine ⟨fun straps s => rfl, fun slot s => rfl, fun s hheld => ⟨fun slot c hc => ?_, fun c hslot hpin =>
    exec_held hheld hslot hpin⟩⟩
  have hout := inService_held hheld
  have hforward := forwardSlot_out hout slot
  simp only [List.mem_cons, List.not_mem_nil, or_false] at hc
  rcases hc with rfl | rfl | rfl
  · exact congrArg Host.Outcome.next hforward
  · show Host.Outcome.next _ = _
    rw [actsOn, hout]
    exact congrArg Host.Outcome.next hforward
  · show Host.Outcome.next _ = _
    rw [actsOn, hout]
    exact congrArg Host.Outcome.next hforward

/-! ## Power-on values -/

theorem tab_items_replicate {α : Type} (n : Nat) (x : α) : (Tab.replicate n x).items = List.replicate n x := rfl

/-- The words of a profile bank as chunks of its tables: at reset each holds zeros. -/
theorem reset_profile_words : Profile.reset.words = List.replicate 239 0 := by
  have hone : ∀ x : Nat, [x] = List.replicate 1 x := fun _ => rfl
  have hwords : Profile.reset.words = [0] ++ List.replicate 8 0 ++ [0] ++ List.replicate 6 0 ++ List.replicate 192 0 ++
      List.replicate 4 0 ++ List.replicate 4 0 ++ List.replicate 4 0 ++ List.replicate 4 0 ++ List.replicate 4 0 ++
      List.replicate 11 0 := rfl
  rw [hwords]
  simp only [hone, List.replicate_append_replicate]

theorem reset_protection (ch : Fin 30) :
    (State.reset.outputs.get ch).protection.items = List.replicate 3 (protectionDefault ch) :=
  congrArg (fun o : OutputChannel => o.protection.items) (tab_get_ofFn OutputChannel.reset ch)

theorem protectionDefault_housing (h : Fin 2) (z : Fin 4) :
    protectionDefault (heatOut h z) = some 0 ∧ protectionDefault (fanOut h z) = none ∧
      protectionDefault (exhOut h) = some 10000 := by
  revert h z
  decide

theorem protectionDefault_web (w : Fin 4) :
    protectionDefault (dampOut w) = none ∧ protectionDefault (chillAOut w) = none ∧
      protectionDefault (chillBOut w) = none := by
  revert w
  decide

/-- Settles O5: each table of the reset state gives the reset value of its block. -/
theorem powerOnValues : Obligations.PowerOnValues := by
  have hweb : ∀ w, State.reset.webs.get w = WebControl.reset := fun w => tab_get_replicate _ w
  have htrack : ∀ w, State.reset.track w = TrackWeb.reset := fun w => tab_get_replicate _ w
  have hjob : ∀ h, State.reset.tracker.jobs.get h = none := fun h => tab_get_replicate _ h
  have hprofile : ∀ h, State.reset.profiles.get h = ProfileHousing.reset := fun h => tab_get_replicate _ h
  have hinput : ∀ ch, State.reset.inputs.get ch = InputChannel.reset := fun ch => tab_get_replicate _ ch
  have hmonitor : ∀ h, State.reset.monitors.get h = Monitor.reset := fun h => tab_get_replicate _ h
  have houtput : ∀ ch, State.reset.outputs.get ch = OutputChannel.reset ch := fun ch => tab_get_ofFn _ ch
  refine ⟨fun w => ?_, fun w => ?_, fun h => ?_, fun ch => ?_, fun i => tab_get_replicate _ i, fun w => tab_get_replicate _ w,
    fun h => ?_, fun ch => ?_, fun h z => ?_, fun w => ?_, fun a => rfl, fun j => tab_get_replicate _ j,
    fun i => tab_get_replicate _ i, fun ch => tab_get_replicate _ ch, fun l => tab_get_replicate _ l, rfl, rfl, fun k => ?_,
    rfl, rfl, rfl⟩
  · rw [State.params, hweb]
    exact ⟨rfl, rfl, rfl, rfl, rfl⟩
  · rw [htrack]
    exact ⟨rfl, rfl, rfl, rfl, rfl, rfl, rfl, rfl, rfl, rfl, rfl, rfl⟩
  · rw [hjob, hprofile]
    exact ⟨rfl, rfl, rfl, rfl, reset_profile_words, reset_profile_words, rfl⟩
  · rw [State.record, hinput]
    exact ⟨rfl, rfl, rfl, rfl, rfl⟩
  · rw [State.housing, hmonitor]
    exact ⟨rfl, rfl, rfl, rfl, rfl, rfl⟩
  · rw [houtput]
    exact ⟨rfl, rfl, rfl, rfl, rfl, rfl, rfl, rfl, rfl, rfl, rfl, rfl⟩
  · obtain ⟨hheat, hfan, hexh⟩ := protectionDefault_housing h z
    rw [reset_protection, reset_protection, reset_protection, hheat, hfan, hexh]
    exact ⟨rfl, rfl, rfl⟩
  · obtain ⟨hdamp, ha, hb⟩ := protectionDefault_web w
    rw [reset_protection, reset_protection, reset_protection, hdamp, ha, hb]
    exact ⟨rfl, rfl, rfl⟩
  · revert k
    decide

end Sys2Proof.MachineProofs

namespace Sys2Proof.RingProofs

open Sys2Proof.Machine Sys2Proof.Statements Sys2Proof.Laws Sys2Proof.WriteProofs

/-! ## Slots forwarded (R175, R178) -/

theorem forwardSlot_in {s : State} (hs : InService s) (slot : Slot) :
    forwardSlot slot s = (s.boundary (goodSlot slot)).putOut slot := by
  simp [forwardSlot, inService_eq_true hs]

/-- Settles O6: in service a slot boundary, in bypass the slot alone. -/
theorem slotForwarded : Obligations.SlotForwarded := by
  refine fun slot s => ⟨fun hs hgood => ?_, fun hs hbad => ?_, fun hnode => ?_⟩
  · refine congrArg Host.Outcome.next ?_
    rw [forwardSlot_in hs, hgood, passed_eq_boundary]
    rfl
  · refine congrArg Host.Outcome.next ?_
    rw [forwardSlot_in hs, hbad]
    simp [State.boundary, State.putOut, after, Config.ringTimeout]
  · have hout : s.ring.inService = false := by
      rcases hnode with h | h <;> simp [RingPort.inService, h]
    exact congrArg Host.Outcome.next (MachineProofs.forwardSlot_out hout slot)

/-- Settles O9: the timer by whether its time is reached, the ring by its state. -/
theorem ringTimerExpiry : Obligations.RingTimerExpiry := by
  intro s hreleased
  have hevent : ∀ f, event f s = .next (f s) := fun f => event_next f s hreleased
  have hexec : exec .ringDown s = .next (match s.ring.boundary with
      | some t => if reached s.now t then { s with ring := s.ring.expired t } else s
      | none => s) := by
    rw [exec, execRingDown]
    exact hevent _
  refine ⟨fun t ht hdue hup => ?_, fun t ht hdue hdown => ?_, fun hearly => ?_⟩
  · rw [Runs, hexec, ht]
    simp only [reached, decide_eq_true hdue, if_true, RingPort.expired, hup]
  · rw [Runs, hexec, ht]
    simp only [reached, decide_eq_true hdue, if_true, RingPort.expired, hdown]
  · rw [Runs, hexec]
    split
    · next t ht =>
      have hlate := hearly t ht
      rw [if_neg (by simp only [reached, decide_eq_true_eq]; omega)]
    · rfl

/-! ## SAMPLE slots (R176) -/

theorem slotByte_eq_get (slot : Slot) (i : Fin 32) : slotByte slot i.val = (slot.get i).toNat := by
  have hi : i.val < slot.items.length := by rw [slot.size]; exact i.isLt
  rw [slotByte, byteAt, List.getD_eq_getElem _ _ hi]
  rfl

theorem ofNat_slotByte (slot : Slot) (i : Fin 32) : BitVec.ofNat 8 (slotByte slot i.val) = slot.get i := by
  rw [slotByte_eq_get]
  simp

theorem slotByte_lt (slot : Slot) (i : Nat) : slotByte slot i < 256 := BitVec.isLt _

/-- A word read as a signed value is its 16 bits in two's complement. -/
theorem signedWord_eq_toInt (w : Nat) : signedWord w = (BitVec.ofNat 16 w).toInt := by
  rw [BitVec.toInt_eq_toNat_cond, BitVec.toNat_ofNat]
  unfold signedWord
  norm_num
  split <;> split <;> omega

theorem matchesSample_iff (sub : Subscription) (x : Sample) :
    sub.matchesSample x = true ↔ sub.enabled = true ∧ sub.node = x.node.toNat ∧ sub.setId = x.setId.toNat := by
  simp [Subscription.matchesSample, and_assoc]

/-- Settles O7: the sample a slot spells and the channels it is given to. -/
theorem sampleSlotGiven : Obligations.SampleSlotGiven := by
  intro slot s hs hgood hkind
  refine ⟨sampleOf slot, (List.finRange 32).filter fun ch => (s.inputs.get ch).sub.matchesSample (sampleOf slot),
    ofNat_slotByte slot 1, ofNat_slotByte slot 2, ofNat_slotByte slot 5, rfl, fun i => ?_,
    (List.nodup_finRange 32).filter _, fun ch => ?_, ?_⟩
  · have hnext : 6 + 2 * i.val + 1 = 7 + 2 * i.val := by omega
    rw [sampleOf, tab_get_ofFn, signedWord_eq_toInt, wordAt, hnext]
    rfl
  · rw [List.mem_filter]
    simpa using matchesSample_iff _ _
  · have hacts : actsOn 1 slot s = true := by simp [actsOn, inService_eq_true hs, hgood, hkind]
    refine congrArg Host.Outcome.next ?_
    rw [if_pos hacts, forwardSlot_in hs, hgood, passed_eq_boundary]
    rfl

/-! ## Vacant slots: who is served (R169) -/

theorem pendingAt_iff (s : State) (l : Level) (ch : Fin 30) : pendingAt s l ch = true ↔ PendingAt s l ch := by
  simp [pendingAt]

/-- The channel in the order of service at place `k`. -/
theorem serviceOrder_getElem (p : Fin 30) {k : Nat} (hk : k < (serviceOrder p).length) :
    (serviceOrder p)[k] = Fin.ofNat 30 (p.val + 1 + k) := by
  simp [serviceOrder]

theorem serviceOrder_length (p : Fin 30) : (serviceOrder p).length = 30 := by
  simp [serviceOrder]

/-- A channel stands in the order of service at the place its wait tells. -/
theorem serviceOrder_wait (p ch : Fin 30) : Fin.ofNat 30 (p.val + 1 + wait p ch) = ch := by
  apply Fin.ext
  simp only [wait, Fin.ofNat]
  omega

theorem wait_serviceOrder (p : Fin 30) {k : Nat} (hk : k < 30) : wait p (Fin.ofNat 30 (p.val + 1 + k)) = k := by
  simp only [wait, Fin.ofNat]
  omega

theorem pointerOf_eq (s : State) (l : Level) : pointerOf s l = s.emission.pointers.get (levelIx l) := by
  cases l <;> rfl

/-- The round robin grants the pending channel that waits least. -/
theorem nextAt_some {s : State} {l : Level} {ch : Fin 30} (hpending : PendingAt s l ch)
    (hfirst : ∀ c, PendingAt s l c → wait (pointerOf s l) ch ≤ wait (pointerOf s l) c) : nextAt s l = some ch := by
  have hlt : wait (pointerOf s l) ch < 30 := Nat.mod_lt _ (by decide)
  rw [nextAt, ← pointerOf_eq, List.find?_eq_some_iff_getElem]
  refine ⟨(pendingAt_iff s l ch).mpr hpending, wait (pointerOf s l) ch, by rwa [serviceOrder_length], ?_, fun k hk => ?_⟩
  · rw [serviceOrder_getElem, serviceOrder_wait]
  · rw [serviceOrder_getElem]
    have hk30 : k < 30 := by omega
    cases hp : pendingAt s l (Fin.ofNat 30 ((pointerOf s l).val + 1 + k)) with
    | false => rfl
    | true =>
      have hwait := hfirst _ ((pendingAt_iff s l _).mp hp)
      rw [wait_serviceOrder _ hk30] at hwait
      omega

theorem nextAt_none {s : State} {l : Level} (hnone : ∀ c, ¬ PendingAt s l c) : nextAt s l = none := by
  rw [nextAt, List.find?_eq_none]
  intro c _
  rw [pendingAt_iff]
  exact hnone c

/-- The channel first served decides a grant of a command. -/
theorem decideGrant_command {s : State} {l : Level} {ch : Fin 30} (hserved : FirstServed s l ch)
    (hdue : l = .trip ∨ l = .brk ∨ s.emission.queue = [] ∨ s.emission.previous = .notice) :
    decideGrant s = .command l ch := by
  obtain ⟨hpending, hfirst, habove⟩ := hserved
  have hnext := nextAt_some hpending hfirst
  have hnone : ∀ l', levelCode l < levelCode l' → nextAt s l' = none := fun l' hl => nextAt_none fun c => habove l' c hl
  have hlow : ∀ a, highestOf s [.trip, .brk] = none → highestOf s [.limit, .operator, .schedule] = some a →
      (s.emission.queue = [] ∨ s.emission.previous = .notice) → decideGrant s = .command a.1 a.2 := by
    intro a hhigh ha hqueue
    unfold decideGrant
    rw [hhigh, ha]
    cases hq : s.emission.queue with
    | nil => rfl
    | cons e rest =>
      have hprevious := hqueue.resolve_left (by simp [hq])
      simp [hprevious]
  cases l with
  | trip => simp [decideGrant, highestOf, hnext]
  | brk => simp [decideGrant, highestOf, hnext, hnone .trip (by decide)]
  | limit =>
    exact hlow (.limit, ch) (by simp [highestOf, hnone .trip (by decide), hnone .brk (by decide)])
      (by simp [highestOf, hnext]) (by simpa using hdue)
  | operator =>
    exact hlow (.operator, ch) (by simp [highestOf, hnone .trip (by decide), hnone .brk (by decide)])
      (by simp [highestOf, hnext, hnone .limit (by decide)]) (by simpa using hdue)
  | schedule =>
    exact hlow (.schedule, ch) (by simp [highestOf, hnone .trip (by decide), hnone .brk (by decide)])
      (by simp [highestOf, hnext, hnone .limit (by decide), hnone .operator (by decide)]) (by simpa using hdue)

theorem highestOf_none {s : State} {ls : List Level} (hnone : ∀ l ∈ ls, ∀ c, ¬ PendingAt s l c) :
    highestOf s ls = none := by
  induction ls with
  | nil => rfl
  | cons l rest ih =>
    obtain ⟨hl, hrest⟩ := List.forall_mem_cons.mp hnone
    rw [highestOf, nextAt_none hl]
    exact ih hrest

theorem decideGrant_notice {s : State} {e : NoticeEntry} {rest : List NoticeEntry} (hqueue : s.emission.queue = e :: rest)
    (hhigh : ∀ ch, ¬ PendingAt s .trip ch ∧ ¬ PendingAt s .brk ch)
    (hturn : (∀ ch, (s.emission.records.get ch).pending = false) ∨ s.emission.previous = .command) :
    decideGrant s = .notice e rest := by
  have hhigh' : highestOf s [.trip, .brk] = none := by
    refine highestOf_none fun l hl c => ?_
    simp only [List.mem_cons, List.not_mem_nil, or_false] at hl
    rcases hl with rfl | rfl
    · exact (hhigh c).1
    · exact (hhigh c).2
  unfold decideGrant
  rw [hhigh', hqueue]
  rcases hturn with hidle | hcommand
  · have hlow : highestOf s [.limit, .operator, .schedule] = none :=
      highestOf_none fun l _ c hpending => absurd hpending.1 (by rw [hidle c]; exact Bool.false_ne_true)
    rw [hlow]
  · cases highestOf s [.limit, .operator, .schedule] with
    | none => rfl
    | some a => simp [hcommand]

theorem decideGrant_nothing {s : State} (hqueue : s.emission.queue = [])
    (hidle : ∀ ch, (s.emission.records.get ch).pending = false) : decideGrant s = .nothing := by
  have hnone : ∀ ls, highestOf s ls = none := fun ls =>
    highestOf_none fun l _ c hpending => absurd hpending.1 (by rw [hidle c]; exact Bool.false_ne_true)
  unfold decideGrant
  rw [hnone, hnone, hqueue]

/-! ## Notice frames (Tables 11-6 and 11-9) -/

theorem ofNat_toWord (x : Int) : BitVec.ofNat 8 (toWord x / 256) = BitVec.ofInt 8 (x / 256) ∧
    BitVec.ofNat 8 (toWord x) = BitVec.ofInt 8 x := by
  constructor <;> apply BitVec.eq_of_toNat_eq <;> simp only [BitVec.toNat_ofNat, BitVec.toNat_ofInt, toWord] <;> omega

theorem wordBytes_toWord (x : Int) : wordBytes (toWord x) = bytes2 x := by
  obtain ⟨hhigh, hlow⟩ := ofNat_toWord x
  rw [wordBytes, bytes2, hhigh, hlow]

theorem wordBytes_natCast (v : Nat) : wordBytes v = bytes2 (v : Int) := by
  rw [wordBytes, bytes2]
  congr 1

theorem ofNat_div_eq_extract (t : BitVec 32) (k : Nat) : BitVec.ofNat 8 (t.toNat / 2 ^ k) = t.extractLsb' k 8 := by
  apply BitVec.eq_of_toNat_eq
  rw [BitVec.extractLsb'_toNat, Nat.shiftRight_eq_div_pow, BitVec.toNat_ofNat]

theorem longBytes_eq (t : BitVec 32) : longBytes t = bytes4 t := by
  have h24 := ofNat_div_eq_extract t 24
  have h16 := ofNat_div_eq_extract t 16
  have h8 := ofNat_div_eq_extract t 8
  have h0 := ofNat_div_eq_extract t 0
  norm_num at h24 h16 h8 h0
  simp only [longBytes, bytes4, h24, h16, h8, BitVec.ofNat_toNat, h0]

theorem code_modes (m : Mode) : code modes m = modeCode m := by
  cases m <;> decide

theorem code_markers (k : MarkerKind) : code markers k = markerCode k := by
  cases k with
  | note k => revert k; decide
  | _ => decide

theorem code_sources (x : MarkerSource) : code [.request, .program] x = sourceCode x := by
  cases x <;> decide

theorem code_banks (b : Bank) : code [.p, .q] b = bankCode b := by
  cases b <;> decide

theorem code_ends (e : EndAction) : code [.release, .hold, .repeatPass] e = endCode e := by
  cases e <;> decide

theorem byteOf_eq_zeroExtend {n : Nat} (s : BitVec n) : byteOf s.toNat = s.zeroExtend 8 := by
  apply BitVec.eq_of_toNat_eq
  simp [byteOf]

/-- The frame says of a notice what the tables list. -/
theorem noticeDetail_eq (n : Notice) : noticeDetail n = (noticeView n).detail := by
  cases n with
  | modeChange w old new => simp [noticeDetail, noticeView, code_modes, byteOf]
  | brk w causes => simp [noticeDetail, noticeView, byteOf_eq_zeroExtend]
  | trackGap w delta => exact wordBytes_toWord delta
  | markerPassed w k st seq => simp [noticeDetail, noticeView, code_markers, byteOf, wordBytes_natCast]
  | markerDropped w k source => simp [noticeDetail, noticeView, code_markers, byteOf, code_sources]
  | inputStale ch mask => rfl
  | inputRestored ch mask => rfl
  | profileSwitched i bank cause =>
    cases cause <;> simp [noticeDetail, noticeView, byteOf, code_banks, wordBytes_natCast]
  | bankFree h bank cause => cases cause <;> cases bank <;> rfl
  | limitOn h lel => exact wordBytes_natCast lel
  | limitOff h lel => exact wordBytes_natCast lel
  | trip h causes reading =>
    cases reading <;> simp [noticeDetail, noticeView, byteOf_eq_zeroExtend, wordBytes_toWord]
  | tripCleared h causes => simp [noticeDetail, noticeView, byteOf_eq_zeroExtend]
  | programDone j action passes => simp [noticeDetail, noticeView, byteOf, code_ends, wordBytes_natCast]
  | programBlocked j target owner kind => cases target <;> rfl
  | outOfWindow win value bound => simp [noticeDetail, noticeView, wordBytes_toWord]
  | windowRestored win value bound => simp [noticeDetail, noticeView, wordBytes_toWord]
  | ringRestored downAt => exact longBytes_eq downAt

theorem subjectClass_eq (n : Notice) : subjectClass n = (noticeView n).subjectClass := by
  cases n with
  | profileSwitched i bank cause => cases cause <;> rfl
  | trip h causes reading => cases reading <;> rfl
  | _ => rfl

theorem noticeFrame_eq (node : Byte) (left : Nat) (e : NoticeEntry) :
    noticeFrame node left e = frame ([5, node, BitVec.ofNat 8 left, 24, BitVec.ofNat 8 (noticeView e.notice).kind,
      BitVec.ofNat 8 (noticeView e.notice).subjectClass, BitVec.ofNat 8 (noticeView e.notice).subject,
      BitVec.ofNat 8 e.count, if e.overflow then 1 else 0] ++ bytes4 e.time ++ (noticeView e.notice).detail) := by
  rw [noticeFrame, NoticeInvariant.noticeView_kind, NoticeInvariant.noticeView_subject, ← subjectClass_eq,
    ← noticeDetail_eq, longBytes_eq]
  cases e.overflow <;> rfl

/-! ## Grants (R170, R172) -/

theorem exec_vacantSlot {s : State} {slot : Slot} (hoffered : VacantOffered s slot) :
    exec (.vacantSlot slot) s = .next (offerSlot slot (s.boundary true)) := by
  obtain ⟨hs, hgood, hkind⟩ := hoffered
  have hacts : actsOn 0 slot s = true := by simp [actsOn, inService_eq_true hs, hgood, hkind]
  exact congrArg Host.Outcome.next (if_pos hacts)

/-- Settles O8: the decision of R169, then the state its grant leaves. -/
theorem vacantSlotGranted : Obligations.VacantSlotGranted := by
  refine ⟨fun slot s l ch hoffered hserved hdue => ?_, fun slot s hoffered => ⟨fun e rest hqueue hhigh hturn => ?_,
    fun hqueue hidle => ?_⟩⟩
  · have hgrant : decideGrant (s.boundary true) = .command l ch := decideGrant_command (s := s.boundary true) hserved hdue
    rw [Runs, exec_vacantSlot hoffered, offerSlot, hgrant, passed_eq_boundary]
    rfl
  · have hgrant : decideGrant (s.boundary true) = .notice e rest :=
      decideGrant_notice (s := s.boundary true) hqueue hhigh hturn
    rw [Runs, exec_vacantSlot hoffered, offerSlot, hgrant, passed_eq_boundary, ← noticeFrame_eq]
    rfl
  · have hgrant : decideGrant (s.boundary true) = .nothing := decideGrant_nothing (s := s.boundary true) hqueue hidle
    rw [Runs, exec_vacantSlot hoffered, offerSlot, hgrant, passed_eq_boundary]
    rfl

end Sys2Proof.RingProofs

/-! # The Request Decoder (R180, R181) -/

namespace Sys2Proof.DecoderProofs

open Sys2Proof.Machine Sys2Proof.Statements Sys2Proof.Laws Sys2Proof.WriteProofs

/-- Refutes O10: a WRITE with no argument bytes, the payload [2], belongs to the row WRITE, which answers it with RANGE,
and not to UNKNOWN_REQUEST. -/
theorem not_requestRowsByCode : ¬ Obligations.RequestRowsByCode := by
  intro h
  obtain ⟨-, -, hrows⟩ := h
  obtain ⟨-, -, -, -, -, -, -, hmissing, -⟩ := hrows 0 []
  have hrow : requestRow 0 [2] = .write ⟨0, []⟩ := rfl
  exact absurd (hrow.symm.trans (hmissing 2 (by decide))) (by decide)

/-- The images of the objects do not read the ring port or the signals. -/
theorem imageOf_passed (s : State) (object index : Nat) : imageOf (passed s) object index = imageOf s object index := by
  unfold passed
  split <;> rfl

/-- A request that its owner refuses. -/
theorem refused_of_owner {c : Instr} {s : State} {rq : Request} {code : Nat} {owner : List Byte → State → Answer}
    {st : Status} (hexec : exec c s = request code rq owner s) (hs : InService s)
    (howner : owner rq.args (passed s) = refuse st (passed s)) :
    Refused c s rq.tag (BitVec.ofNat 8 code) st [] :=
  answered_of_owner hexec hs howner (passed_node s)

theorem refused_unknown {s : State} (hs : InService s) (tag code : Byte) (args : List Byte) {st : Status}
    (howner : turnAway (code :: args) (passed s) = refuse st (passed s)) :
    Refused (.unknownRequest ⟨tag, code :: args⟩) s tag code st [] := by
  have hrefused := refused_of_owner (rq := ⟨tag, code :: args⟩) (code := code.toNat) (c := .unknownRequest ⟨tag, code :: args⟩)
    rfl hs howner
  rwa [BitVec.ofNat_toNat, BitVec.setWidth_eq] at hrefused

theorem turnAway_unknown {code : Byte} (args : List Byte) (s : State) (h : code = 0 ∨ 14 < code.toNat) :
    turnAway (code :: args) s = refuse .unknown s := by
  have hcode : knownCode code.toNat = false := by
    rcases h with rfl | h
    · rfl
    · simp [knownCode, within]
      omega
  simp [turnAway, hcode]

theorem turnAway_validate (object index : Byte) (args : List Byte) (s : State) :
    turnAway (3 :: object :: index :: args) s = refuse (validateOther s object.toNat index.toNat) s := rfl

/-- A known code with too few arguments to be a VALIDATE. -/
theorem turnAway_range {code : Byte} {args : List Byte} (s : State) (hknown : knownCode code.toNat = true)
    (hshort : ¬ (code.toNat = 3 ∧ 2 ≤ args.length)) : turnAway (code :: args) s = refuse .range s := by
  simp only [turnAway, hknown, if_neg hshort, Bool.not_true, Bool.false_eq_true, if_false]

/-- Settles O11: the answers of the Decoder's own row, payload by payload. -/
theorem unknownRequestTurnedAway : Obligations.UnknownRequestTurnedAway := by
  intro s tag hs
  refine ⟨refused_of_owner (rq := ⟨tag, []⟩) (code := 0) rfl hs rfl,
    fun code args hcode => refused_unknown hs tag code args (turnAway_unknown args _ hcode),
    fun object index args => ⟨fun hexists => ?_, fun hnone hmemory => ?_⟩,
    fun object => refused_unknown hs tag 3 [object] (turnAway_range _ rfl (by simp)),
    refused_unknown hs tag 2 [] (turnAway_range _ rfl (by simp)),
    refused_unknown hs tag 3 [] (turnAway_range _ rfl (by simp)),
    refused_unknown hs tag 12 [] (turnAway_range _ rfl (by simp)),
    fun op args _ => refused_unknown hs tag 12 (op :: args) (turnAway_range _ rfl (by simp))⟩
  · refine refused_unknown hs tag 3 (object :: index :: args) ?_
    rw [turnAway_validate, validateOther, imageOf_passed, if_pos]
    rcases hexists with himage | ⟨rfl, rfl⟩
    · exact .inr himage
    · exact .inl ⟨rfl, rfl⟩
  · refine refused_unknown hs tag 3 (object :: index :: args) ?_
    rw [turnAway_validate, validateOther, imageOf_passed, if_neg]
    rintro (⟨hobject, hindex⟩ | himage)
    · exact hmemory ⟨BitVec.eq_of_toNat_eq hobject, BitVec.eq_of_toNat_eq hindex⟩
    · simp [hnone] at himage

/-! ## Foreign indexes and spans -/

/-- A missing index and one that does not exist are refused with RANGE by every request that takes an index. -/
theorem foreignIndex_refused {n code : Nat} {f : Fin n → List Byte → State → Answer} {mk : Request → Instr}
    (hexec : ∀ rq s, exec (mk rq) s = request code rq (indexed n f) s) {s : State} (tag : Byte) (hs : InService s) :
    Refused (mk ⟨tag, []⟩) s tag (BitVec.ofNat 8 code) .range [] ∧
      ∀ (index : Byte) (args : List Byte), n ≤ index.toNat →
        Refused (mk ⟨tag, index :: args⟩) s tag (BitVec.ofNat 8 code) .range [] :=
  ⟨refused_of_owner (rq := ⟨tag, []⟩) (hexec _ s) hs rfl, fun index args hindex =>
    refused_of_owner (rq := ⟨tag, index :: args⟩) (hexec _ s) hs (indexed_out n f index args _ hindex)⟩

theorem readSpan_range {words : Nat} {hi lo count : Byte} {data : List Byte}
    (h : count = 0 ∨ 16 < count.toNat ∨ data.length < count.toNat ∨
      2 * words < hi.toNat * 256 + lo.toNat + count.toNat) : readSpan words (hi :: lo :: count :: data) = .error .range := by
  have hoff : wordAt (hi :: lo :: count :: data) 0 = hi.toNat * 256 + lo.toNat := rfl
  have hcount : byteAt (hi :: lo :: count :: data) 2 = count.toNat := rfl
  have hzero : count = 0 → count.toNat = 0 := fun e => by rw [e]; rfl
  unfold readSpan
  simp only [hoff, hcount, List.length_cons]
  rw [if_pos]
  rcases h with h | h | h | h
  · exact .inr (.inl (hzero h))
  all_goals omega

theorem readSpan_check {words : Nat} {hi lo count : Byte} {data : List Byte} (hone : 1 ≤ count.toNat)
    (hmost : count.toNat ≤ 16) (hdata : count.toNat ≤ data.length)
    (hin : hi.toNat * 256 + lo.toNat + count.toNat ≤ 2 * words)
    (hodd : (hi.toNat * 256 + lo.toNat) % 2 = 1 ∨ count.toNat % 2 = 1) :
    readSpan words (hi :: lo :: count :: data) = .error .check := by
  have hoff : wordAt (hi :: lo :: count :: data) 0 = hi.toNat * 256 + lo.toNat := rfl
  have hcount : byteAt (hi :: lo :: count :: data) 2 = count.toNat := rfl
  unfold readSpan
  simp only [hoff, hcount, List.length_cons]
  rw [if_neg (by omega), if_pos hodd]

/-- An ill-formed span is refused by every WRITE of whole objects. -/
theorem foreignSpan_refused {n words : Nat} {owner : Fin n → Span → State → Answer} {mk : Request → Instr}
    (hexec : ∀ rq s, exec (mk rq) s = request 2 rq (writeObject n words owner) s) {s : State}
    (tag index hi lo count : Byte) (data : List Byte) (hs : InService s) (hindex : index.toNat < n) :
    (count = 0 ∨ 16 < count.toNat ∨ data.length < count.toNat ∨ 2 * words < hi.toNat * 256 + lo.toNat + count.toNat →
      Refused (mk ⟨tag, index :: hi :: lo :: count :: data⟩) s tag 2 .range []) ∧
    (1 ≤ count.toNat → count.toNat ≤ 16 → count.toNat ≤ data.length →
      hi.toNat * 256 + lo.toNat + count.toNat ≤ 2 * words →
      ((hi.toNat * 256 + lo.toNat) % 2 = 1 ∨ count.toNat % 2 = 1) →
      Refused (mk ⟨tag, index :: hi :: lo :: count :: data⟩) s tag 2 .check []) := by
  have howner : ∀ st, readSpan words (hi :: lo :: count :: data) = .error st →
      Refused (mk ⟨tag, index :: hi :: lo :: count :: data⟩) s tag 2 st [] := fun st hst =>
    refused_of_owner (rq := ⟨tag, index :: hi :: lo :: count :: data⟩) (hexec _ s) hs (by
      rw [writeObject, indexed_cons _ _ _ _ _ hindex]
      simp only [hst])
  exact ⟨fun h => howner _ (readSpan_range h), fun hone hmost hdata hin hodd =>
    howner _ (readSpan_check hone hmost hdata hin hodd)⟩

/-- Settles O12: every row that takes an index checks it alike, every WRITE its span. -/
theorem foreignIndexesAndSpansRefused : Obligations.ForeignIndexesAndSpansRefused := by
  constructor
  · simp only [List.forall_mem_cons, List.not_mem_nil, false_implies, implies_true, and_true]
    refine ⟨?_, ?_, ?_, ?_, ?_, ?_, ?_, ?_, ?_, ?_, ?_, ?_, ?_, ?_, ?_, ?_, ?_, ?_, ?_, ?_, ?_, ?_, ?_, ?_, ?_, ?_, ?_⟩
    all_goals exact fun s tag hs => foreignIndex_refused (fun _ _ => rfl) tag hs
  · simp only [List.forall_mem_cons, List.not_mem_nil, false_implies, implies_true, and_true]
    refine ⟨?_, ?_, ?_, ?_, ?_, ?_, ?_, ?_, ?_, ?_⟩
    all_goals exact fun s tag index hi lo count data hs hindex =>
      foreignSpan_refused (fun _ _ => rfl) tag index hi lo count data hs hindex

end Sys2Proof.DecoderProofs

/-! # Written configuration: subscriptions (R47, R48)

What the slot boundary of a request leaves as it was, a record's present mask, then the subscription's image and its
owner's judgement. -/

namespace Sys2Proof.SubscriptionProofs

open Sys2Proof.Machine Sys2Proof.Statements Sys2Proof.Laws Sys2Proof.WriteProofs

/-! ## The slot boundary of a request -/

@[simp] theorem passed_inputs (s : State) : (passed s).inputs = s.inputs := by
  rw [passed_eq_boundary, boundary_inputs]

@[simp] theorem passed_outputs (s : State) : (passed s).outputs = s.outputs := by
  rw [passed_eq_boundary, boundary_outputs]

@[simp] theorem passed_tracker (s : State) : (passed s).tracker = s.tracker := by
  rw [passed_eq_boundary, boundary_tracker]

@[simp] theorem passed_ramp (s : State) : (passed s).ramp = s.ramp := by
  rw [passed_eq_boundary, boundary_ramp]

@[simp] theorem passed_emission (s : State) : (passed s).emission = s.emission := by
  rw [passed_eq_boundary, boundary_emission]

@[simp] theorem passed_now (s : State) : (passed s).now = s.now := by
  rw [passed_eq_boundary, boundary_now]

@[simp] theorem passed_track (s : State) (w : Fin 4) : (passed s).track w = s.track w := by
  simp [State.track]

@[simp] theorem passed_mode (s : State) (w : Fin 4) : (passed s).mode w = s.mode w := by
  simp [State.mode]

/-- A WRITE of a span that fits is answered by the owner of its object. -/
theorem answered_of_write {n words : Nat} {owner : Fin n → Span → State → Answer} {mk : Request → Instr}
    (hexec : ∀ rq s, exec (mk rq) s = request 2 rq (writeObject n words owner) s) {s t : State} (tag : Byte) (i : Fin n)
    {sp : Span} {st : Status} {clamped : Bool} {data : List Byte} (hs : InService s) (hn : n ≤ 256)
    (hfit : SpanFits words sp) (hwords : words ≤ 32768) (howner : owner i sp (passed s) = ⟨st, clamped, data, t⟩)
    (hnode : t.ring.node = s.ring.node) : Answered (mk ⟨tag, spanArgs i.val sp⟩) s tag 2 st clamped data t :=
  answered_of_owner (rq := ⟨tag, spanArgs i.val sp⟩) (code := 2) (hexec _ s) hs
    ((writeObject_spanArgs owner i (passed s) hn hfit hwords).trans howner) hnode

/-! ## The present mask of a record -/

/-- Adding the bit of a lane leaves the bits of the others. -/
theorem getLsbD_or_two_pow (m : BitVec 8) {i j : Nat} (hj : j < 8) :
    (m ||| BitVec.ofNat 8 (2 ^ i)).getLsbD j = (m.getLsbD j || decide (i = j)) := by
  rw [BitVec.getLsbD_or, BitVec.getLsbD_ofNat, Nat.testBit_two_pow]
  simp [hj]

theorem foldl_mask_getLsbD (present : Fin 8 → Bool) (is : List (Fin 8)) (m : BitVec 8) (j : Fin 8) :
    (is.foldl (fun m i => if present i then m ||| BitVec.ofNat 8 (2 ^ i.val) else m) m).getLsbD j.val =
      (m.getLsbD j.val || decide (j ∈ is ∧ present j = true)) := by
  induction is generalizing m with
  | nil => simp
  | cons i rest ih =>
    rw [List.foldl_cons, ih]
    by_cases hi : present i = true
    · rw [if_pos hi, getLsbD_or_two_pow m j.isLt]
      by_cases hij : j = i
      · simp [hij, hi]
      · simp [hij, Fin.val_inj, Ne.symm hij]
    · rw [if_neg hi]
      by_cases hij : j = i
      · simp [hij, hi]
      · simp [hij]

theorem presentMask_getLsbD (lanes : Tab (Option Int) 8) (j : Fin 8) :
    (presentMask lanes).getLsbD j.val = (lanes.get j).isSome := by
  rw [presentMask, foldl_mask_getLsbD fun i => (lanes.get i).isSome]
  simp

theorem masksPresent_presentMask (lanes : Tab (Option Int) 8) : MasksPresent (presentMask lanes) lanes := by
  intro j
  rw [presentMask_getLsbD, Option.isSome_iff_ne_none]

/-- The mask of a record is the only one with its lanes' bits. -/
theorem eq_presentMask {mask : BitVec 8} {lanes : Tab (Option Int) 8} (h : MasksPresent mask lanes) :
    mask = presentMask lanes := by
  refine BitVec.eq_of_getLsbD_eq fun i hi => ?_
  rw [Bool.eq_iff_iff]
  exact (h ⟨i, hi⟩).trans (masksPresent_presentMask lanes ⟨i, hi⟩).symm

/-! ## The image of a subscription (Table 3-2) -/

/-- The ranges of Table 3-2 by word; the scale, word 12, has a signed range besides. -/
def subscriptionRanges : List (Nat × Nat) :=
  [(0, 1), (1, 254), (0, 255)] ++ List.replicate 8 (0, 7) ++ [(0, 65535), (0, 65535), (10, 60000)]

theorem subscriptionWordOk_iff {i v : Nat} (hi : i < 14) (hv : v < 65536) :
    subscriptionWordOk i v = true ↔
      ((subscriptionRanges.getD i (0, 0)).1 ≤ v ∧ v ≤ (subscriptionRanges.getD i (0, 0)).2) ∧
        (i = 12 → -15 ≤ signedWord v ∧ signedWord v ≤ 15) := by
  interval_cases i <;> simp [subscriptionWordOk, within, subscriptionRanges] <;> omega

/-- What a subscription write must carry to be in range. -/
def SubscriptionInRange (sp : Span) : Prop :=
  InRanges subscriptionRanges sp ∧ (Carries sp 12 → -15 ≤ signedWord (sp.val 12) ∧ signedWord (sp.val 12) ≤ 15)

theorem val_eq_getD (sp : Span) {i : Nat} (hi : Carries sp i) :
    ∃ k, k < sp.vals.length ∧ i = sp.start + k ∧ sp.val i = sp.vals.getD k 0 := by
  obtain ⟨hlow, hhigh⟩ := hi
  exact ⟨i - sp.start, by omega, by omega, rfl⟩

theorem vals_getD_lt {words : Nat} {sp : Span} (hfit : SpanFits words sp) (k : Nat) : sp.vals.getD k 0 < 65536 := by
  obtain ⟨-, -, -, hvals⟩ := hfit
  by_cases hk : k < sp.vals.length
  · rw [List.getD_eq_getElem _ _ hk]
    exact hvals _ (List.getElem_mem hk)
  · rw [List.getD_eq_default _ _ (by omega)]
    decide

theorem subscription_inRange_iff {sp : Span} (hfit : SpanFits 14 sp) :
    sp.inRange subscriptionWordOk = true ↔ SubscriptionInRange sp := by
  have hword := fun k => vals_getD_lt hfit k
  obtain ⟨-, -, hin, -⟩ := hfit
  rw [Span.inRange, carriedOk_iff]
  constructor
  · intro h
    refine ⟨fun k hk => ((subscriptionWordOk_iff (by omega) (hword k)).mp (h k hk)).1, fun hscale => ?_⟩
    obtain ⟨k, hk, hplace, hval⟩ := val_eq_getD sp hscale
    rw [hval]
    exact ((subscriptionWordOk_iff (by omega) (hword k)).mp (h k hk)).2 hplace.symm
  · rintro ⟨hranges, hscale⟩ k hk
    refine (subscriptionWordOk_iff (by omega) (hword k)).mpr ⟨hranges k hk, fun hplace => ?_⟩
    have hcarries : Carries sp 12 := by simp only [Carries]; omega
    obtain ⟨k', -, hplace', hval⟩ := val_eq_getD sp hcarries
    have hsame : k' = k := by omega
    rw [← hsame, ← hval]
    exact hscale hcarries

theorem toWord_lt (x : Int) : toWord x < 65536 := by
  unfold toWord
  omega

theorem toWord_signedWord {v : Nat} (h : v < 65536) : toWord (signedWord v) = v := by
  unfold toWord signedWord
  split <;> omega

theorem signedWord_range (v : Nat) : -32768 ≤ signedWord v ∧ signedWord v ≤ 32767 := by
  unfold signedWord
  split <;> omega

theorem subscription_words_length (x : Subscription) : x.words.length = 14 := by
  simp [Subscription.words, Tab.size]

/-- The words of a subscription's image before, in and after the lane map. -/
theorem subscription_words_getD (x : Subscription) :
    x.words.getD 0 0 = boolWord x.enabled ∧ x.words.getD 11 0 = toWord x.offset ∧ x.words.getD 12 0 = toWord x.scale := by
  have hmap : (boolWord x.enabled :: x.node :: x.setId :: x.laneMap.items).length = 11 := by simp [Tab.size]
  have hwords : x.words = (boolWord x.enabled :: x.node :: x.setId :: x.laneMap.items) ++
      [toWord x.offset, toWord x.scale, x.maxAge] := rfl
  refine ⟨rfl, ?_, ?_⟩
  · rw [hwords, List.getD_append_right _ _ _ _ (by omega), hmap]
    rfl
  · rw [hwords, List.getD_append_right _ _ _ _ (by omega), hmap]
    rfl

/-- An image of 14 words with a flag first and 16-bit words at offset and scale is the image of what is read from it. -/
theorem subscription_words_ofWords {ws : List Nat} (hlen : ws.length = 14) (hflag : ws.getD 0 0 ≤ 1)
    (hoffset : ws.getD 11 0 < 65536) (hscale : ws.getD 12 0 < 65536) : (Subscription.ofWords ws).words = ws := by
  have hmap : (Tab.ofFn fun i : Fin 8 => ws.getD (3 + i.val) 0).items = (ws.drop 3).take 8 :=
    ProfileProofs.ofFn_getD_items (by omega)
  have hbool : boolWord (decide (ws.getD 0 0 ≠ 0)) = ws.getD 0 0 := by
    generalize ws.getD 0 0 = v at hflag
    interval_cases v <;> rfl
  rw [Subscription.words]
  simp only [Subscription.ofWords, hmap, hbool, toWord_signedWord hoffset, toWord_signedWord hscale]
  refine List.ext_getElem (by simp [hlen]) fun i hi hi' => ?_
  rw [hlen] at hi'
  interval_cases i <;> simp [hlen]

theorem boolWord_le (b : Bool) : boolWord b ≤ 1 := by
  cases b <;> decide

/-- The subscription after an accepted write. -/
def writtenSubscription (sp : Span) (x : Subscription) : Subscription := Subscription.ofWords (sp.apply x.words)

theorem writtenSubscription_words {sp : Span} (x : Subscription) (hfit : SpanFits 14 sp) (hrange : SubscriptionInRange sp) :
    (writtenSubscription sp x).words = sp.apply x.words := by
  have hval : ∀ i, sp.val i < 65536 := fun i => vals_getD_lt hfit (i - sp.start)
  obtain ⟨-, -, hin, -⟩ := hfit
  have hlen := subscription_words_length x
  have hin' : sp.start + sp.vals.length ≤ x.words.length := by omega
  obtain ⟨hflag, hoffset, hscale⟩ := subscription_words_getD x
  refine subscription_words_ofWords ((apply_length hin').trans hlen) ?_ ?_ ?_
  · exact HousingProofs.apply_getD_le hin' hrange.1 (i := 0) (hflag.trans_le (boolWord_le _))
  · rw [apply_getD hin', hoffset]
    split
    · exact hval 11
    · exact toWord_lt _
  · rw [apply_getD hin', hscale]
    split
    · exact hval 12
    · exact toWord_lt _

/-! ## The owner's judgement (R47) -/

theorem fixedLanes_iff (ch : Fin 32) : (inRole ch).fixedLanes = true ↔ 12 ≤ ch.val ∧ 3 ≤ (ch.val - 12) % 5 := by
  revert ch
  decide

/-- A write that carries an offset or scale other than 0 to a channel that has none. -/
def Shifts (ch : Fin 32) (sp : Span) : Prop :=
  12 ≤ ch.val ∧ 3 ≤ (ch.val - 12) % 5 ∧ (Carries sp 11 ∧ sp.val 11 ≠ 0 ∨ Carries sp 12 ∧ sp.val 12 ≠ 0)

theorem breaksFixedLanes_iff (ch : Fin 32) (sp : Span) : breaksFixedLanes ch sp = true ↔ Shifts ch sp := by
  simp only [breaksFixedLanes, Shifts, Bool.and_eq_true, Bool.or_eq_true, decide_eq_true_eq, fixedLanes_iff,
    LoopProofs.covers_iff, and_assoc]

/-- An enabled subscription without a source or an age. -/
def Unusable (x : Subscription) : Prop := x.enabled = true ∧ (x.node = 0 ∨ x.maxAge = 0)

theorem writeSubscription_range (ch : Fin 32) {sp : Span} (s : State) (hfit : SpanFits 14 sp)
    (hrange : ¬ SubscriptionInRange sp) : writeSubscription ch sp s = refuse .range s := by
  rw [← subscription_inRange_iff hfit] at hrange
  simp [writeSubscription, hrange]

theorem writeSubscription_shifts (ch : Fin 32) {sp : Span} (s : State) (hfit : SpanFits 14 sp)
    (hrange : SubscriptionInRange sp) (hshifts : Shifts ch sp) : writeSubscription ch sp s = refuse .check s := by
  rw [← subscription_inRange_iff hfit] at hrange
  rw [← breaksFixedLanes_iff] at hshifts
  simp [writeSubscription, hrange, hshifts]

theorem writeSubscription_unshifted (ch : Fin 32) {sp : Span} (s : State) (hfit : SpanFits 14 sp)
    (hrange : SubscriptionInRange sp) (hshifts : ¬ Shifts ch sp) :
    (Unusable (writtenSubscription sp (s.inputs.get ch).sub) → writeSubscription ch sp s = refuse .check s) ∧
    (¬ Unusable (writtenSubscription sp (s.inputs.get ch).sub) →
      writeSubscription ch sp s = done (applySubscription ch (writtenSubscription sp (s.inputs.get ch).sub) s)) := by
  rw [← subscription_inRange_iff hfit] at hrange
  rw [← breaksFixedLanes_iff] at hshifts
  unfold writtenSubscription Unusable
  constructor <;> intro h <;> simp [writeSubscription, hrange, hshifts, h]

/-! ## The effect of a write (R48) -/

theorem sourceChange_iff (old new : Subscription) :
    sourceChange old new = true ↔
      old.enabled = true ∧ (new.enabled = false ∨ new.node ≠ old.node ∨ new.setId ≠ old.setId) := by
  simp [sourceChange, or_assoc]

/-- The record's max age is changed to one it has reached. -/
def Aged (s : State) (ch : Fin 32) (new : Subscription) : Prop :=
  new.maxAge ≠ (s.inputs.get ch).sub.maxAge ∧ new.maxAge ≤ elapsed s.now (s.inputs.get ch).record.arrival

/-- The write ends the record's freshness. -/
def EndsFresh (s : State) (ch : Fin 32) (new : Subscription) : Prop :=
  (s.inputs.get ch).record.fresh = true ∧ (sourceChange (s.inputs.get ch).sub new = true ∨ Aged s ch new)

theorem applySubscription_stale {s : State} {ch : Fin 32} {new : Subscription} (h : EndsFresh s ch new) :
    applySubscription ch new s = makeStale ch { s with inputs := s.inputs.set ch { s.inputs.get ch with sub := new } } := by
  obtain ⟨hfresh, hends⟩ := h
  unfold applySubscription
  simp only [hfresh, Bool.true_and]
  rw [if_pos]
  rw [Bool.or_eq_true, Bool.and_eq_true, decide_eq_true_iff, decide_eq_true_iff]
  exact hends

theorem applySubscription_same {s : State} {ch : Fin 32} {new : Subscription} (h : ¬ EndsFresh s ch new) :
    applySubscription ch new s = { s with inputs := s.inputs.set ch { s.inputs.get ch with sub := new } } := by
  unfold applySubscription
  simp only
  rw [if_neg]
  rw [Bool.and_eq_true, Bool.or_eq_true, Bool.and_eq_true, Bool.and_eq_true, decide_eq_true_iff, decide_eq_true_iff]
  exact fun ⟨hfresh, hends⟩ => h ⟨hfresh, hends.imp_right fun ⟨⟨_, hne⟩, hle⟩ => ⟨hne, hle⟩⟩

/-- A channel whose subscription was just replaced becomes stale. -/
theorem makeStale_replaced (s : State) (ch : Fin 32) (new : Subscription) {mask : BitVec 8}
    (hmask : MasksPresent mask (s.inputs.get ch).record.lanes) :
    makeStale ch { s with inputs := s.inputs.set ch { s.inputs.get ch with sub := new } } =
      sending { s with inputs := s.inputs.set ch ⟨new, (s.inputs.get ch).record.toStale⟩ }
        (.noticeRaised (.inputStale ch mask) :: staleSignals (inRole ch)) := by
  rw [eq_presentMask hmask]
  simp only [makeStale, tab_get_set_same, tab_set_set]
  rfl

theorem answered_of_writeSubscription {s t : State} (tag : Byte) (ch : Fin 32) {sp : Span} {st : Status} {clamped : Bool}
    {data : List Byte} (hs : InService s) (hfit : SpanFits 14 sp)
    (howner : writeSubscription ch sp (passed s) = ⟨st, clamped, data, t⟩) (hnode : t.ring.node = s.ring.node) :
    Answered (.writeSubscription ⟨tag, spanArgs ch.val sp⟩) s tag 2 st clamped data t :=
  answered_of_write (mk := Instr.writeSubscription) (fun _ _ => rfl) tag ch hs (by decide) hfit (by decide) howner hnode

/-- Settles O14: the owner's judgement check by check; an accepted write that ends the record's freshness makes it stale. -/
theorem subscriptionWritten : Obligations.SubscriptionWritten := by
  intro s tag ch sp hs hfit
  have hanswer : ∀ {st : Status} {clamped : Bool} {data : List Byte} {t : State},
      writeSubscription ch sp (passed s) = ⟨st, clamped, data, t⟩ → t.ring.node = s.ring.node →
      Answered (.writeSubscription ⟨tag, spanArgs ch.val sp⟩) s tag 2 st clamped data t :=
    answered_of_writeSubscription tag ch hs hfit
  refine ⟨fun hrange => hanswer (writeSubscription_range ch (passed s) hfit hrange) (passed_node s),
    fun hrange hshifts => hanswer (writeSubscription_shifts ch (passed s) hfit hrange hshifts) (passed_node s),
    fun hrange hshifts => ?_⟩
  obtain ⟨hrefused, haccepted⟩ := writeSubscription_unshifted ch (passed s) hfit hrange hshifts
  rw [passed_inputs] at hrefused haccepted
  refine ⟨writtenSubscription sp (s.inputs.get ch).sub, writtenSubscription_words _ hfit hrange,
    (signedWord_range _).1, (signedWord_range _).2, (signedWord_range _).1, (signedWord_range _).2,
    fun henabled hmissing => hanswer (hrefused ⟨henabled, hmissing⟩) (passed_node s), fun husable => ?_⟩
  have hdone := haccepted husable
  generalize writtenSubscription sp (s.inputs.get ch).sub = new at hdone
  refine ⟨fun mask hmask hfresh hends => ?_, fun hstays => ?_⟩
  · have hstale : EndsFresh (passed s) ch new := by
      rw [EndsFresh, Aged, sourceChange_iff, passed_inputs, passed_now]
      exact ⟨hfresh, hends⟩
    rw [applySubscription_stale hstale, makeStale_replaced _ _ _ (by rwa [passed_inputs]), passed_inputs] at hdone
    exact hanswer hdone (passed_node s)
  · have hsame : ¬ EndsFresh (passed s) ch new := by
      rw [EndsFresh, Aged, sourceChange_iff, passed_inputs, passed_now]
      exact hstays
    rw [applySubscription_same hsame, passed_inputs] at hdone
    exact hanswer hdone (passed_node s)

end Sys2Proof.SubscriptionProofs

/-! # One output channel at the end of an event (R139 to R142)

What closing an event sets and leaves, and the events of one channel taken along a list of channels. -/

namespace Sys2Proof.ChannelProofs

open Sys2Proof.Machine Sys2Proof.Statements Sys2Proof.Laws Sys2Proof.WriteProofs Sys2Proof.SubscriptionProofs

/-! ## The top of the stack -/

theorem topIx_congr {o p : OutputChannel} (h : o.entries = p.entries) : o.topIx = p.topIx := by
  rw [OutputChannel.topIx, OutputChannel.topIx, h]

theorem top_congr {o p : OutputChannel} (h : o.entries = p.entries) : o.top = p.top := by
  rw [OutputChannel.top, OutputChannel.top, topIx_congr h]

theorem target_congr {o p : OutputChannel} (hentries : o.entries = p.entries) (hschedule : o.schedule = p.schedule)
    (hhold : o.returnHold = p.returnHold) : o.target = p.target := by
  simp only [OutputChannel.target, topIx_congr hentries, hentries, OutputChannel.scheduleTarget, hschedule, hhold]

/-- The top is SCHEDULE exactly when no entry stands above it. -/
theorem top_eq_schedule_iff (o : OutputChannel) : o.top = .schedule ↔ o.topIx = none := by
  unfold OutputChannel.top
  cases htop : o.topIx with
  | none => simp
  | some i =>
    simp only [levelAt, reduceCtorEq, iff_false]
    split_ifs <;> decide

/-- The place of the top holds an entry. -/
theorem exists_entry_of_topIx {o : OutputChannel} {i : Fin 4} (h : o.topIx = some i) : ∃ e, o.entries.get i = some e := by
  have hsome : (o.entries.get i).isSome = true := by
    unfold OutputChannel.topIx at h
    split_ifs at h with h3 h2 h1 h0 <;> obtain rfl := Option.some.inj h <;> assumption
  exact Option.isSome_iff_exists.mp hsome

/-- Above SCHEDULE the target is an entry's value, whatever schedule and return hold are. -/
theorem target_of_top_ne {o p : OutputChannel} (hentries : o.entries = p.entries) (htop : o.top ≠ .schedule) :
    o.target = p.target := by
  obtain ⟨i, hi⟩ := Option.ne_none_iff_exists'.mp (mt (top_eq_schedule_iff o).mpr htop)
  obtain ⟨e, he⟩ := exists_entry_of_topIx hi
  simp only [OutputChannel.target, ← topIx_congr hentries, ← hentries, hi, he]

theorem target_of_top_schedule {o : OutputChannel} (htop : o.top = .schedule) :
    o.target = match o.returnHold with | some v => [v] | none => o.schedule := by
  rw [OutputChannel.target, (top_eq_schedule_iff o).mp htop]
  rfl

/-- The output goes to the target at once: BREAK or TRIP on top, or no slew limit. -/
abbrev Jumps (o : OutputChannel) : Prop := o.top = .brk ∨ o.top = .trip ∨ o.binding.slew = 0

theorem jumps_iff (o : OutputChannel) : o.jumps = true ↔ Jumps o := by
  simp [OutputChannel.jumps, Jumps, or_assoc]

theorem jumps_congr {o p : OutputChannel} (htop : o.top = p.top) (hslew : o.binding.slew = p.binding.slew) :
    o.jumps = p.jumps := by
  rw [OutputChannel.jumps, OutputChannel.jumps, htop, hslew]

theorem isSome_heatZone_iff (ch : Fin 30) : (heatZone ch).isSome = true ↔ ch.val < 18 ∧ ch.val % 9 < 4 := by
  revert ch
  decide

/-! ## Closing an event -/

section Close

variable (ch : Fin 30) (now : PartTime) (ls : Option Lanes) (again : Bool) (o o' : OutputChannel)

/-- The channel at the end of an event before its movement is set: only the return hold is judged. -/
def heldAfter : OutputChannel := { o' with returnHold := holdAfter ch now o o' }

/-- Closing sets the return hold, the origin and the movement timer and nothing else. -/
theorem closeEvent_shape : ∃ v t m, closeEvent ch now ls again o o' =
    { heldAfter ch now o o' with originValue := v, originTime := t, moveTimer := m } := by
  unfold closeEvent
  simp only
  split_ifs
  · exact ⟨_, _, _, rfl⟩
  · exact ⟨_, _, _, rfl⟩
  · exact ⟨_, _, _, rfl⟩

@[simp] theorem closeEvent_entries : (closeEvent ch now ls again o o').entries = o'.entries := by
  obtain ⟨v, t, m, h⟩ := closeEvent_shape ch now ls again o o'
  rw [h]
  rfl

@[simp] theorem closeEvent_schedule : (closeEvent ch now ls again o o').schedule = o'.schedule := by
  obtain ⟨v, t, m, h⟩ := closeEvent_shape ch now ls again o o'
  rw [h]
  rfl

@[simp] theorem closeEvent_binding : (closeEvent ch now ls again o o').binding = o'.binding := by
  obtain ⟨v, t, m, h⟩ := closeEvent_shape ch now ls again o o'
  rw [h]
  rfl

@[simp] theorem closeEvent_active : (closeEvent ch now ls again o o').active = o'.active := by
  obtain ⟨v, t, m, h⟩ := closeEvent_shape ch now ls again o o'
  rw [h]
  rfl

@[simp] theorem closeEvent_dwell : (closeEvent ch now ls again o o').dwell = o'.dwell := by
  obtain ⟨v, t, m, h⟩ := closeEvent_shape ch now ls again o o'
  rw [h]
  rfl

@[simp] theorem closeEvent_protection : (closeEvent ch now ls again o o').protection = o'.protection := by
  obtain ⟨v, t, m, h⟩ := closeEvent_shape ch now ls again o o'
  rw [h]
  rfl

theorem closeEvent_returnHold : (closeEvent ch now ls again o o').returnHold = holdAfter ch now o o' := by
  obtain ⟨v, t, m, h⟩ := closeEvent_shape ch now ls again o o'
  rw [h]
  rfl

@[simp] theorem closeEvent_top : (closeEvent ch now ls again o o').top = o'.top :=
  top_congr (closeEvent_entries ..)

theorem closeEvent_target : (closeEvent ch now ls again o o').target = (heldAfter ch now o o').target :=
  target_congr (closeEvent_entries ..) (closeEvent_schedule ..) (closeEvent_returnHold ..)

theorem closeEvent_jumps : (closeEvent ch now ls again o o').jumps = o'.jumps :=
  jumps_congr (closeEvent_top ..) (congrArg _ (closeEvent_binding ..))

/-- The event changes target, top or slew limit. -/
def Retargets : Prop :=
  (closeEvent ch now ls again o o').target ≠ o.target ∨ o'.top ≠ o.top ∨ o'.binding.slew ≠ o.binding.slew

theorem retargets_iff : retargets o (heldAfter ch now o o') = true ↔ Retargets ch now ls again o o' := by
  have htop : (heldAfter ch now o o').top = o'.top := rfl
  have hbinding : (heldAfter ch now o o').binding = o'.binding := rfl
  simp only [Machine.retargets, Retargets, closeEvent_target, htop, hbinding, Bool.or_eq_true, decide_eq_true_eq,
    or_assoc]

variable {ch now ls again o o'}

/-- A change of target, top or slew limit sets the origin and computes the movement timer anew. -/
theorem closeEvent_of_retargets (h : Retargets ch now ls again o o') :
    (closeEvent ch now ls again o o').originTime = now ∧
      (closeEvent ch now ls again o o').originValue =
        (if o'.jumps then (closeEvent ch now ls again o o').target else o.output now) ∧
      (closeEvent ch now ls again o o').moveTimer = (closeEvent ch now ls again o o').movement now ls := by
  have hclose : closeEvent ch now ls again o o' = (setOrigin now o (heldAfter ch now o o')).retimed now ls := by
    unfold closeEvent
    exact if_pos ((retargets_iff ..).mpr h)
  rw [closeEvent_target, hclose]
  exact ⟨rfl, rfl, rfl⟩

/-- Otherwise the origin stands, and the timer too unless it is to be computed anew. -/
theorem closeEvent_of_not_retargets (h : ¬ Retargets ch now ls again o o') :
    (closeEvent ch now ls again o o').originValue = o'.originValue ∧
      (closeEvent ch now ls again o o').originTime = o'.originTime ∧
      (closeEvent ch now ls again o o').moveTimer =
        if again then (closeEvent ch now ls again o o').movement now ls else o'.moveTimer := by
  have hclose : closeEvent ch now ls again o o' =
      if again then (heldAfter ch now o o').retimed now ls else heldAfter ch now o o' := by
    unfold closeEvent
    exact if_neg (mt (retargets_iff ..).mp h)
  rw [hclose]
  cases again <;> exact ⟨rfl, rfl, rfl⟩

end Close

theorem holdAfter_above {ch : Fin 30} {now : PartTime} {o o' : OutputChannel} (h : o'.top ≠ .schedule) :
    holdAfter ch now o o' = none := if_pos h

theorem holdAfter_fallen {ch : Fin 30} {now : PartTime} {o o' : OutputChannel} (h : o'.top = .schedule)
    (hbefore : o.top ≠ .schedule) (hheat : (heatZone ch).isSome = true) :
    holdAfter ch now o o' = some ((o.output now).headD 0) := by
  rw [holdAfter, if_neg (not_not_intro h), if_pos ⟨hbefore, hheat⟩]

theorem holdAfter_stands {ch : Fin 30} {now : PartTime} {o o' : OutputChannel} (h : o'.top = .schedule)
    (hbefore : o.top = .schedule ∨ ¬ (heatZone ch).isSome = true) : holdAfter ch now o o' = o'.returnHold := by
  rw [holdAfter, if_neg (not_not_intro h), if_neg]
  rintro ⟨htop, hheat⟩
  exact hbefore.elim htop fun hno => hno hheat

/-! ## What closing sends -/

theorem returnSignal_eq (ch : Fin 30) (o o' : OutputChannel) :
    returnSignal ch o o' = match outRole ch with
      | .heat h z =>
        if o'.top ≠ .schedule ∨ o.top = .schedule then []
        else if o.top = .operator then [.operatorReturn h z (o.target.headD 0)] else [.protectiveReturn h z o.top]
      | _ => [] := by
  unfold returnSignal heatZone
  cases outRole ch with
  | heat h z =>
    simp only
    by_cases htop : o'.top = .schedule
    · by_cases hop : o.top = .operator
      · simp [htop, hop]
      · by_cases hbefore : o.top = .schedule <;> simp [htop, hop, hbefore]
    · simp [htop]
  | _ => rfl

theorem eventSignals_eq (ch : Fin 30) (now : PartTime) (o o' : OutputChannel) :
    eventSignals ch now o o' = (if o'.top = o.top then [] else .topChange ch :: returnSignal ch o o') ++
      (if Jumps o' ∧ o'.target ≠ o.output now then [.outputChange ch] else []) := by
  have hjump : (o'.jumps && decide (o'.target ≠ o.output now)) = true ↔ Jumps o' ∧ o'.target ≠ o.output now := by
    rw [Bool.and_eq_true, jumps_iff, decide_eq_true_iff]
  unfold eventSignals
  simp only [hjump, ite_not, List.singleton_append]

/-- What goes to the zone loop is a return of its channel. -/
theorem mem_returnSignal {ch : Fin 30} {o o' : OutputChannel} {c : Instr} (h : c ∈ returnSignal ch o o') :
    (∃ h' z v, c = .operatorReturn h' z v) ∨ ∃ h' z l, c = .protectiveReturn h' z l := by
  unfold returnSignal at h
  split at h
  · split_ifs at h
    · exact .inl ⟨_, _, _, List.mem_singleton.mp h⟩
    · exact .inr ⟨_, _, _, List.mem_singleton.mp h⟩
    · exact absurd h List.not_mem_nil
  · exact absurd h List.not_mem_nil

theorem mem_eventSignals {ch : Fin 30} {now : PartTime} {o o' : OutputChannel} {c : Instr}
    (h : c ∈ eventSignals ch now o o') :
    (c = .topChange ch ∧ o'.top ≠ o.top) ∨ c ∈ returnSignal ch o o' ∨ c = .outputChange ch := by
  rw [eventSignals_eq, List.mem_append] at h
  rcases h with h | h
  · split_ifs at h with htop
    · exact absurd h List.not_mem_nil
    · rcases List.mem_cons.mp h with h | h
      · exact .inl ⟨h, htop⟩
      · exact .inr (.inl h)
  · split_ifs at h
    · exact .inr (.inr (List.mem_singleton.mp h))
    · exact absurd h List.not_mem_nil

theorem topChange_mem_eventSignals (ch : Fin 30) (now : PartTime) (o o' : OutputChannel) :
    .topChange ch ∈ eventSignals ch now o o' ↔ o'.top ≠ o.top := by
  constructor
  · intro h
    rcases mem_eventSignals h with ⟨-, htop⟩ | h | h
    · exact htop
    · rcases mem_returnSignal h with ⟨_, _, _, h⟩ | ⟨_, _, _, h⟩ <;> exact nomatch h
    · exact nomatch h
  · intro h
    rw [eventSignals_eq, if_neg h]
    simp

theorem purgeClaimSignal_not_mem_eventSignals (ch : Fin 30) (now : PartTime) (o o' : OutputChannel) (h : Fin 2) :
    .purgeClaimSignal h ∉ eventSignals ch now o o' := by
  intro hmem
  rcases mem_eventSignals hmem with ⟨hc, -⟩ | hc | hc
  · exact nomatch hc
  · rcases mem_returnSignal hc with ⟨_, _, _, hc⟩ | ⟨_, _, _, hc⟩ <;> exact nomatch hc
  · exact nomatch hc

/-! ## An event closed at its channel -/

/-- An event that leaves binding and movement to its close closes as the statements say. -/
theorem closedAt_closeEvent (s : State) (ch : Fin 30) (o' : OutputChannel) (extra : List Instr)
    (hslew : o'.binding.slew = (s.outputs.get ch).binding.slew)
    (hvalue : o'.originValue = (s.outputs.get ch).originValue) (htime : o'.originTime = (s.outputs.get ch).originTime)
    (htimer : o'.moveTimer = (s.outputs.get ch).moveTimer) :
    ClosedAt s ch (closeEvent ch s.now (s.lastSent ch) false (s.outputs.get ch) o') o'.returnHold extra
      (extra ++ eventSignals ch s.now (s.outputs.get ch)
        (closeEvent ch s.now (s.lastSent ch) false (s.outputs.get ch) o')) := by
  have htop := closeEvent_top ch s.now (s.lastSent ch) false (s.outputs.get ch) o'
  have hhold := closeEvent_returnHold ch s.now (s.lastSent ch) false (s.outputs.get ch) o'
  have hjumps : Jumps (closeEvent ch s.now (s.lastSent ch) false (s.outputs.get ch) o') ↔ o'.jumps = true := by
    rw [← jumps_iff, closeEvent_jumps]
  refine ⟨fun htarget htop' => ?_, fun hchange => ?_, fun habove => ?_, fun hfallen hbefore hheat => ?_,
    fun hschedule hbefore => ?_, ?_⟩
  · obtain ⟨hv, ht, hm⟩ := closeEvent_of_not_retargets (ch := ch) (now := s.now) (ls := s.lastSent ch) (again := false)
      (o := s.outputs.get ch) (o' := o') (by
        rintro (h | h | h)
        · exact h htarget
        · exact h (htop.symm.trans htop')
        · exact h hslew)
    exact ⟨hv.trans hvalue, ht.trans htime, hm.trans htimer⟩
  · obtain ⟨ht, hv, hm⟩ := closeEvent_of_retargets (ch := ch) (now := s.now) (ls := s.lastSent ch) (again := false)
      (o := s.outputs.get ch) (o' := o') (hchange.imp id fun h => .inl (by rwa [htop] at h))
    refine ⟨ht, fun hjump => hv.trans (if_pos (hjumps.mp hjump)), fun hjump => hv.trans (if_neg fun h => ?_), hm⟩
    exact hjump (hjumps.mpr h)
  · rw [hhold]
    exact holdAfter_above (by rwa [htop] at habove)
  · rw [hhold]
    exact holdAfter_fallen (htop.symm.trans hfallen) hbefore ((isSome_heatZone_iff ch).mpr hheat)
  · rw [hhold]
    refine holdAfter_stands (htop.symm.trans hschedule) (hbefore.imp_right fun h => ?_)
    rwa [isSome_heatZone_iff]
  · rw [eventSignals_eq, returnSignal_eq, List.append_assoc] <;> rfl

/-- The state after an event at a channel: its close, and what it sends. -/
theorem endEvent_eq (s : State) (ch : Fin 30) (again : Bool) (o' : OutputChannel) (cs : List Instr) :
    s.endEvent ch again o' cs =
      sending { s with outputs := s.outputs.set ch (closeEvent ch s.now (s.lastSent ch) again (s.outputs.get ch) o') }
        (cs ++ eventSignals ch s.now (s.outputs.get ch)
          (closeEvent ch s.now (s.lastSent ch) again (s.outputs.get ch) o')) := rfl

/-! ## Channels taken in turn -/

theorem putOutput_get (s : State) (ch : Fin 30) : s.putOutput ch (s.outputs.get ch) [] = s := by
  simp only [State.putOutput, tab_set_get, List.append_nil]

/-- A change of one channel at a time: what it makes of a channel and what it sends is not changed by the others. -/
structure Local (new : Fin 30 → State → OutputChannel) (sent : Fin 30 → State → List Instr) : Prop where
  new_eq : ∀ ch k s o cs, ch ≠ k → new ch (s.putOutput k o cs) = new ch s
  sent_eq : ∀ ch k s o cs, ch ≠ k → sent ch (s.putOutput k o cs) = sent ch s

/-- Channels changed one after the other: each is as if changed alone, and the signals stand in their order. -/
theorem foldl_putOutput {new : Fin 30 → State → OutputChannel} {sent : Fin 30 → State → List Instr} (hlocal : Local new sent)
    (chs : List (Fin 30)) (hnodup : chs.Nodup) (s : State) :
    ∃ outs : Tab OutputChannel 30,
      chs.foldl (fun s ch => s.putOutput ch (new ch s) (sent ch s)) s =
        sending { s with outputs := outs } (chs.flatMap fun ch => sent ch s) ∧
      (∀ ch ∈ chs, outs.get ch = new ch s) ∧ ∀ ch ∉ chs, outs.get ch = s.outputs.get ch := by
  induction chs generalizing s with
  | nil =>
    refine ⟨s.outputs, ?_, by simp, by simp⟩
    simp [sending]
  | cons k rest ih =>
    obtain ⟨hk, hrest⟩ := List.nodup_cons.mp hnodup
    obtain ⟨outs, hfold, hin, hout⟩ := ih hrest (s.putOutput k (new k s) (sent k s))
    have hne : ∀ ch ∈ rest, ch ≠ k := fun ch hch heq => hk (heq ▸ hch)
    have hsent : (rest.flatMap fun ch => sent ch (s.putOutput k (new k s) (sent k s))) =
        rest.flatMap fun ch => sent ch s :=
      List.flatMap_congr fun ch hch => hlocal.sent_eq ch k s _ _ (hne ch hch)
    refine ⟨outs, ?_, fun ch hch => ?_, fun ch hch => ?_⟩
    · rw [List.foldl_cons, hfold, hsent, List.flatMap_cons]
      simp [sending, State.putOutput]
    · rcases List.mem_cons.mp hch with rfl | hch
      · rw [hout ch hk, putOutput_outputs, tab_get_set_same]
      · rw [hin ch hch, hlocal.new_eq ch k s _ _ (hne ch hch)]
    · have hboth : ch ≠ k ∧ ch ∉ rest := ⟨List.ne_of_not_mem_cons hch, List.not_mem_of_not_mem_cons hch⟩
      rw [hout ch hboth.2, putOutput_outputs, tab_get_set_other _ _ hboth.1]

theorem housingChannels_nodup (h : Fin 2) : (housingChannels h).Nodup := by
  revert h
  decide

theorem breakChannels_nodup (w : Fin 4) : (breakChannels w).Nodup := by
  revert w
  decide

end Sys2Proof.ChannelProofs

/-! # Output Authority: claims, releases, dwells, schedules, activity and the operator (R132 to R145)

Each event of the chapter as one change of a channel, closed at it. -/

namespace Sys2Proof.AuthorityProofs

open Sys2Proof.Machine Sys2Proof.Statements Sys2Proof.Laws Sys2Proof.WriteProofs Sys2Proof.SubscriptionProofs
open Sys2Proof.ChannelProofs

/-- The channel `ch` of `s` after an event that turned it into `o'`. -/
def closed (s : State) (ch : Fin 30) (o' : OutputChannel) : OutputChannel :=
  closeEvent ch s.now (s.lastSent ch) false (s.outputs.get ch) o'

/-- What that event sends of itself. -/
def closing (s : State) (ch : Fin 30) (o' : OutputChannel) : List Instr :=
  eventSignals ch s.now (s.outputs.get ch) (closed s ch o')

/-- The state after that event. -/
theorem endEvent_closed (s : State) (ch : Fin 30) (o' : OutputChannel) (cs : List Instr) :
    s.endEvent ch false o' cs =
      sending { s with outputs := s.outputs.set ch (closed s ch o') } (cs ++ closing s ch o') := rfl

theorem closed_top (s : State) (ch : Fin 30) (o' : OutputChannel) : (closed s ch o').top = o'.top :=
  closeEvent_top ..

theorem passed_lastSent (s : State) (ch : Fin 30) : (passed s).lastSent ch = s.lastSent ch := by
  rw [State.lastSent, State.lastSent, passed_emission]

theorem closed_passed (s : State) (ch : Fin 30) (o' : OutputChannel) : closed (passed s) ch o' = closed s ch o' := by
  rw [closed, closed, passed_now, passed_lastSent, passed_outputs]

theorem closing_passed (s : State) (ch : Fin 30) (o' : OutputChannel) : closing (passed s) ch o' = closing s ch o' := by
  rw [closing, closing, passed_now, closed_passed, passed_outputs]

/-- The event changes no more of the channel than its stack, schedule, hold, activity, dwell and protection. -/
structure MovementKept (o o' : OutputChannel) : Prop where
  binding : o'.binding = o.binding
  originValue : o'.originValue = o.originValue
  originTime : o'.originTime = o.originTime
  moveTimer : o'.moveTimer = o.moveTimer

theorem closedAt_closed {s : State} {ch : Fin 30} {o' : OutputChannel} (h : MovementKept (s.outputs.get ch) o')
    (extra : List Instr) : ClosedAt s ch (closed s ch o') o'.returnHold extra (extra ++ closing s ch o') :=
  closedAt_closeEvent s ch o' extra (congrArg Binding.slew h.binding) h.originValue h.originTime h.moveTimer

/-- An event that sends nothing of its own and leaves the return hold to its close. -/
theorem closedAt_closing {s : State} {ch : Fin 30} {o' : OutputChannel} {held : Option Nat}
    (h : MovementKept (s.outputs.get ch) o') (hheld : o'.returnHold = held) :
    ClosedAt s ch (closed s ch o') held [] (closing s ch o') := hheld ▸ closedAt_closed h []

/-- The top changed is among what an event sends when its own signals do not say so. -/
theorem topChange_mem_iff {extra : List Instr} {s : State} {ch : Fin 30} {o' : OutputChannel}
    (h : .topChange ch ∉ extra) : .topChange ch ∈ extra ++ closing s ch o' ↔ (closed s ch o').top ≠ (s.outputs.get ch).top := by
  rw [List.mem_append, or_iff_right h, closing, topChange_mem_eventSignals]

/-! ## Claims (R136) -/

/-- The channel as a claim turns it. -/
def claimed (s : State) (ch : Fin 30) (party : Party) (values : Lanes) : OutputChannel :=
  { s.outputs.get ch with
    entries := (s.outputs.get ch).entries.set (partyIx party)
      (some (claimedEntry ch s.now (s.outputs.get ch) party values))
    dwell := claimedDwell ch party (s.outputs.get ch) s }

theorem takeClaim_eq (s : State) (ch : Fin 30) (party : Party) (values : Lanes) :
    takeClaim ch party values s =
      sending { s with outputs := s.outputs.set ch (closed s ch (claimed s ch party values)) }
        (claimSignals ch party ++ closing s ch (claimed s ch party values)) := rfl

theorem claimedEntry_new {ch : Fin 30} {now : PartTime} {o : OutputChannel} {party : Party} {values : Lanes}
    (h : o.entries.get (partyIx party) = none) : claimedEntry ch now o party values =
      ⟨partyBit party, (entryValue ch now o party values).1, (entryValue ch now o party values).2, now, false⟩ := by
  simp only [claimedEntry, h]

theorem claimedEntry_joined {ch : Fin 30} {now : PartTime} {o : OutputChannel} {party : Party} {values : Lanes} {e : Entry}
    (h : o.entries.get (partyIx party) = some e) : claimedEntry ch now o party values =
      { e with holders := e.holders ||| partyBit party, claimTime := now, releasePending := false,
               value := if party = .operator then (entryValue ch now o party values).2 else e.value } := by
  simp only [claimedEntry, h]

/-- Which claims are BREAK or TRIP claims on a housing channel. -/
theorem claimSignals_eq (ch : Fin 30) (party : Party) :
    claimSignals ch party = if (partyLevel party = .brk ∨ partyLevel party = .trip) ∧ ch.val < 18 then
      [.purgeClaimSignal (channelHousing ch)] else [] := by
  simp only [claimSignals, isProtective, isHousingChannel, Bool.and_eq_true, Bool.or_eq_true, decide_eq_true_eq]

theorem topChange_not_mem_claimSignals (ch : Fin 30) (party : Party) : .topChange ch ∉ claimSignals ch party := by
  rw [claimSignals_eq]
  split_ifs <;> simp

theorem purgeClaim_mem_iff (s : State) (ch : Fin 30) (party : Party) (o' : OutputChannel) :
    .purgeClaimSignal (channelHousing ch) ∈ claimSignals ch party ++ closing s ch o' ↔
      (partyLevel party = .brk ∨ partyLevel party = .trip) ∧ ch.val < 18 := by
  rw [List.mem_append, closing, or_iff_left (purgeClaimSignal_not_mem_eventSignals ch _ _ _ _), claimSignals_eq]
  split_ifs with h <;> simp [h]

theorem isWebParty_iff (party : Party) : isWebParty party = true ↔ ∃ w, party = .web w := by
  cases party <;> simp [isWebParty]

theorem claimedDwell_started {s : State} {ch : Fin 30} {party : Party} (o : OutputChannel)
    (h : (∃ w, party = .web w) ∧ 18 ≤ ch.val) : claimedDwell ch party o s =
      some (s.now + BitVec.ofNat 32 ((s.housing (channelHousing ch)).purgeDwell * 1000)) := by
  obtain ⟨hweb, hch⟩ := h
  have hout : isHousingChannel ch = false := decide_eq_false (by omega)
  rw [claimedDwell, (isWebParty_iff party).mpr hweb, hout]
  rfl

theorem claimedDwell_stands {s : State} {ch : Fin 30} {party : Party} (o : OutputChannel)
    (h : ¬ ((∃ w, party = .web w) ∧ 18 ≤ ch.val)) : claimedDwell ch party o s = o.dwell := by
  rw [claimedDwell, if_neg]
  rw [Bool.and_eq_true, isWebParty_iff, Bool.not_eq_true']
  exact fun ⟨hweb, hout⟩ => h ⟨hweb, Nat.le_of_not_lt (of_decide_eq_false hout)⟩

theorem claimed_movementKept (s : State) (ch : Fin 30) (party : Party) (values : Lanes) :
    MovementKept (s.outputs.get ch) (claimed s ch party values) := ⟨rfl, rfl, rfl, rfl⟩

/-! ## Releases (R137) -/

/-- The channel as a release turns it, when its entry is `e`. -/
def released (s : State) (ch : Fin 30) (party : Party) (e : Entry) : OutputChannel :=
  { s.outputs.get ch with
    entries := (s.outputs.get ch).entries.set (partyIx party) (releasedEntry ch party s e) }

theorem released_movementKept (s : State) (ch : Fin 30) (party : Party) (e : Entry) :
    MovementKept (s.outputs.get ch) (released s ch party e) := ⟨rfl, rfl, rfl, rfl⟩

theorem takeRelease_absent {s : State} {ch : Fin 30} {party : Party}
    (h : (s.outputs.get ch).entries.get (partyIx party) = none ∨
      ∀ e, (s.outputs.get ch).entries.get (partyIx party) = some e → e.holders &&& partyBit party = 0) :
    takeRelease ch party s = s := by
  unfold takeRelease
  cases he : (s.outputs.get ch).entries.get (partyIx party) with
  | none => simp only [he]
  | some e =>
    simp only [he]
    exact if_pos ((h.resolve_left (by simp [he])) e he)

theorem takeRelease_present {s : State} {ch : Fin 30} {party : Party} {e : Entry}
    (he : (s.outputs.get ch).entries.get (partyIx party) = some e) (hholds : e.holders &&& partyBit party ≠ 0) :
    takeRelease ch party s =
      sending { s with outputs := s.outputs.set ch (closed s ch (released s ch party e)) }
        ([] ++ closing s ch (released s ch party e)) := by
  unfold takeRelease
  simp only [he]
  exact if_neg hholds

/-- The dwell of the channel's BREAK and TRIP entries has ended. -/
def DwellEnded (s : State) (ch : Fin 30) : Prop :=
  if ch.val < 18 then (s.monitors.get (channelHousing ch)).purge = none else (s.outputs.get ch).dwell = none

theorem dwellOver_iff (s : State) (ch : Fin 30) : dwellOver ch s = true ↔ DwellEnded s ch := by
  unfold dwellOver DwellEnded isHousingChannel
  by_cases h : ch.val < 18
  · rw [if_pos (decide_eq_true h), if_pos h, Option.isNone_iff_eq_none]
  · rw [if_neg (by simpa using h), if_neg h, Option.isNone_iff_eq_none]

theorem isProtective_iff (party : Party) :
    isProtective party = true ↔ partyLevel party = .brk ∨ partyLevel party = .trip := by
  simp [isProtective]

theorem releasedEntry_held {s : State} {ch : Fin 30} {party : Party} {e : Entry}
    (h : e.holders &&& ~~~ partyBit party ≠ 0) :
    releasedEntry ch party s e = some { e with holders := e.holders &&& ~~~ partyBit party } := if_pos h

theorem releasedEntry_gone {s : State} {ch : Fin 30} {party : Party} {e : Entry}
    (h : e.holders &&& ~~~ partyBit party = 0)
    (hgone : ¬ (partyLevel party = .brk ∨ partyLevel party = .trip) ∨ DwellEnded s ch) :
    releasedEntry ch party s e = none := by
  rw [releasedEntry, if_neg (not_not_intro h), if_neg]
  rw [Bool.and_eq_true, isProtective_iff, Bool.not_eq_true', ← Bool.not_eq_true, dwellOver_iff]
  exact fun ⟨hprotective, hruns⟩ => hgone.elim (· hprotective) hruns

theorem releasedEntry_pending {s : State} {ch : Fin 30} {party : Party} {e : Entry}
    (h : e.holders &&& ~~~ partyBit party = 0) (hprotective : partyLevel party = .brk ∨ partyLevel party = .trip)
    (hruns : ¬ DwellEnded s ch) :
    releasedEntry ch party s e = some { e with holders := 0, releasePending := true } := by
  rw [releasedEntry, if_neg (not_not_intro h), if_pos]
  rw [Bool.and_eq_true, isProtective_iff, Bool.not_eq_true', ← Bool.not_eq_true, dwellOver_iff]
  exact ⟨hprotective, hruns⟩

theorem entryValue_operator (ch : Fin 30) (now : PartTime) (o : OutputChannel) (values : Lanes) :
    entryValue ch now o .operator values = (.stored, fitLanes (laneCount ch) values) := rfl

/-- Settles O46: a claim and a release change one entry of their channel and close as an event. -/
theorem claimsAndReleases : Obligations.ClaimsAndReleases := by
  intro ch party values s hreleased o i protective made ended dwellMs
  have hmade : entryValue ch s.now o party values = made := by
    cases party with
    | operator => rfl
    | lel => rfl
    | web w => rfl
    | cause c => rfl
  have hother : ∀ (x : Option Entry) (k : Fin 4), k ≠ i → (o.entries.set i x).get k = o.entries.get k :=
    fun x k hk => tab_get_set_other o.entries x hk
  refine ⟨⟨closed s ch (claimed s ch party values), claimSignals ch party ++ closing s ch (claimed s ch party values),
      ?_, fun hnew => ?_, fun e he => ?_, fun k hk => ?_, fun hweb => ?_, fun hweb => ?_, closeEvent_schedule .., closeEvent_binding ..,
      closeEvent_active .., closeEvent_protection .., purgeClaim_mem_iff s ch party _,
      topChange_mem_iff (topChange_not_mem_claimSignals ch party), ?_⟩, fun habsent => ?_, fun e he hholds => ?_⟩
  · exact event_next _ s hreleased
  · rw [closed, closeEvent_entries, claimed, tab_get_set_same, claimedEntry_new hnew, hmade]
  · rw [closed, closeEvent_entries, claimed, tab_get_set_same, claimedEntry_joined he, hmade]
  · rw [closed, closeEvent_entries]
    exact hother _ k hk
  · rw [closed, closeEvent_dwell]
    exact claimedDwell_started o hweb
  · rw [closed, closeEvent_dwell]
    exact claimedDwell_stands o hweb
  · rw [← claimSignals_eq]
    exact closedAt_closed (claimed_movementKept s ch party values) _
  · exact (event_next _ s hreleased).trans (congrArg _ (takeRelease_absent habsent))
  · refine ⟨closed s ch (released s ch party e), [] ++ closing s ch (released s ch party e), ?_, fun hleft => ?_,
      fun hleft hgone => ?_, fun hleft hprotective hruns => ?_, fun k hk => ?_, closeEvent_schedule .., closeEvent_binding ..,
      closeEvent_active .., closeEvent_protection .., closeEvent_dwell .., topChange_mem_iff List.not_mem_nil,
      closedAt_closed (released_movementKept s ch party e) []⟩
    · exact (event_next _ s hreleased).trans (congrArg _ (takeRelease_present he hholds))
    · rw [closed, closeEvent_entries, released, tab_get_set_same, releasedEntry_held hleft]
    · rw [closed, closeEvent_entries, released, tab_get_set_same, releasedEntry_gone hleft hgone]
    · rw [closed, closeEvent_entries, released, tab_get_set_same, releasedEntry_pending hleft hprotective hruns]
    · rw [closed, closeEvent_entries]
      exact hother _ k hk

/-! ## Events closed (R140, R142) -/

theorem heat_iff (ch : Fin 30) : (∃ h z, outRole ch = .heat h z) ↔ (heatZone ch).isSome = true := by
  unfold heatZone
  cases outRole ch <;> simp

theorem returnSignal_fallen {ch : Fin 30} {h : Fin 2} {z : Fin 4} (hrole : outRole ch = .heat h z) {o o' : OutputChannel}
    (htop : o'.top = .schedule) (hbefore : o.top ≠ .schedule) :
    returnSignal ch o o' =
      if o.top = .operator then [.operatorReturn h z (o.target.headD 0)] else [.protectiveReturn h z o.top] := by
  rw [returnSignal_eq]
  simp only [hrole, htop, hbefore, ne_eq, not_true_eq_false, or_self, if_false]

theorem mem_eventSignals_of_mem_return {ch : Fin 30} {now : PartTime} {o o' : OutputChannel} {c : Instr}
    (htop : o'.top ≠ o.top) (h : c ∈ returnSignal ch o o') : c ∈ eventSignals ch now o o' := by
  rw [eventSignals_eq, if_neg htop]
  exact List.mem_append_left _ (List.mem_cons_of_mem _ h)

theorem outputChange_mem_eventSignals {ch : Fin 30} {now : PartTime} {o o' : OutputChannel} (hjump : Jumps o')
    (hmoves : o'.target ≠ o.output now) : .outputChange ch ∈ eventSignals ch now o o' := by
  rw [eventSignals_eq]
  refine List.mem_append_right _ ?_
  rw [if_pos ⟨hjump, hmoves⟩]
  exact List.mem_singleton_self _

/-- Settles O47: what closing an event makes of the channel, field by field, and what it sends. -/
theorem eventsCloseAtTheChannel : Obligations.EventsCloseAtTheChannel := by
  intro s ch o' o t c heat hslew
  have hc : c = closed s ch o' := tab_get_set_same _ _ _
  have hsignals : ∀ x, x ∈ eventSignals ch s.now o c → x ∈ t.signals := fun x hx =>
    List.mem_append_right _ (by rw [hc] at hx; exact hx)
  have htop : c.top = o'.top := hc ▸ closed_top s ch o'
  have hbinding : c.binding = o'.binding := hc ▸ closeEvent_binding ..
  have hhold : c.returnHold = holdAfter ch s.now o o' := hc ▸ closeEvent_returnHold ..
  have hjumps : Jumps c ↔ o'.jumps = true := by
    rw [← jumps_iff, jumps_congr htop (congrArg _ hbinding)]
  refine ⟨hc ▸ closeEvent_entries .., hc ▸ closeEvent_schedule .., htop, fun htarget hsame => ?_, fun hchange => ?_,
    fun habove => ?_, fun hheat hfallen hbefore => ?_, fun hschedule hbefore => ?_, fun h z hrole hfallen hop => ?_,
    fun h z hrole hfallen hprotective => ?_, fun hchanged => ?_, fun hjump hmoves => ?_⟩
  · obtain ⟨hv, ht, -⟩ := closeEvent_of_not_retargets (ch := ch) (now := s.now) (ls := s.lastSent ch) (again := false)
      (o := o) (o' := o') (by
        rintro (h | h | h)
        · exact h ((congrArg _ hc).symm.trans htarget)
        · exact h (htop.symm.trans hsame)
        · exact h hslew)
    exact ⟨hc ▸ hv, hc ▸ ht⟩
  · obtain ⟨ht, hv, -⟩ := closeEvent_of_retargets (ch := ch) (now := s.now) (ls := s.lastSent ch) (again := false)
      (o := o) (o' := o') (hchange.imp (fun h heq => h ((congrArg _ hc).trans heq)) fun h => .inl (by rwa [htop] at h))
    refine ⟨hc ▸ ht, ?_⟩
    have hv' : c.originValue = if o'.jumps then c.target else o.output s.now := by
      rw [hc]
      exact hv
    rw [hv']
    exact if_congr hjumps.symm rfl rfl
  · rw [hhold]
    exact holdAfter_above habove
  · rw [hhold]
    exact holdAfter_fallen hfallen hbefore ((heat_iff ch).mp hheat)
  · rw [hhold]
    exact holdAfter_stands hschedule (hbefore.imp_right fun h => mt (heat_iff ch).mpr h)
  · refine hsignals _ (mem_eventSignals_of_mem_return (by simp [hfallen, hop]) ?_)
    rw [returnSignal_fallen hrole hfallen (by simp [hop]), if_pos hop]
    exact List.mem_singleton.mpr rfl
  · have hbefore : o.top ≠ .schedule ∧ o.top ≠ .operator := by
      rcases hprotective with h | h | h <;> simp [h]
    refine hsignals _ (mem_eventSignals_of_mem_return (fun h => hbefore.1 (h.symm.trans hfallen)) ?_)
    rw [returnSignal_fallen hrole hfallen hbefore.1, if_neg hbefore.2]
    exact List.mem_singleton.mpr rfl
  · exact hsignals _ ((topChange_mem_eventSignals ..).mpr hchanged)
  · exact hsignals _ (outputChange_mem_eventSignals hjump hmoves)

/-! ## Dwell ends (R138) and the movement timer (R141) -/

/-- The channel with its release-pending BREAK and TRIP entries gone. -/
def dwelt (o : OutputChannel) : OutputChannel :=
  { o with entries := (o.entries.set 2 (dwellEnded (o.entries.get 2))).set 3 (dwellEnded (o.entries.get 3)) }

theorem endDwell_eq (ch : Fin 30) (s : State) :
    endDwell ch s = s.putOutput ch (closed s ch (dwelt (s.outputs.get ch))) (closing s ch (dwelt (s.outputs.get ch))) := by
  rfl

theorem closed_putOutput {s : State} {ch k : Fin 30} (hne : ch ≠ k) (o : OutputChannel) (cs : List Instr) (o' : OutputChannel) :
    closed (s.putOutput k o cs) ch o' = closed s ch o' ∧ closing (s.putOutput k o cs) ch o' = closing s ch o' := by
  have hget : (s.putOutput k o cs).outputs.get ch = s.outputs.get ch := by
    rw [putOutput_outputs, tab_get_set_other _ _ hne]
  have hclosed : closed (s.putOutput k o cs) ch o' = closed s ch o' := by
    rw [closed, hget]
    rfl
  exact ⟨hclosed, by rw [closing, hclosed, hget]; rfl⟩

theorem dwell_local : Local (fun ch s => closed s ch (dwelt (s.outputs.get ch)))
    (fun ch s => closing s ch (dwelt (s.outputs.get ch))) := by
  constructor <;> intro ch k s o cs hne
  all_goals
    rw [putOutput_outputs, tab_get_set_other _ _ hne]
  · exact (closed_putOutput hne o cs _).1
  · exact (closed_putOutput hne o cs _).2

theorem dwelt_entries (o : OutputChannel) (i : Fin 4) :
    (i = 0 ∨ i = 1 → (dwelt o).entries.get i = o.entries.get i) ∧
      (i = 2 ∨ i = 3 → (dwelt o).entries.get i = (o.entries.get i).filter fun e => !e.releasePending) := by
  unfold dwelt
  simp only [tab_get_set]
  fin_cases i <;> simp [dwellEnded]

theorem execDwellEnd_eq (h : Fin 2) (s : State) (hreleased : Released s) : exec (.dwellEnd h) s =
    .next (if (s.monitors.get h).purge.isNone then
      (housingChannels h).foldl (fun s ch => s.putOutput ch (closed s ch (dwelt (s.outputs.get ch)))
        (closing s ch (dwelt (s.outputs.get ch)))) s
      else s) := by
  rw [exec, execDwellEnd, event_next _ s hreleased]
  simp only [endDwell_eq]

/-- The channel with its dwell timer stopped and its release-pending BREAK entry gone. -/
def dwellTimedOut (o : OutputChannel) : OutputChannel :=
  { o with dwell := none, entries := o.entries.set 2 (dwellEnded (o.entries.get 2)) }

theorem execDwellTimerExpiry_eq (ch : Fin 30) (s : State) (hreleased : Released s) : exec (.dwellTimerExpiry ch) s =
    .next (if timerDue s.now (s.outputs.get ch).dwell then
      s.endEvent ch false (dwellTimedOut (s.outputs.get ch)) [] else s) := event_next _ s hreleased

theorem execMovementTimerExpiry_eq (ch : Fin 30) (s : State) (hreleased : Released s) :
    exec (.movementTimerExpiry ch) s =
      .next (if timerDue s.now (s.outputs.get ch).moveTimer then
        s.putOutput ch { s.outputs.get ch with moveTimer := none } [.outputChange ch] else s) :=
  event_next _ s hreleased

theorem timerDue_some {now : PartTime} {timer : Option PartTime} {t : PartTime} (ht : timer = some t)
    (hdue : (now - t).toNat < 2 ^ 31) : timerDue now timer = true :=
  (MachineProofs.timerDue_iff now timer).mpr ⟨t, ht, hdue⟩

/-- A timer stopped or not yet due. -/
theorem not_timerDue {now : PartTime} {timer : Option PartTime}
    (h : ∀ t, timer = some t → 2 ^ 31 ≤ (now - t).toNat) : ¬ timerDue now timer = true := by
  rw [MachineProofs.timerDue_iff]
  rintro ⟨t, ht, hdue⟩
  exact absurd hdue (Nat.not_lt.mpr (h t ht))

/-- Settles O48: the nine channels of a housing one after the other; one channel at its own timers. -/
theorem dwellsAndMovementEnd : Obligations.DwellsAndMovementEnd := by
  refine ⟨fun h s hreleased => ⟨fun hruns => ?_, fun hstopped => ?_⟩,
    fun ch s hreleased => ⟨fun t ht hdue => ?_, fun hearly => ?_, fun t ht hdue => ?_, fun hearly => ?_⟩⟩
  · rw [Runs, execDwellEnd_eq h s hreleased, if_neg (by simpa using hruns)]
  · obtain ⟨outs, hfold, hin, hout⟩ := foldl_putOutput dwell_local (housingChannels h) (housingChannels_nodup h) s
    refine ⟨outs, fun ch => closing s ch (dwelt (s.outputs.get ch)), ?_, hout, fun ch hch i => ?_, fun ch hch => ?_⟩
    · rw [Runs, execDwellEnd_eq h s hreleased, if_pos (by simp [hstopped]), hfold]
    · rw [hin ch hch, closed, closeEvent_entries]
      exact dwelt_entries _ i
    · rw [hin ch hch]
      exact ⟨closeEvent_schedule .., closeEvent_binding .., closeEvent_active .., closeEvent_protection ..,
        closeEvent_dwell .., closedAt_closing (held := (s.outputs.get ch).returnHold) ⟨rfl, rfl, rfl, rfl⟩ rfl⟩
  · refine ⟨closed s ch (dwellTimedOut (s.outputs.get ch)), closing s ch (dwellTimedOut (s.outputs.get ch)), ?_,
      closeEvent_dwell .., ?_, fun k hk => ?_, closeEvent_schedule .., closeEvent_binding .., closeEvent_active ..,
      closeEvent_protection .., closedAt_closing (held := (s.outputs.get ch).returnHold) ⟨rfl, rfl, rfl, rfl⟩ rfl⟩
    · rw [Runs, execDwellTimerExpiry_eq ch s hreleased, if_pos (timerDue_some ht hdue)]
      rfl
    · rw [closed, closeEvent_entries, dwellTimedOut, tab_get_set_same]
      rfl
    · rw [closed, closeEvent_entries, dwellTimedOut, tab_get_set_other _ _ hk]
  · rw [Runs, execDwellTimerExpiry_eq ch s hreleased, if_neg (not_timerDue hearly)]
  · rw [Runs, execMovementTimerExpiry_eq ch s hreleased, if_pos (timerDue_some ht hdue)]
    rfl
  · rw [Runs, execMovementTimerExpiry_eq ch s hreleased, if_neg (not_timerDue hearly)]

/-! ## SCHEDULE values and activity (R133, R143) -/

theorem fitLanes_of_fits {k : Nat} {vs : Lanes} (hlen : vs.length = k) (hle : ∀ v ∈ vs, v ≤ 10000) : fitLanes k vs = vs := by
  refine List.ext_getElem (by simp [fitLanes, hlen]) fun i hi hi' => ?_
  have hv := hle _ (List.getElem_mem hi')
  simp only [fitLanes, List.getElem_map, List.getElem_range, List.getD_eq_getElem _ _ hi', Config.outputMax]
  omega

/-- The channel as a SCHEDULE value turns it. -/
def scheduled (o : OutputChannel) (vs : Lanes) : OutputChannel := { o with schedule := vs, returnHold := none }

theorem execScheduleValue_eq (ch : Fin 30) (s : State) (hreleased : Released s) {vs : Lanes} (hlen : vs.length = laneCount ch)
    (hle : ∀ v ∈ vs, v ≤ 10000) :
    exec (.scheduleValue ch vs) s = .next (s.endEvent ch false (scheduled (s.outputs.get ch) vs) []) := by
  refine (event_next _ s hreleased).trans ?_
  rw [takeSchedule, fitLanes_of_fits hlen hle]
  rfl

/-- A SCHEDULE value leaves no return hold. -/
theorem holdAfter_scheduled (ch : Fin 30) (now : PartTime) (o : OutputChannel) (vs : Lanes) :
    holdAfter ch now o (scheduled o vs) = none := by
  have htop : (scheduled o vs).top = o.top := top_congr rfl
  by_cases h : o.top = .schedule
  · exact holdAfter_stands (htop.trans h) (.inl h)
  · exact holdAfter_above (by rwa [htop])

/-- The channel with its activity judged anew. -/
def rejudged (ch : Fin 30) (s : State) : OutputChannel :=
  if judgedActive s ch (s.outputs.get ch).binding = (s.outputs.get ch).active then s.outputs.get ch
  else { s.outputs.get ch with active := judgedActive s ch (s.outputs.get ch).binding }.retimed s.now (s.lastSent ch)

/-- The signal of its change of activity. -/
def rejudging (ch : Fin 30) (s : State) : List Instr :=
  activitySignals ch (s.outputs.get ch).active (judgedActive s ch (s.outputs.get ch).binding)

theorem rejudge_eq (ch : Fin 30) (s : State) : rejudge ch s = s.putOutput ch (rejudged ch s) (rejudging ch s) := by
  unfold rejudge rejudged rejudging
  by_cases h : judgedActive s ch (s.outputs.get ch).binding = (s.outputs.get ch).active
  · have hnone : ∀ a : Bool, activitySignals ch a a = [] := fun a => by cases a <;> rfl
    simp only [h, if_true, hnone, putOutput_get]
  · simp only [h, if_false]

theorem rejudge_local : Local rejudged rejudging := by
  constructor <;> intro ch k s o cs hne
  · have hget : (s.putOutput k o cs).outputs.get ch = s.outputs.get ch := by
      rw [putOutput_outputs, tab_get_set_other _ _ hne]
    unfold rejudged
    rw [hget]
    rfl
  · have hget : (s.putOutput k o cs).outputs.get ch = s.outputs.get ch := by
      rw [putOutput_outputs, tab_get_set_other _ _ hne]
    unfold rejudging
    rw [hget]
    rfl

theorem rejudged_active (ch : Fin 30) (s : State) :
    (rejudged ch s).active = judgedActive s ch (s.outputs.get ch).binding := by
  unfold rejudged
  split_ifs with h
  · exact h.symm
  · rfl

theorem rejudged_same {ch : Fin 30} {s : State} (h : (rejudged ch s).active = (s.outputs.get ch).active) :
    rejudged ch s = s.outputs.get ch := by
  rw [rejudged_active] at h
  exact if_pos h

theorem rejudged_changed {ch : Fin 30} {s : State} (h : (rejudged ch s).active ≠ (s.outputs.get ch).active) :
    (rejudged ch s).moveTimer = (rejudged ch s).movement s.now (s.lastSent ch) := by
  rw [rejudged_active] at h
  unfold rejudged
  rw [if_neg h]
  rfl

theorem rejudged_shape (ch : Fin 30) (s : State) : rejudged ch s =
    { s.outputs.get ch with active := (rejudged ch s).active, moveTimer := (rejudged ch s).moveTimer } := by
  unfold rejudged
  split_ifs <;> rfl

theorem activitySignals_eq (ch : Fin 30) (old new : Bool) : activitySignals ch old new =
    if new = old then [] else if new = true then [.channelActive ch] else [.channelInactive ch] := by
  cases old <;> cases new <;> rfl

/-- The owner of a channel is live: its housing is lit, its web not IDLE. -/
def Live (s : State) (ch : Fin 30) : Prop :=
  match outRole ch with
  | .heat h _ => s.mode (firstWeb h) ≠ .idle ∨ s.mode (secondWeb h) ≠ .idle
  | .fan h _ => s.mode (firstWeb h) ≠ .idle ∨ s.mode (secondWeb h) ≠ .idle
  | .exh h => s.mode (firstWeb h) ≠ .idle ∨ s.mode (secondWeb h) ≠ .idle
  | .damp v => s.mode v ≠ .idle
  | .chillA v => s.mode v ≠ .idle
  | .chillB v => s.mode v ≠ .idle

theorem ownerLive_iff (s : State) (ch : Fin 30) : ownerLive s ch = true ↔ Live s ch := by
  unfold ownerLive Live
  cases outRole ch <;> simp only [HousingProofs.lit_eq_true_iff, HousingProofs.Lit, decide_eq_true_eq]

theorem judgedActive_iff (s : State) (ch : Fin 30) (b : Binding) :
    judgedActive s ch b = true ↔ b.bound = true ∧ ownerLive s ch = true := by
  rw [judgedActive, Bool.and_eq_true]

theorem execActivitySignal_eq (w : Fin 4) (s : State) (hreleased : Released s) : exec (.activitySignal w) s =
    .next ((breakChannels w).foldl (fun s ch => s.putOutput ch (rejudged ch s) (rejudging ch s)) s) := by
  rw [exec, execActivitySignal, event_next _ s hreleased]
  simp only [rejudge_eq]

/-- A SCHEDULE value's target: the value itself under SCHEDULE, the entry's above. -/
theorem closed_scheduled_target (s : State) (ch : Fin 30) (vs : Lanes) :
    ((s.outputs.get ch).top = .schedule → (closed s ch (scheduled (s.outputs.get ch) vs)).target = vs) ∧
      ((s.outputs.get ch).top ≠ .schedule →
        (closed s ch (scheduled (s.outputs.get ch) vs)).target = (s.outputs.get ch).target) := by
  have htop : (closed s ch (scheduled (s.outputs.get ch) vs)).top = (s.outputs.get ch).top :=
    (closed_top ..).trans (top_congr rfl)
  have hhold : (closed s ch (scheduled (s.outputs.get ch) vs)).returnHold = none :=
    (closeEvent_returnHold ..).trans (holdAfter_scheduled ..)
  have hentries : (closed s ch (scheduled (s.outputs.get ch) vs)).entries = (s.outputs.get ch).entries :=
    closeEvent_entries ..
  refine ⟨fun hschedule => ?_, fun habove => target_of_top_ne hentries (by rwa [htop])⟩
  rw [target_of_top_schedule (htop.trans hschedule), hhold]
  exact closeEvent_schedule ..

/-- SCHEDULE_VALUE, the first half of O49. -/
theorem scheduleValueTaken (ch : Fin 30) (vs : Lanes) (s : State) (hreleased : Released s) (hlen : vs.length = laneCount ch)
    (hle : ∀ v ∈ vs, v ≤ 10000) :
    ∃ o' cs, Runs (.scheduleValue ch vs) s (sending { s with outputs := s.outputs.set ch o' } cs) ∧
      o'.schedule = vs ∧ o'.returnHold = none ∧ o'.entries = (s.outputs.get ch).entries ∧
      o'.binding = (s.outputs.get ch).binding ∧ o'.active = (s.outputs.get ch).active ∧
      o'.dwell = (s.outputs.get ch).dwell ∧ o'.protection = (s.outputs.get ch).protection ∧
      ((s.outputs.get ch).top = .schedule → o'.target = vs) ∧
      ((s.outputs.get ch).top ≠ .schedule → o'.target = (s.outputs.get ch).target) ∧
      (o'.target = (s.outputs.get ch).target →
        o'.originValue = (s.outputs.get ch).originValue ∧ o'.originTime = (s.outputs.get ch).originTime) ∧
      ClosedAt s ch o' none [] cs := by
  obtain ⟨hschedule, habove⟩ := closed_scheduled_target s ch vs
  have hclosedAt : ClosedAt s ch (closed s ch (scheduled (s.outputs.get ch) vs)) none []
      (closing s ch (scheduled (s.outputs.get ch) vs)) := closedAt_closing ⟨rfl, rfl, rfl, rfl⟩ rfl
  have htop : (closed s ch (scheduled (s.outputs.get ch) vs)).top = (s.outputs.get ch).top :=
    (closed_top ..).trans (top_congr rfl)
  refine ⟨closed s ch (scheduled (s.outputs.get ch) vs), closing s ch (scheduled (s.outputs.get ch) vs), ?_,
    closeEvent_schedule .., (closeEvent_returnHold ..).trans (holdAfter_scheduled ..), closeEvent_entries ..,
    closeEvent_binding .., closeEvent_active .., closeEvent_dwell .., closeEvent_protection .., hschedule, habove,
    fun htarget => ?_, hclosedAt⟩
  · rw [Runs, execScheduleValue_eq ch s hreleased hlen hle]
    rfl
  · obtain ⟨hstands, -⟩ := hclosedAt
    obtain ⟨hvalue, htime, -⟩ := hstands htarget htop
    exact ⟨hvalue, htime⟩

/-- Settles O49: a SCHEDULE value closes as an event; the channels a web decides are judged one after the other. -/
theorem scheduleAndActivity : Obligations.ScheduleAndActivity := by
  refine ⟨scheduleValueTaken, fun w s hreleased => ?_⟩
  obtain ⟨outs, hfold, hin, hout⟩ := foldl_putOutput rejudge_local (breakChannels w) (breakChannels_nodup w) s
  refine ⟨outs, (breakChannels w).flatMap fun ch => rejudging ch s, ?_, hout, fun ch hch => ?_, ?_⟩
  · rw [Runs, execActivitySignal_eq w s hreleased, hfold]
  · have hget : outs.get ch = rejudged ch s := hin ch hch
    rw [hget]
    refine ⟨?_, rejudged_shape ch s, fun hsame => ?_, rejudged_changed⟩
    · rw [rejudged_active, judgedActive_iff, ownerLive_iff]
      rfl
    · exact congrArg _ (rejudged_same hsame)
  · refine List.flatMap_congr fun ch hch => ?_
    rw [hin ch hch, rejudged_active, rejudging, activitySignals_eq]

end Sys2Proof.AuthorityProofs

/-! # Operator requests, bindings and the protection table (R132, R135, R144, R145) -/

namespace Sys2Proof.OperatorProofs

open Sys2Proof.Machine Sys2Proof.Statements Sys2Proof.Laws Sys2Proof.WriteProofs Sys2Proof.SubscriptionProofs
open Sys2Proof.ChannelProofs Sys2Proof.AuthorityProofs

/-! ## The state after the slot boundary -/

theorem closedAt_passed {s : State} {ch : Fin 30} {o' : OutputChannel} {held : Option Nat} {extra cs : List Instr} :
    ClosedAt (passed s) ch o' held extra cs ↔ ClosedAt s ch o' held extra cs := by
  unfold ClosedAt
  rw [passed_outputs, passed_now, passed_emission]

theorem claimed_operator_passed (s : State) (ch : Fin 30) (values : Lanes) :
    claimed (passed s) ch .operator values = claimed s ch .operator values := by
  unfold claimed
  rw [passed_outputs, passed_now]
  rfl

/-- A claim of the operator after the slot boundary. -/
theorem takeClaim_passed (s : State) (ch : Fin 30) (values : Lanes) :
    takeClaim ch .operator values (passed s) =
      sending { passed s with outputs := s.outputs.set ch (closed s ch (claimed s ch .operator values)) }
        (closing s ch (claimed s ch .operator values)) := by
  rw [takeClaim_eq, claimed_operator_passed, closed_passed, closing_passed, passed_outputs]
  rfl

/-! ## The values of an OVERRIDE (R144) -/

theorem fitLanes_replicate (k v : Nat) : fitLanes k (List.replicate k (min v 10000)) = List.replicate k (min v 10000) :=
  fitLanes_of_fits List.length_replicate fun x hx => by
    rw [List.eq_of_mem_replicate hx]
    exact Nat.min_le_right _ _

theorem fitLanes_map (k : Nat) {vs : List Nat} (hlen : vs.length = k) :
    fitLanes k (vs.map fun v => min v 10000) = vs.map fun v => min v 10000 := by
  refine fitLanes_of_fits (by rw [List.length_map, hlen]) fun x hx => ?_
  obtain ⟨v, -, rfl⟩ := List.mem_map.mp hx
  exact Nat.min_le_right _ _

theorem overrideLanes_one (k v : Nat) : overrideLanes k [v] = List.replicate k (min v 10000) := rfl

theorem overrideLanes_many (k : Nat) {vs : List Nat} (hlen : vs.length ≠ 1) :
    overrideLanes k vs = vs.map fun v => min v 10000 := by
  match vs with
  | [] => rfl
  | [v] => exact absurd rfl hlen
  | _ :: _ :: _ => rfl

/-- The values that stand in the OPERATOR entry: one value on every lane, or eight values as given. -/
def operatorValues (ch : Fin 30) (vs : List Nat) : Lanes :=
  if vs.length = 1 then List.replicate (laneCount ch) (min (vs.headD 0) 10000) else vs.map fun v => min v 10000

theorem fitLanes_overrideLanes {ch : Fin 30} {vs : List Nat} (hlen : vs.length = 1 ∨ vs.length = 8)
    (hfits : vs.length = 1 ∨ laneCount ch = 8) :
    fitLanes (laneCount ch) (overrideLanes (laneCount ch) vs) = operatorValues ch vs := by
  unfold operatorValues
  by_cases hone : vs.length = 1
  · obtain ⟨v, rfl⟩ := List.length_eq_one_iff.mp hone
    exact fitLanes_replicate _ v
  · rw [if_neg hone, overrideLanes_many _ hone]
    exact fitLanes_map _ ((hlen.resolve_left hone).trans (hfits.resolve_left hone).symm)

/-! ## OVERRIDE and RELEASE -/

theorem ofNat_channel (ch : Fin 30) : (BitVec.ofNat 8 ch.val).toNat = ch.val := by
  rw [BitVec.toNat_ofNat]
  omega

/-- A request to an output channel is answered by the channel's owner on the rest of its arguments. -/
theorem answered_of_channel {f : Fin 30 → List Byte → State → Answer} {mk : Request → Instr} {code : Nat}
    (hexec : ∀ rq s, exec (mk rq) s = request code rq (indexed 30 f) s) {s t : State} (tag : Byte) (ch : Fin 30)
    (rest : List Byte) {st : Status} {clamped : Bool} {data : List Byte} (hs : InService s)
    (howner : f ch rest (passed s) = ⟨st, clamped, data, t⟩) (hnode : t.ring.node = s.ring.node) :
    Answered (mk ⟨tag, BitVec.ofNat 8 ch.val :: rest⟩) s tag (BitVec.ofNat 8 code) st clamped data t := by
  refine answered_of_owner (rq := ⟨tag, BitVec.ofNat 8 ch.val :: rest⟩) (hexec _ s) hs ?_ hnode
  have hindex := ofNat_channel ch
  rw [indexed_cons 30 f _ rest _ (by omega)]
  simp only [hindex, Fin.eta]
  exact howner

theorem overrideChannel_range {ch : Fin 30} {args : List Byte} (s : State)
    (h : (byteAt args 0 ≠ 1 ∧ byteAt args 0 ≠ 8) ∨ args.length < 1 + 2 * byteAt args 0) :
    overrideChannel ch args s = refuse .range s := if_pos h

/-- The values of an OVERRIDE as its argument bytes spell them. -/
theorem override_values {vs : List Nat} (extra : List Byte) (hword : ∀ v ∈ vs, v < 65536) :
    wordsOfBytes ((((BitVec.ofNat 8 vs.length :: bytesOfWords vs ++ extra).drop 1)).take (2 * vs.length)) = vs := by
  have hdrop : (BitVec.ofNat 8 vs.length :: bytesOfWords vs ++ extra).drop 1 = bytesOfWords vs ++ extra := rfl
  rw [hdrop, ← bytesOfWords_length, List.take_left, wordsOfBytes_bytesOfWords vs hword]

/-- The arguments of an OVERRIDE of `vs` from the value count on. -/
def overrideArgs (vs : List Nat) (extra : List Byte) : List Byte := BitVec.ofNat 8 vs.length :: bytesOfWords vs ++ extra

theorem overrideArgs_count {vs : List Nat} (extra : List Byte) (hlen : vs.length = 1 ∨ vs.length = 8) :
    byteAt (overrideArgs vs extra) 0 = vs.length := by
  show (BitVec.ofNat 8 vs.length).toNat = vs.length
  rw [BitVec.toNat_ofNat]
  omega

theorem overrideArgs_length (vs : List Nat) (extra : List Byte) :
    (overrideArgs vs extra).length = 1 + 2 * vs.length + extra.length := by
  rw [overrideArgs, List.length_append, List.length_cons, bytesOfWords_length]
  omega

theorem override_wellFormed {vs : List Nat} (extra : List Byte) (hlen : vs.length = 1 ∨ vs.length = 8) :
    ¬ ((byteAt (overrideArgs vs extra) 0 ≠ 1 ∧ byteAt (overrideArgs vs extra) 0 ≠ 8) ∨
      (overrideArgs vs extra).length < 1 + 2 * byteAt (overrideArgs vs extra) 0) := by
  rw [overrideArgs_count extra hlen, overrideArgs_length]
  omega

theorem overrideChannel_check {ch : Fin 30} {vs : List Nat} (extra : List Byte) (s : State) (hlen : vs.length = 8)
    (hsingle : laneCount ch = 1) : overrideChannel ch (overrideArgs vs extra) s = refuse .check s := by
  unfold overrideChannel
  simp only
  rw [if_neg (override_wellFormed extra (.inr hlen)), if_pos]
  rw [overrideArgs_count extra (.inr hlen)]
  exact ⟨hlen, hsingle⟩

theorem overrideChannel_taken {ch : Fin 30} {vs : List Nat} (extra : List Byte) (s : State)
    (hword : ∀ v ∈ vs, v < 65536) (hlen : vs.length = 1 ∨ vs.length = 8) (hfits : vs.length = 1 ∨ laneCount ch = 8) :
    overrideChannel ch (overrideArgs vs extra) s =
      let s' := takeClaim ch .operator (overrideLanes (laneCount ch) vs) s
      ⟨if (s'.outputs.get ch).top = .operator then .done else .deferred, vs.any fun v => decide (10000 < v),
        [byteOf (levelCode (s'.outputs.get ch).top)], s'⟩ := by
  have hcount := overrideArgs_count extra hlen
  have hvalues : wordsOfBytes (((overrideArgs vs extra).drop 1).take (2 * vs.length)) = vs :=
    override_values extra hword
  unfold overrideChannel
  simp only
  rw [if_neg (override_wellFormed extra hlen), if_neg, hcount, hvalues]
  · rfl
  · rw [hcount]
    rintro ⟨h8, h1⟩
    rcases hfits with h | h <;> omega

/-- The operator's entry after its claim. -/
theorem claimed_operator_entry (s : State) (ch : Fin 30) (values : Lanes) :
    ((s.outputs.get ch).entries.get 0 = none → (claimed s ch .operator values).entries.get 0 = some
      { holders := 1, source := .stored, value := fitLanes (laneCount ch) values, claimTime := s.now,
        releasePending := false }) ∧
    (∀ e, (s.outputs.get ch).entries.get 0 = some e → (claimed s ch .operator values).entries.get 0 = some
      { e with holders := e.holders ||| 1, value := fitLanes (laneCount ch) values, claimTime := s.now,
               releasePending := false }) := by
  have hget : (claimed s ch .operator values).entries.get 0 =
      some (claimedEntry ch s.now (s.outputs.get ch) .operator values) := tab_get_set_same _ _ _
  rw [hget]
  exact ⟨fun h => congrArg some (claimedEntry_new (party := .operator) h),
    fun e h => congrArg some (claimedEntry_joined (party := .operator) h)⟩

theorem claimed_other (s : State) (ch : Fin 30) (values : Lanes) {k : Fin 4} (hk : k ≠ 0) :
    (claimed s ch .operator values).entries.get k = (s.outputs.get ch).entries.get k :=
  tab_get_set_other _ _ hk

/-- The OVERRIDE of a channel, taken. -/
theorem overrideTaken (ch : Fin 30) (tag : Byte) (s : State) (hs : InService s) {vs : List Nat} (extra : List Byte)
    (hword : ∀ v ∈ vs, v < 65536) (hlen : vs.length = 1 ∨ vs.length = 8) (hfits : vs.length = 1 ∨ laneCount ch = 8) :
    ∃ o' cs,
      Answered (.overrideValue ⟨tag, BitVec.ofNat 8 ch.val :: overrideArgs vs extra⟩) s tag 10
        (if o'.top = .operator then .done else .deferred) (vs.any fun v => decide (10000 < v))
        [BitVec.ofNat 8 (levelCode o'.top)] (sending { passed s with outputs := s.outputs.set ch o' } cs) ∧
      ((s.outputs.get ch).entries.get 0 = none → o'.entries.get 0 = some
        { holders := 1, source := .stored, value := operatorValues ch vs, claimTime := s.now, releasePending := false }) ∧
      (∀ e, (s.outputs.get ch).entries.get 0 = some e → o'.entries.get 0 = some
        { e with holders := e.holders ||| 1, value := operatorValues ch vs, claimTime := s.now, releasePending := false }) ∧
      (∀ k, k ≠ 0 → o'.entries.get k = (s.outputs.get ch).entries.get k) ∧ o'.schedule = (s.outputs.get ch).schedule ∧
      o'.binding = (s.outputs.get ch).binding ∧ o'.active = (s.outputs.get ch).active ∧
      o'.dwell = (s.outputs.get ch).dwell ∧ o'.protection = (s.outputs.get ch).protection ∧
      ClosedAt s ch o' (s.outputs.get ch).returnHold [] cs := by
  obtain ⟨hnew, hjoined⟩ := claimed_operator_entry s ch (overrideLanes (laneCount ch) vs)
  rw [fitLanes_overrideLanes hlen hfits] at hnew hjoined
  have htaken := takeClaim_passed s ch (overrideLanes (laneCount ch) vs)
  have hother := fun {k : Fin 4} => claimed_other s ch (overrideLanes (laneCount ch) vs) (k := k)
  have hmovement := claimed_movementKept s ch .operator (overrideLanes (laneCount ch) vs)
  have hfields : (claimed s ch .operator (overrideLanes (laneCount ch) vs)).schedule = (s.outputs.get ch).schedule ∧
      (claimed s ch .operator (overrideLanes (laneCount ch) vs)).active = (s.outputs.get ch).active ∧
      (claimed s ch .operator (overrideLanes (laneCount ch) vs)).dwell = (s.outputs.get ch).dwell ∧
      (claimed s ch .operator (overrideLanes (laneCount ch) vs)).protection = (s.outputs.get ch).protection ∧
      (claimed s ch .operator (overrideLanes (laneCount ch) vs)).returnHold = (s.outputs.get ch).returnHold :=
    ⟨rfl, rfl, rfl, rfl, rfl⟩
  generalize claimed s ch .operator (overrideLanes (laneCount ch) vs) = o' at hnew hjoined htaken hother hmovement hfields
  obtain ⟨hschedule, hactive, hdwell, hprotection, hhold⟩ := hfields
  refine ⟨closed s ch o', closing s ch o', ?_, fun h => ?_, fun e h => ?_, fun k hk => ?_,
    (closeEvent_schedule ..).trans hschedule, (closeEvent_binding ..).trans hmovement.binding,
    (closeEvent_active ..).trans hactive, (closeEvent_dwell ..).trans hdwell, (closeEvent_protection ..).trans hprotection,
    closedAt_closing hmovement hhold⟩
  · refine answered_of_channel (f := overrideChannel) (fun _ _ => rfl) tag ch _ hs
      ((overrideChannel_taken extra (passed s) hword hlen hfits).trans ?_) (passed_node s)
    rw [htaken]
    simp only [sending, tab_get_set_same, byteOf]
  · rw [closed, closeEvent_entries, hnew h]
  · rw [closed, closeEvent_entries, hjoined e h]
  · rw [closed, closeEvent_entries, hother hk]

/-- The OPERATOR entry gone, the top changes exactly when it was OPERATOR. -/
theorem top_without_operator {o o' : OutputChannel} {e : Entry} (hentry : o.entries.get 0 = some e)
    (hgone : o'.entries.get 0 = none) (hother : ∀ k, k ≠ 0 → o'.entries.get k = o.entries.get k) :
    o'.top ≠ o.top ↔ o.top = .operator := by
  unfold OutputChannel.top OutputChannel.topIx
  rw [hother 3 (by decide), hother 2 (by decide), hother 1 (by decide), hgone, hentry]
  simp only [Option.isSome_none, Option.isSome_some]
  cases (o.entries.get 3).isSome <;> cases (o.entries.get 2).isSome <;> cases (o.entries.get 1).isSome <;> decide

/-- The operator's release after the slot boundary: its entry leaves and no more of the channel changes. -/
theorem release_passed {s : State} {ch : Fin 30} {e : Entry} (he : (s.outputs.get ch).entries.get 0 = some e)
    (hholds : e.holders = 1) : ∃ o' : OutputChannel,
    takeRelease ch .operator (passed s) =
      sending { passed s with outputs := s.outputs.set ch (closed s ch o') } (closing s ch o') ∧
    o'.entries = (s.outputs.get ch).entries.set 0 none ∧ MovementKept (s.outputs.get ch) o' ∧
    o'.schedule = (s.outputs.get ch).schedule ∧ o'.active = (s.outputs.get ch).active ∧
    o'.dwell = (s.outputs.get ch).dwell ∧ o'.protection = (s.outputs.get ch).protection ∧
    o'.returnHold = (s.outputs.get ch).returnHold := by
  have hgone : releasedEntry ch .operator (passed s) e = none :=
    releasedEntry_gone (by rw [hholds]; decide) (.inl (by decide))
  have htake := takeRelease_present (s := passed s) (ch := ch) (party := .operator) (e := e) (by rwa [passed_outputs])
    (by rw [hholds]; decide)
  rw [closed_passed, closing_passed, List.nil_append, passed_outputs] at htake
  refine ⟨released (passed s) ch .operator e, htake, ?_, ?_⟩
  · rw [released, hgone, passed_outputs]
    rfl
  · rw [released, passed_outputs]
    exact ⟨⟨rfl, rfl, rfl, rfl⟩, rfl, rfl, rfl, rfl, rfl⟩

/-- The RELEASE of a channel whose OPERATOR entry stands. -/
theorem releaseTaken (ch : Fin 30) (tag : Byte) (s : State) (hs : InService s) (e : Entry) (extra : List Byte)
    (he : (s.outputs.get ch).entries.get 0 = some e) (hholds : e.holders = 1) :
    ∃ o' cs,
      Done (.release ⟨tag, BitVec.ofNat 8 ch.val :: extra⟩) s tag 11
        (sending { passed s with outputs := s.outputs.set ch o' } cs) ∧
      o'.entries.get 0 = none ∧ (∀ k, k ≠ 0 → o'.entries.get k = (s.outputs.get ch).entries.get k) ∧
      o'.schedule = (s.outputs.get ch).schedule ∧ o'.binding = (s.outputs.get ch).binding ∧
      o'.active = (s.outputs.get ch).active ∧ (.topChange ch ∈ cs ↔ (s.outputs.get ch).top = .operator) ∧
      o'.dwell = (s.outputs.get ch).dwell ∧ o'.protection = (s.outputs.get ch).protection ∧
      ClosedAt s ch o' (s.outputs.get ch).returnHold [] cs := by
  obtain ⟨o', hrun, hentries, hmovement, hschedule, hactive, hdwell, hprotection, hhold⟩ := release_passed (s := s) he hholds
  have hgone : o'.entries.get 0 = none := by rw [hentries, tab_get_set_same]
  have hother : ∀ k, k ≠ 0 → o'.entries.get k = (s.outputs.get ch).entries.get k := fun k hk => by
    rw [hentries, tab_get_set_other _ _ hk]
  have hclosed : (closed s ch o').entries = o'.entries := closeEvent_entries ..
  refine ⟨closed s ch o', closing s ch o', answered_of_channel (f := fun ch _ s => done (takeRelease ch .operator s))
      (fun _ _ => rfl) tag ch extra hs (congrArg done hrun) (passed_node s), hclosed ▸ hgone, hclosed ▸ hother,
    (closeEvent_schedule ..).trans hschedule, (closeEvent_binding ..).trans hmovement.binding,
    (closeEvent_active ..).trans hactive, ?_, (closeEvent_dwell ..).trans hdwell, (closeEvent_protection ..).trans hprotection,
    closedAt_closing hmovement hhold⟩
  rw [closing, topChange_mem_eventSignals]
  exact top_without_operator he (hclosed ▸ hgone) (hclosed ▸ hother)

/-- Settles O50: the refusals of the owner, then an OVERRIDE and a RELEASE taken. -/
theorem operatorRequests : Obligations.OperatorRequests := by
  intro ch tag s hs
  have hrange : ∀ args : List Byte,
      ((byteAt args 0 ≠ 1 ∧ byteAt args 0 ≠ 8) ∨ args.length < 1 + 2 * byteAt args 0) →
      ∀ ch : Fin 30, Refused (.overrideValue ⟨tag, BitVec.ofNat 8 ch.val :: args⟩) s tag 10 .range [] := fun args h ch =>
    answered_of_channel (f := overrideChannel) (fun _ _ => rfl) tag ch args hs (overrideChannel_range _ h) (passed_node s)
  have hoverride := DecoderProofs.foreignIndex_refused (n := 30) (code := 10) (mk := .overrideValue) (f := overrideChannel)
    (fun _ _ => rfl) tag hs
  have hrelease := DecoderProofs.foreignIndex_refused (n := 30) (code := 11) (mk := .release)
    (f := fun ch _ s => done (takeRelease ch .operator s)) (fun _ _ => rfl) tag hs
  refine ⟨fun index args hindex => ⟨hoverride.2 index args hindex, hrelease.2 index args hindex⟩,
    fun count rest hone height => hrange _ (.inl ⟨?_, ?_⟩) ch, fun short hshort => ?_,
    fun count data hdata => hrange _ (.inr ?_) ch, hrelease.1, fun vs extra hword hlen => ⟨fun h8 hsingle => ?_, fun hfits => ?_⟩,
    fun extra hnone => ?_, fun e extra he hholds => releaseTaken ch tag s hs e extra he hholds⟩
  · exact fun h => hone (BitVec.eq_of_toNat_eq h)
  · exact fun h => height (BitVec.eq_of_toNat_eq h)
  · match short with
    | [] => exact hoverride.1
    | [index] =>
      by_cases hindex : 30 ≤ index.toNat
      · exact hoverride.2 index [] hindex
      · have hrefused := hrange [] (.inl ⟨by decide, by decide⟩) ⟨index.toNat, by omega⟩
        rwa [BitVec.ofNat_toNat, BitVec.setWidth_eq] at hrefused
    | _ :: _ :: _ => simp at hshort
  · have hcount : byteAt (count :: data) 0 = count.toNat := rfl
    rw [hcount, List.length_cons]
    omega
  · exact answered_of_channel (f := overrideChannel) (fun _ _ => rfl) tag ch _ hs
      (overrideChannel_check extra _ h8 hsingle) (passed_node s)
  · exact overrideTaken ch tag s hs extra hword hlen hfits
  · refine answered_of_channel (f := fun ch _ s => done (takeRelease ch .operator s)) (fun _ _ => rfl) tag ch extra hs
      (congrArg done (takeRelease_absent (.inl ?_))) (passed_node s)
    rwa [passed_outputs]

/-! ## WRITE_BINDING (R132) -/

/-- The ranges of Table 8-2, by word of the image. -/
def bindingRanges : List (Nat × Nat) := [(0, 1), (1, 254), (0, 255), (0, 1000), (100, 10000), (0, 65535)]

theorem bindingWordOk_iff (i v : Nat) (hi : i < 6) :
    bindingWordOk i v = true ↔ (bindingRanges.getD i (0, 0)).1 ≤ v ∧ v ≤ (bindingRanges.getD i (0, 0)).2 := by
  interval_cases i <;> simp [bindingWordOk, within, bindingRanges]

theorem binding_inRange_iff {sp : Span} (hfit : SpanFits 6 sp) : sp.inRange bindingWordOk = true ↔ InRanges bindingRanges sp := by
  obtain ⟨-, -, hin, -⟩ := hfit
  exact inRange_iff_inRanges bindingWordOk_iff hin

/-- The binding after an accepted write. -/
def writtenBinding (sp : Span) (b : Binding) : Binding := Binding.ofWords (sp.apply b.words)

theorem boolWord_decide {v : Nat} (h : v ≤ 1) : boolWord (decide (v ≠ 0)) = v := by
  interval_cases v <;> rfl

theorem binding_words_ofWords {ws : List Nat} (hlen : ws.length = 6) (hflag : ws.getD 0 0 ≤ 1) :
    (Binding.ofWords ws).words = ws := by
  have hbool := boolWord_decide hflag
  refine List.ext_getElem hlen.symm fun i hi hi' => ?_
  rw [hlen] at hi'
  simp only [Binding.words, Binding.ofWords, hbool]
  interval_cases i <;> exact List.getD_eq_getElem _ _ _

theorem writtenBinding_words {sp : Span} (b : Binding) (hfit : SpanFits 6 sp) (hrange : InRanges bindingRanges sp) :
    (writtenBinding sp b).words = sp.apply b.words := by
  obtain ⟨-, -, hin, -⟩ := hfit
  exact binding_words_ofWords (apply_length (image := b.words) hin)
    (HousingProofs.apply_getD_le (image := b.words) hin hrange (i := 0) (boolWord_le _))

theorem writeBinding_range (ch : Fin 30) {sp : Span} (s : State) (hfit : SpanFits 6 sp)
    (hrange : ¬ InRanges bindingRanges sp) : writeBinding ch sp s = refuse .range s := by
  rw [← binding_inRange_iff hfit] at hrange
  simp [writeBinding, hrange]

theorem writeBinding_check (ch : Fin 30) {sp : Span} (s : State) (hfit : SpanFits 6 sp) (hrange : InRanges bindingRanges sp)
    (hunusable : (writtenBinding sp (s.outputs.get ch).binding).bound = true ∧
      ((writtenBinding sp (s.outputs.get ch).binding).node = 0 ∨ (writtenBinding sp (s.outputs.get ch).binding).refresh = 0)) :
    writeBinding ch sp s = refuse .check s := by
  rw [← binding_inRange_iff hfit] at hrange
  unfold writtenBinding at hunusable
  simp [writeBinding, hrange, hunusable]

theorem writeBinding_done (ch : Fin 30) {sp : Span} (s : State) (hfit : SpanFits 6 sp) (hrange : InRanges bindingRanges sp)
    (husable : ¬ ((writtenBinding sp (s.outputs.get ch).binding).bound = true ∧
      ((writtenBinding sp (s.outputs.get ch).binding).node = 0 ∨ (writtenBinding sp (s.outputs.get ch).binding).refresh = 0))) :
    writeBinding ch sp s = done (bindChannel ch (writtenBinding sp (s.outputs.get ch).binding) s) := by
  rw [← binding_inRange_iff hfit] at hrange
  unfold writtenBinding at husable ⊢
  simp [writeBinding, hrange, husable]

/-- The channel after its binding is replaced, before its activity is judged. -/
def rebound (s : State) (ch : Fin 30) (new : Binding) : OutputChannel :=
  closeEvent ch s.now (s.lastSent ch) (decide (new.deadband ≠ (s.outputs.get ch).binding.deadband)) (s.outputs.get ch)
    { s.outputs.get ch with binding := new }

/-- A channel with its activity judged: a change computes the movement timer anew. -/
def judged (s : State) (ch : Fin 30) (o : OutputChannel) : OutputChannel :=
  if judgedActive s ch o.binding = o.active then o
  else { o with active := judgedActive s ch o.binding }.retimed s.now (s.lastSent ch)

theorem putOutput_passed (s : State) (ch : Fin 30) (o : OutputChannel) (cs : List Instr) :
    (passed s).putOutput ch o cs = sending { passed s with outputs := s.outputs.set ch o } cs := by
  rw [State.putOutput, passed_outputs]
  rfl

theorem putOutput_putOutput (s : State) (ch : Fin 30) (o p : OutputChannel) (cs ds : List Instr) :
    (s.putOutput ch o cs).putOutput ch p ds = s.putOutput ch p (cs ++ ds) := by
  simp only [State.putOutput, Laws.tab_set_set, List.append_assoc]

theorem rejudged_putOutput (s : State) (ch : Fin 30) (o : OutputChannel) (cs : List Instr) :
    rejudged ch (s.putOutput ch o cs) = judged s ch o := by
  unfold rejudged judged
  rw [putOutput_outputs, tab_get_set_same]
  rfl

theorem rejudging_putOutput (s : State) (ch : Fin 30) (o : OutputChannel) (cs : List Instr) :
    rejudging ch (s.putOutput ch o cs) = activitySignals ch o.active (judgedActive s ch o.binding) := by
  unfold rejudging
  rw [putOutput_outputs, tab_get_set_same]
  rfl

theorem bindChannel_eq (ch : Fin 30) (new : Binding) (s : State) : bindChannel ch new s =
    s.putOutput ch (judged s ch (rebound s ch new))
      (eventSignals ch s.now (s.outputs.get ch) (rebound s ch new) ++
        activitySignals ch (s.outputs.get ch).active (judgedActive s ch new)) := by
  have hend : bindChannel ch new s = rejudge ch
      (s.putOutput ch (rebound s ch new) (eventSignals ch s.now (s.outputs.get ch) (rebound s ch new))) := rfl
  have hbinding : (rebound s ch new).binding = new := closeEvent_binding ..
  have hactive : (rebound s ch new).active = (s.outputs.get ch).active := closeEvent_active ..
  rw [hend, rejudge_eq, putOutput_putOutput, rejudged_putOutput, rejudging_putOutput, hbinding, hactive]

theorem judged_shape (s : State) (ch : Fin 30) (o : OutputChannel) : judged s ch o =
    { o with active := judgedActive s ch o.binding, moveTimer := (judged s ch o).moveTimer } := by
  unfold judged
  split_ifs with h
  · rw [h]
  · rfl

theorem judged_moveTimer (s : State) (ch : Fin 30) (o : OutputChannel) :
    (judgedActive s ch o.binding = o.active → judged s ch o = o) ∧
      (judgedActive s ch o.binding ≠ o.active →
        (judged s ch o).moveTimer = (judged s ch o).movement s.now (s.lastSent ch)) := by
  unfold judged
  refine ⟨fun h => if_pos h, fun h => ?_⟩
  rw [if_neg h]
  rfl

section Rebound

variable (s : State) (ch : Fin 30) (new : Binding)

theorem rebound_top : (rebound s ch new).top = (s.outputs.get ch).top :=
  (closeEvent_top ..).trans (top_congr rfl)

/-- A new binding leaves the target. -/
theorem rebound_target : (rebound s ch new).target = (s.outputs.get ch).target := by
  have htop := rebound_top s ch new
  have hentries : (rebound s ch new).entries = (s.outputs.get ch).entries := closeEvent_entries ..
  by_cases h : (s.outputs.get ch).top = .schedule
  · have hhold : (rebound s ch new).returnHold = (s.outputs.get ch).returnHold :=
      (closeEvent_returnHold ..).trans (holdAfter_stands h (.inl h))
    exact target_congr hentries (closeEvent_schedule ..) hhold
  · exact target_of_top_ne hentries (by rwa [htop])

/-- Only a changed slew limit sets the origin. -/
theorem rebound_retargets (again : Bool) :
    Retargets ch s.now (s.lastSent ch) again (s.outputs.get ch) { s.outputs.get ch with binding := new } ↔
      new.slew ≠ (s.outputs.get ch).binding.slew := by
  have htarget : (closeEvent ch s.now (s.lastSent ch) again (s.outputs.get ch)
      { s.outputs.get ch with binding := new }).target = (s.outputs.get ch).target :=
    (closeEvent_target ..).trans ((closeEvent_target ..).symm.trans (rebound_target s ch new))
  have htop : (OutputChannel.top { s.outputs.get ch with binding := new }) = (s.outputs.get ch).top := top_congr rfl
  unfold Retargets
  rw [htarget, htop]
  simp

theorem rebound_jumps : Jumps (rebound s ch new) ↔
    new.slew = 0 ∨ (s.outputs.get ch).top = .brk ∨ (s.outputs.get ch).top = .trip := by
  have hbinding : (rebound s ch new).binding = new := closeEvent_binding ..
  unfold Jumps
  rw [rebound_top, hbinding, or_comm (b := _ = Level.trip ∨ _), or_assoc, or_comm (a := _ = Level.trip), or_assoc]

theorem rebound_signals : eventSignals ch s.now (s.outputs.get ch) (rebound s ch new) =
    if (new.slew = 0 ∨ (s.outputs.get ch).top = .brk ∨ (s.outputs.get ch).top = .trip) ∧
      (s.outputs.get ch).target ≠ (s.outputs.get ch).output s.now then [.outputChange ch] else [] := by
  rw [eventSignals_eq, if_pos (rebound_top s ch new), List.nil_append, rebound_target]
  exact if_congr (and_congr_left' (rebound_jumps s ch new)) rfl rfl

end Rebound

theorem ownerLive_passed (s : State) (ch : Fin 30) : ownerLive (passed s) ch = ownerLive s ch := by
  unfold ownerLive State.lit State.dark
  simp only [passed_mode]

theorem judgedActive_passed (s : State) (ch : Fin 30) (b : Binding) :
    judgedActive (passed s) ch b = judgedActive s ch b := by
  rw [judgedActive, judgedActive, ownerLive_passed]

theorem bindChannel_passed (ch : Fin 30) (new : Binding) (s : State) : bindChannel ch new (passed s) =
    sending { passed s with outputs := s.outputs.set ch (judged s ch (rebound s ch new)) }
      (eventSignals ch s.now (s.outputs.get ch) (rebound s ch new) ++
        activitySignals ch (s.outputs.get ch).active (judgedActive s ch new)) := by
  have hrebound : rebound (passed s) ch new = rebound s ch new := by
    rw [rebound, rebound, passed_now, passed_lastSent, passed_outputs]
  have hjudged : ∀ o, judged (passed s) ch o = judged s ch o := fun o => by
    rw [judged, judged, passed_now, passed_lastSent, judgedActive_passed]
  rw [bindChannel_eq, hrebound, hjudged, judgedActive_passed, putOutput_passed, passed_now, passed_outputs]

/-- What an accepted write makes of the channel. -/
theorem bindingTaken (s : State) (ch : Fin 30) (new : Binding) :
    let o := s.outputs.get ch
    let o' := judged s ch (rebound s ch new)
    let jump := new.slew = 0 ∨ o.top = .brk ∨ o.top = .trip
    o'.binding = new ∧ o'.schedule = o.schedule ∧ o'.entries = o.entries ∧ o'.protection = o.protection ∧
      o'.dwell = o.dwell ∧ (o'.active = true ↔ new.bound = true ∧ ownerLive s ch = true) ∧
      (o.top = .schedule → o'.returnHold = o.returnHold) ∧ (o.top ≠ .schedule → o'.returnHold = none) ∧
      (new.slew = o.binding.slew → o'.originValue = o.originValue ∧ o'.originTime = o.originTime) ∧
      (new.slew ≠ o.binding.slew → o'.originTime = s.now ∧
        o'.originValue = if jump then o'.target else o.output s.now) ∧
      (new.slew = o.binding.slew → new.deadband = o.binding.deadband → o'.active = o.active →
        o'.moveTimer = o.moveTimer) ∧
      (new.slew ≠ o.binding.slew ∨ new.deadband ≠ o.binding.deadband ∨ o'.active ≠ o.active →
        o'.moveTimer = o'.movement s.now (s.emission.records.get ch).lastSent) := by
  intro o o' jump
  have hshape : o' = { rebound s ch new with
      active := judgedActive s ch (rebound s ch new).binding, moveTimer := o'.moveTimer } := judged_shape ..
  have hbinding : (rebound s ch new).binding = new := closeEvent_binding ..
  have hactive : (rebound s ch new).active = o.active := closeEvent_active ..
  have hhold : (rebound s ch new).returnHold = holdAfter ch s.now o { o with binding := new } := closeEvent_returnHold ..
  have hjudged : o'.active = judgedActive s ch new := by rw [hshape, hbinding]
  have htarget : o'.target = (rebound s ch new).target := by
    rw [hshape]
    exact target_congr rfl rfl rfl
  obtain ⟨hsame, hchanged⟩ := judged_moveTimer s ch (rebound s ch new)
  rw [hbinding, hactive] at hsame hchanged
  refine ⟨by rw [hshape]; exact hbinding, by rw [hshape]; exact closeEvent_schedule ..,
    by rw [hshape]; exact closeEvent_entries .., by rw [hshape]; exact closeEvent_protection ..,
    by rw [hshape]; exact closeEvent_dwell .., by rw [hjudged, judgedActive_iff], fun htop => ?_, fun htop => ?_,
    fun hslew => ?_, fun hslew => ?_, fun hslew hdead hact => ?_, fun hchange => ?_⟩
  · rw [hshape]
    exact hhold.trans (holdAfter_stands htop (.inl htop))
  · rw [hshape]
    exact hhold.trans (holdAfter_above htop)
  · obtain ⟨hvalue, htime, -⟩ := closeEvent_of_not_retargets
      (mt (rebound_retargets s ch new (decide (new.deadband ≠ o.binding.deadband))).mp (not_not_intro hslew))
    rw [hshape]
    exact ⟨hvalue, htime⟩
  · obtain ⟨htime, hvalue, -⟩ := closeEvent_of_retargets
      ((rebound_retargets s ch new (decide (new.deadband ≠ o.binding.deadband))).mpr hslew)
    refine ⟨by rw [hshape]; exact htime, ?_⟩
    have horigin : o'.originValue = (rebound s ch new).originValue := by rw [hshape]
    have hjump : (OutputChannel.jumps { o with binding := new }) = true ↔ jump := by
      rw [← closeEvent_jumps ch s.now (s.lastSent ch) (decide (new.deadband ≠ o.binding.deadband)) o, jumps_iff]
      exact rebound_jumps s ch new
    rw [horigin, htarget]
    exact hvalue.trans (if_congr hjump rfl rfl)
  · have hstands : o' = rebound s ch new := hsame (hjudged.symm.trans hact)
    obtain ⟨-, -, htimer⟩ := closeEvent_of_not_retargets
      (mt (rebound_retargets s ch new (decide (new.deadband ≠ o.binding.deadband))).mp (not_not_intro hslew))
    rw [hstands]
    refine htimer.trans ?_
    rw [decide_eq_false (not_not_intro hdead)]
    rfl
  · by_cases hact : judgedActive s ch new = o.active
    · have hstands : o' = rebound s ch new := hsame hact
      have hchange' := hchange.imp_right fun h => h.resolve_right (not_not_intro (hjudged.trans hact))
      rw [hstands]
      by_cases hslew : new.slew = o.binding.slew
      · obtain ⟨-, -, htimer⟩ := closeEvent_of_not_retargets
          (mt (rebound_retargets s ch new (decide (new.deadband ≠ o.binding.deadband))).mp (not_not_intro hslew))
        exact htimer.trans (if_pos (decide_eq_true (hchange'.resolve_left (not_not_intro hslew))))
      · exact (closeEvent_of_retargets
          ((rebound_retargets s ch new (decide (new.deadband ≠ o.binding.deadband))).mpr hslew)).2.2
    · exact hchanged hact

/-- Settles O15: the checks in their order, then the channel rebound and its activity judged. -/
theorem bindingWritten : Obligations.BindingWritten := by
  intro s tag ch sp hs hfit
  have hanswer : ∀ {st : Status} {clamped : Bool} {data : List Byte} {t : State},
      writeBinding ch sp (passed s) = ⟨st, clamped, data, t⟩ → t.ring.node = s.ring.node →
      Answered (.writeBinding ⟨tag, spanArgs ch.val sp⟩) s tag 2 st clamped data t := fun howner hnode =>
    answered_of_write (mk := Instr.writeBinding) (fun _ _ => rfl) tag ch hs (by decide) hfit (by decide) howner hnode
  refine ⟨fun hrange => hanswer (writeBinding_range ch (passed s) hfit hrange) (passed_node s), fun hrange => ?_⟩
  have hcheck := writeBinding_check ch (passed s) hfit hrange
  have hdone := writeBinding_done ch (passed s) hfit hrange
  rw [passed_outputs] at hcheck hdone
  refine ⟨writtenBinding sp (s.outputs.get ch).binding, writtenBinding_words _ hfit hrange,
    fun hbound hmissing => hanswer (hcheck ⟨hbound, hmissing⟩) (passed_node s), fun husable => ?_⟩
  have hwritten := hdone husable
  generalize writtenBinding sp (s.outputs.get ch).binding = new at hwritten
  have htaken := bindingTaken s ch new
  have htarget : (judged s ch (rebound s ch new)).target = (s.outputs.get ch).target := by
    rw [judged_shape]
    exact (target_congr rfl rfl rfl).trans (rebound_target s ch new)
  have hactive : (judged s ch (rebound s ch new)).active = judgedActive s ch new := by
    rw [judged_shape]
    exact congrArg (judgedActive s ch) (closeEvent_binding ..)
  rw [bindChannel_passed] at hwritten
  obtain ⟨hbinding, hschedule, hentries, hprotection, hdwell, hact, hhold, hnohold, hstands, horigin, htimer, hretimed⟩ :=
    htaken
  refine ⟨judged s ch (rebound s ch new), _, hanswer hwritten (passed_node s), hbinding, hschedule, hentries, hprotection,
    hdwell, hact, hhold, hnohold, hstands, horigin, htimer, hretimed, ?_⟩
  rw [rebound_signals, activitySignals_eq, htarget, hactive]

/-! ## WRITE_PROTECTION (R135) -/

/-- Presence and value words stand in the span together. -/
def Whole (sp : Span) : Prop := sp.start % 2 = 0 ∧ sp.vals.length % 2 = 0

theorem pairsWhole_iff {sp : Span} (hfit : SpanFits 6 sp) : pairsWhole 3 sp = true ↔ Whole sp := by
  obtain ⟨hone, -, hin, -⟩ := hfit
  simp only [pairsWhole, Whole, List.all_eq_true, List.mem_range, Bool.or_eq_true, Bool.not_eq_true', Span.touches,
    Span.holds, Bool.and_eq_true, decide_eq_true_eq, Bool.and_eq_false_iff, decide_eq_false_iff_not]
  constructor
  · intro h
    have h0 := h 0 (by decide)
    have h1 := h 1 (by decide)
    have h2 := h 2 (by decide)
    omega
  · rintro ⟨hstart, hlen⟩ k hk
    omega

/-- Every level carried names HOLD or a park value in range. -/
def ProtectionFits (sp : Span) : Prop :=
  ∀ k, k < 3 → Carries sp (2 * k) → sp.val (2 * k) = 0 ∨ sp.val (2 * k) = 1 ∧ sp.val (2 * k + 1) ≤ 10000

theorem holds_iff_carries {sp : Span} (hwhole : Whole sp) (k : Nat) : sp.holds (2 * k) 2 = true ↔ Carries sp (2 * k) := by
  obtain ⟨hstart, hlen⟩ := hwhole
  simp only [Span.holds, Carries, Bool.and_eq_true, decide_eq_true_eq]
  omega

theorem protectionOk_iff {sp : Span} (hwhole : Whole sp) : protectionOk sp = true ↔ ProtectionFits sp := by
  simp only [protectionOk, ProtectionFits, List.all_eq_true, List.mem_range, Bool.or_eq_true, Bool.not_eq_true',
    Bool.and_eq_true, decide_eq_true_eq, ← holds_iff_carries hwhole, or_assoc]
  refine forall₂_congr fun k _ => ?_
  cases sp.holds (2 * k) 2 <;> simp [Config.outputMax]

/-- The protection row after an accepted write. -/
def writtenProtection (sp : Span) (p : Tab (Option Nat) 3) : Tab (Option Nat) 3 :=
  Tab.ofFn fun i => optionOfWords (sp.apply (protectionWords p)) (2 * i.val)

theorem writtenProtection_carried {sp : Span} (p : Tab (Option Nat) 3) (hfit : SpanFits 6 sp) (hwhole : Whole sp) (k : Fin 3)
    (hcarries : Carries sp (2 * k.val)) : (writtenProtection sp p).get k =
      if sp.val (2 * k.val) = 0 then none else some (sp.val (2 * k.val + 1)) := by
  obtain ⟨-, -, hin, -⟩ := hfit
  have hin' : sp.start + sp.vals.length ≤ (protectionWords p).length := by
    rw [OutputInvariant.protectionWords_length]
    exact hin
  have hvalue : Carries sp (2 * k.val + 1) := by
    obtain ⟨hstart, hlen⟩ := hwhole
    simp only [Carries] at hcarries ⊢
    omega
  rw [writtenProtection, tab_get_ofFn, optionOfWords, apply_getD hin', apply_getD hin', if_pos hcarries, if_pos hvalue]

theorem writtenProtection_stands {sp : Span} (p : Tab (Option Nat) 3) (hfit : SpanFits 6 sp) (hwhole : Whole sp) (k : Fin 3)
    (hcarries : ¬ Carries sp (2 * k.val)) : (writtenProtection sp p).get k = p.get k := by
  obtain ⟨-, -, hin, -⟩ := hfit
  have hin' : sp.start + sp.vals.length ≤ (protectionWords p).length := by
    rw [OutputInvariant.protectionWords_length]
    exact hin
  have hvalue : ¬ Carries sp (2 * k.val + 1) := by
    obtain ⟨hstart, hlen⟩ := hwhole
    simp only [Carries] at hcarries ⊢
    omega
  rw [writtenProtection, tab_get_ofFn, optionOfWords, apply_getD hin', apply_getD hin', if_neg hcarries, if_neg hvalue,
    ← OutputInvariant.optionOfWords_protectionWords, optionOfWords]

/-- Settles O16: pairs carried whole, then their values, then the row with the carried levels in place. -/
theorem protectionWritten : Obligations.ProtectionWritten := by
  intro s tag ch sp hs hfit
  have hanswer : ∀ {st : Status} {clamped : Bool} {data : List Byte} {t : State},
      writeProtection ch sp (passed s) = ⟨st, clamped, data, t⟩ → t.ring.node = s.ring.node →
      Answered (.writeProtection ⟨tag, spanArgs ch.val sp⟩) s tag 2 st clamped data t := fun howner hnode =>
    answered_of_write (mk := Instr.writeProtection) (fun _ _ => rfl) tag ch hs (by decide) hfit (by decide) howner hnode
  refine ⟨fun hwhole => hanswer (t := passed s) ?_ (passed_node s), fun hwhole hfits => hanswer (t := passed s) ?_ (passed_node s),
    fun hwhole hfits => ⟨writtenProtection sp (s.outputs.get ch).protection, hanswer ?_ (passed_node s),
      fun k => ⟨writtenProtection_carried _ hfit hwhole k, writtenProtection_stands _ hfit hwhole k⟩⟩⟩
  · have hpairs : pairsWhole 3 sp = false := Bool.eq_false_iff.mpr (mt (pairsWhole_iff hfit).mp hwhole)
    simp only [writeProtection, hpairs]
    rfl
  · have hpairs := (pairsWhole_iff hfit).mpr hwhole
    have hok : protectionOk sp = false := Bool.eq_false_iff.mpr (mt (protectionOk_iff hwhole).mp hfits)
    simp only [writeProtection, hpairs, hok]
    rfl
  · have hpairs := (pairsWhole_iff hfit).mpr hwhole
    have hok := (protectionOk_iff hwhole).mpr hfits
    simp only [writeProtection, hpairs, hok, State.putOutput, List.append_nil, passed_outputs]
    rfl

end Sys2Proof.OperatorProofs

/-! # The emission set and the notice queue (R166 to R168, R171, R172) -/

namespace Sys2Proof.EmissionProofs

open Sys2Proof.Machine Sys2Proof.Statements Sys2Proof.Laws Sys2Proof.WriteProofs Sys2Proof.SubscriptionProofs

/-! ## The emission set -/

theorem joinSet_active {ch : Fin 30} {s : State} (h : (s.outputs.get ch).active = true) :
    joinSet ch s = s.putRecord ch { s.emission.records.get ch with pending := true } := if_pos h

theorem joinSet_inactive {ch : Fin 30} {s : State} (h : (s.outputs.get ch).active = false) : joinSet ch s = s :=
  if_neg (by simp [h])

theorem putRecord_putRecord (s : State) (ch : Fin 30) (r r' : EmissionRecord) :
    (s.putRecord ch r).putRecord ch r' = s.putRecord ch r' := by
  simp only [State.putRecord, tab_set_set]

/-- Some lane differs from its last-sent value by the deadband and by 1. -/
theorem lanesDiffer_iff (deadband : Nat) (xs ys : Lanes) : lanesDiffer deadband xs ys = true ↔
    ∃ (k a b : Nat), xs[k]? = some a ∧ ys[k]? = some b ∧ deadband ≤ ((a : Int) - (b : Int)).natAbs ∧ a ≠ b := by
  have hdiffers : ∀ a b : Nat, differs deadband a b = true ↔ deadband ≤ ((a : Int) - (b : Int)).natAbs ∧ a ≠ b := by
    intro a b
    rw [differs, decide_eq_true_iff]
    omega
  rw [lanesDiffer, List.any_eq_true]
  constructor
  · rintro ⟨d, hd, htrue⟩
    obtain ⟨k, hk⟩ := List.mem_iff_getElem?.mp hd
    rw [List.getElem?_zipWith] at hk
    obtain ⟨a, b, ha, hb, hab⟩ : ∃ a b, xs[k]? = some a ∧ ys[k]? = some b ∧ differs deadband a b = d := by
      cases ha : xs[k]? with
      | none => simp [ha] at hk
      | some a =>
        cases hb : ys[k]? with
        | none => simp [ha, hb] at hk
        | some b => exact ⟨a, b, rfl, rfl, by simpa [ha, hb] using hk⟩
    exact ⟨k, a, b, ha, hb, (hdiffers a b).mp (hab.trans htrue)⟩
  · rintro ⟨k, a, b, ha, hb, hab⟩
    refine ⟨true, List.mem_iff_getElem?.mpr ⟨k, ?_⟩, rfl⟩
    rw [List.getElem?_zipWith, ha, hb]
    exact congrArg some ((hdiffers a b).mpr hab)

/-- The output of a channel has moved from its last-sent value. -/
def Moved (ch : Fin 30) (s : State) : Prop :=
  ∃ (ls : Lanes) (k a b : Nat), (s.emission.records.get ch).lastSent = some ls ∧
    ((s.outputs.get ch).output s.now)[k]? = some a ∧ ls[k]? = some b ∧
    (s.outputs.get ch).binding.deadband ≤ ((a : Int) - (b : Int)).natAbs ∧ a ≠ b

theorem outputMoved_iff (ch : Fin 30) (s : State) : outputMoved ch s = true ↔ Moved ch s := by
  unfold outputMoved Moved State.lastSent
  cases (s.emission.records.get ch).lastSent with
  | none => simp
  | some ls => simp only [lanesDiffer_iff, Option.some.injEq, exists_and_left, exists_eq_left']

theorem exec_outputChange (ch : Fin 30) {s : State} (hreleased : Released s) :
    exec (.outputChange ch) s = .next (if outputMoved ch s then joinSet ch s else s) := event_next _ s hreleased

theorem exec_refreshTimerExpiry (ch : Fin 30) {s : State} (hreleased : Released s) :
    exec (.refreshTimerExpiry ch) s = .next (if timerDue s.now (s.emission.records.get ch).refresh then
      joinSet ch (s.putRecord ch { s.emission.records.get ch with refresh := none }) else s) := event_next _ s hreleased

theorem exec_channelInactive (ch : Fin 30) {s : State} (hreleased : Released s) : exec (.channelInactive ch) s =
    .next (s.putRecord ch { s.emission.records.get ch with pending := false, refresh := none }) := by
  rw [exec, execChannelInactive, event_next _ s hreleased]

/-- Settles O51: each event at the set, for an active channel and for an inactive one. -/
theorem emissionSetJoinedAndLeft : Obligations.EmissionSetJoinedAndLeft := by
  intro ch s hreleased o r leaves differs
  have hjoin : ∀ c, exec c s = event (joinSet ch) s → exec c s = .next (joinSet ch s) := fun c hc =>
    hc.trans (event_next _ s hreleased)
  have hactive := hjoin (.channelActive ch) rfl
  have htop := hjoin (.topChange ch) rfl
  have houtput := exec_outputChange ch hreleased
  have hrefresh := exec_refreshTimerExpiry ch hreleased
  refine ⟨fun hon => ?_, fun hsame => ?_, fun hoff => ?_, fun hearly => ?_, exec_channelInactive ch hreleased⟩
  · rw [joinSet_active hon] at hactive htop houtput
    refine ⟨hactive, htop, fun hmoved => ?_, fun t ht hdue => ?_⟩
    · rw [if_pos ((outputMoved_iff ch s).mpr hmoved)] at houtput
      exact houtput
    · rw [if_pos (AuthorityProofs.timerDue_some ht hdue), joinSet_active (s := s.putRecord ch _) hon, putRecord_putRecord,
        putRecord_emission, tab_get_set_same] at hrefresh
      exact hrefresh
  · rw [if_neg (mt (outputMoved_iff ch s).mp hsame)] at houtput
    exact houtput
  · rw [joinSet_inactive hoff] at hactive htop houtput
    rw [ite_self] at houtput
    refine ⟨hactive, htop, houtput, fun t ht hdue => ?_⟩
    rw [if_pos (AuthorityProofs.timerDue_some ht hdue), joinSet_inactive (s := s.putRecord ch _) hoff] at hrefresh
    exact hrefresh
  · rw [if_neg (AuthorityProofs.not_timerDue hearly)] at hrefresh
    exact hrefresh

/-! ## The notice queue -/

/-- An entry of the kind and subject of `n`. -/
def Same (n : Notice) (e : NoticeEntry) : Prop :=
  (noticeView e.notice).kind = (noticeView n).kind ∧ (noticeView e.notice).subject = (noticeView n).subject

theorem sameReport_eq_true_iff (e : NoticeEntry) (n : Notice) : sameReport e.notice n = true ↔ Same n e :=
  NoticeInvariant.sameReport_iff e.notice n

/-- The first entry of the notice's kind and subject takes it. -/
theorem coalesceQueue_append {n : Notice} {now : PartTime} {older newer : List NoticeEntry} {e : NoticeEntry}
    (hsame : Same n e) (hfirst : ∀ x ∈ older, ¬ Same n x) :
    coalesceQueue n now (older ++ e :: newer) = older ++ coalesce n now e :: newer := by
  induction older with
  | nil => exact if_pos ((sameReport_eq_true_iff e n).mpr hsame)
  | cons x rest ih =>
    obtain ⟨hx, hrest⟩ := List.forall_mem_cons.mp hfirst
    rw [List.cons_append, coalesceQueue, if_neg (mt (sameReport_eq_true_iff x n).mp hx), ih hrest]
    rfl

theorem markOverflow_append (older : List NoticeEntry) (e : NoticeEntry) :
    markOverflow (older ++ [e]) = older ++ [{ e with overflow := true }] := by
  induction older with
  | nil => rfl
  | cons x rest ih =>
    have hcons : markOverflow (x :: (rest ++ [e])) = x :: markOverflow (rest ++ [e]) := by
      cases rest <;> rfl
    rw [List.cons_append, hcons, ih]
    rfl

theorem any_sameReport_iff (n : Notice) (q : List NoticeEntry) :
    (q.any fun e => sameReport e.notice n) = true ↔ ∃ e ∈ q, Same n e := by
  simp only [List.any_eq_true, sameReport_eq_true_iff]

theorem queueNotice_coalesced {n : Notice} {now : PartTime} {older newer : List NoticeEntry} {e : NoticeEntry}
    (hsame : Same n e) (hfirst : ∀ x ∈ older, ¬ Same n x) :
    queueNotice n now (older ++ e :: newer) = older ++ coalesce n now e :: newer := by
  rw [queueNotice, if_pos ((any_sameReport_iff n _).mpr ⟨e, by simp, hsame⟩), coalesceQueue_append hsame hfirst]

theorem queueNotice_new {n : Notice} (now : PartTime) {q : List NoticeEntry} (hnew : ∀ e ∈ q, ¬ Same n e) :
    queueNotice n now q = if q.length < 16 then q ++ [⟨n, 1, now, false⟩] else markOverflow q := by
  rw [queueNotice, if_neg]
  · rfl
  · rw [any_sameReport_iff]
    rintro ⟨e, he, hsame⟩
    exact hnew e he hsame

theorem exec_noticeRaised (n : Notice) {s : State} (hreleased : Released s) : exec (.noticeRaised n) s =
    .next (if s.emission.mask.getLsbD (noticeView n).kind then
      { s with emission := { s.emission with queue := queueNotice n s.now s.emission.queue } } else s) := by
  rw [NoticeInvariant.noticeView_kind]
  exact event_next _ s hreleased

/-! ## NOTICE_MASK -/

theorem maskOfBytes_getLsbD (a b c : Byte) (extra : List Byte) (k : Fin 18) :
    (maskOfBytes (a :: b :: c :: extra)).getLsbD k.val =
      (a.toNat * 65536 + b.toNat * 256 + c.toNat).testBit k.val := by
  have hbytes : byteAt (a :: b :: c :: extra) 0 * 65536 + wordAt (a :: b :: c :: extra) 1 =
      a.toNat * 65536 + b.toNat * 256 + c.toNat := (Nat.add_assoc ..).symm
  rw [maskOfBytes, hbytes, BitVec.getLsbD_ofNat]
  simp

theorem maskBytes_eq (m : BitVec 18) : maskBytes m =
    [BitVec.ofNat 8 (m.toNat / 65536), BitVec.ofNat 8 (m.toNat / 256), BitVec.ofNat 8 m.toNat] := by
  have hmiddle : BitVec.ofNat 8 (m.toNat % 65536 / 256) = BitVec.ofNat 8 (m.toNat / 256) := by
    apply BitVec.eq_of_toNat_eq
    simp only [BitVec.toNat_ofNat]
    omega
  have hlow : BitVec.ofNat 8 (m.toNat % 65536) = BitVec.ofNat 8 m.toNat := by
    apply BitVec.eq_of_toNat_eq
    simp only [BitVec.toNat_ofNat]
    omega
  rw [maskBytes, wordBytes, hmiddle, hlow]
  rfl

theorem setMask_short {args : List Byte} (s : State) (h : args.length < 3) : setMask args s = refuse .range s := if_pos h

theorem setMask_taken (a b c : Byte) (extra : List Byte) (s : State) : setMask (a :: b :: c :: extra) s =
    ⟨.done, false, maskBytes (maskOfBytes (a :: b :: c :: extra)),
      { s with emission := { s.emission with mask := maskOfBytes (a :: b :: c :: extra) } }⟩ :=
  if_neg (by simp)

/-- Settles O52: the queue by the place of the notice's entry; the mask by its bytes. -/
theorem noticesQueuedAndMasked : Obligations.NoticesQueuedAndMasked := by
  refine ⟨fun n s hreleased => ?_, fun tag a b c extra s hs => ?_, fun tag short s hs hshort => ?_⟩
  · have hexec := exec_noticeRaised n hreleased
    refine ⟨fun hmasked => ?_, fun older e newer henabled hq hsame hfirst => ?_, fun henabled hnew hroom => ?_,
      fun older e henabled hnew hfull hq => ?_⟩
    · exact hexec.trans (congrArg _ (if_neg hmasked))
    · rw [if_pos henabled, hq, queueNotice_coalesced hsame hfirst] at hexec
      exact hexec
    · rw [if_pos henabled, queueNotice_new s.now hnew, if_pos hroom] at hexec
      exact hexec
    · rw [if_pos henabled, queueNotice_new s.now hnew, if_neg (by omega), hq, markOverflow_append] at hexec
      exact hexec
  · refine ⟨maskOfBytes (a :: b :: c :: extra), maskOfBytes_getLsbD a b c extra, ?_⟩
    rw [← maskBytes_eq, ← passed_emission]
    exact answered_of_owner (rq := ⟨tag, a :: b :: c :: extra⟩) (code := 13) rfl hs (setMask_taken a b c extra _)
      (passed_node s)
  · exact DecoderProofs.refused_of_owner (rq := ⟨tag, short⟩) (code := 13) rfl hs (setMask_short _ hshort)

end Sys2Proof.EmissionProofs

/-! # Written configuration: stations, coverage banks and ramp memory (R4 to R7, R148) -/

namespace Sys2Proof.TrackWriteProofs

open Sys2Proof.Machine Sys2Proof.Statements Sys2Proof.Laws Sys2Proof.WriteProofs Sys2Proof.SubscriptionProofs

/-- The state with the tracking record of a web replaced, after the slot boundary. -/
theorem setTrack_passed (s : State) (w : Fin 4) (t : TrackWeb) : (passed s).setTrack w t =
    { passed s with tracker := { s.tracker with webs := s.tracker.webs.set w t } } := by
  rw [State.setTrack, passed_tracker]

/-! ## WRITE_STATIONS (R5) -/

theorem stationWords_length (t : TrackWeb) : (stationWords t).length = 9 := by
  simp [stationWords, Tab.size]

theorem stationWords_mask (t : TrackWeb) : (stationWords t).getD 7 0 = t.mask.toNat := by
  rw [stationWords, List.getD_append_right _ _ _ _ (by simp [Tab.size]), Tab.size]
  rfl

/-- The mask in the image a write leaves. -/
def writtenMask (sp : Span) (t : TrackWeb) : BitVec 7 := BitVec.ofNat 7 ((sp.apply (stationWords t)).getD 7 0)

theorem writtenMask_eq {sp : Span} (t : TrackWeb) (hfit : SpanFits 9 sp) :
    writtenMask sp t = if Carries sp 7 then BitVec.ofNat 7 (sp.val 7) else t.mask := by
  obtain ⟨-, -, hin, -⟩ := hfit
  rw [writtenMask, apply_getD (by rwa [stationWords_length]), stationWords_mask]
  split
  · rfl
  · rw [BitVec.ofNat_toNat, BitVec.setWidth_eq]

theorem writeStations_setFlag (w : Fin 4) {sp : Span} (s : State) (h : Carries sp 8) :
    writeStations w sp s = refuse .check s := by
  have hcovers : sp.covers 8 = true := (LoopProofs.covers_iff sp 8).mpr h
  simp only [writeStations, hcovers, if_true]

theorem writeStations_part (w : Fin 4) {sp : Span} (s : State) (hfit : SpanFits 9 sp) (hset : ¬ Carries sp 8)
    (hstart : sp.start ≤ 6) (hpart : ¬ (sp.start = 0 ∧ 7 ≤ sp.vals.length)) : writeStations w sp s = refuse .check s := by
  obtain ⟨hone, -, -, -⟩ := hfit
  have hcovers : ¬ sp.covers 8 = true := mt (LoopProofs.covers_iff sp 8).mp hset
  have htouches : sp.touches 0 7 = true := (touches_iff sp 0 7).mpr (by omega)
  have hholds : sp.holds 0 7 = false := by
    rw [Bool.eq_false_iff]
    simp only [Span.holds, ne_eq, Bool.and_eq_true, decide_eq_true_eq]
    omega
  simp only [writeStations, hcovers, htouches, hholds, Bool.not_false, Bool.and_self, if_true, ite_self]

theorem writeStations_mask (w : Fin 4) (m : Nat) (s : State) (hfit : SpanFits 9 ⟨7, [m]⟩) :
    writeStations w ⟨7, [m]⟩ s = done (s.setTrack w { s.track w with mask := BitVec.ofNat 7 m }) := by
  have hmask : BitVec.ofNat 7 ((Span.apply ⟨7, [m]⟩ (stationWords (s.track w))).getD 7 0) = BitVec.ofNat 7 m :=
    (writtenMask_eq (s.track w) hfit).trans (if_pos (by simp [Carries]))
  have hcovers : Span.covers ⟨7, [m]⟩ 8 = false := rfl
  have htouches : Span.touches ⟨7, [m]⟩ 0 7 = false := rfl
  simp only [writeStations, hcovers, htouches, hmask, Bool.false_and, Bool.not_false, Bool.false_eq_true, if_false, if_true]

/-- The distances in the image that a write of all seven leaves. -/
theorem written_distances {d : Tab Nat 7} {rest : List Nat} (t : TrackWeb) (hfit : SpanFits 9 ⟨0, d.items ++ rest⟩) :
    (Tab.ofFn fun i : Fin 7 => (Span.apply ⟨0, d.items ++ rest⟩ (stationWords t)).getD i.val 0) = d := by
  obtain ⟨-, -, hin, -⟩ := hfit
  refine tab_ext (List.ext_getElem (by simp [Tab.size]) fun i hi hi' => ?_)
  have hi7 : i < 7 := by rwa [Tab.size] at hi'
  simp only [Tab.ofFn, List.getElem_ofFn]
  rw [apply_getD (by rwa [stationWords_length]), if_pos]
  · rw [Span.val, Nat.sub_zero, List.getD_append _ _ _ _ hi', List.getD_eq_getElem _ _ hi']
  · simp only [Carries, List.length_append, Tab.size]
    omega

/-- The mask after all seven distances and perhaps the mask are written. -/
def maskAfter (t : TrackWeb) (rest : List Nat) : BitVec 7 := match rest with | [] => t.mask | m :: _ => BitVec.ofNat 7 m

theorem written_mask_whole {d : Tab Nat 7} {rest : List Nat} (t : TrackWeb) (hfit : SpanFits 9 ⟨0, d.items ++ rest⟩)
    (hrest : rest.length ≤ 1) : BitVec.ofNat 7 ((Span.apply ⟨0, d.items ++ rest⟩ (stationWords t)).getD 7 0) =
      maskAfter t rest := by
  refine (writtenMask_eq t hfit).trans ?_
  match rest with
  | [] => exact if_neg (by simp [Carries, Tab.size])
  | [m] =>
    rw [if_pos (by simp [Carries, Tab.size]), Span.val, Nat.sub_zero,
      List.getD_append_right _ _ _ _ (by simp [Tab.size]), Tab.size] <;> rfl
  | _ :: _ :: _ => simp at hrest

/-- The distances rise as a web's stations stand. -/
def Rises (d : Tab Nat 7) : Prop :=
  100 ≤ d.get 0 ∧ d.get 0 + 500 ≤ d.get 1 ∧ d.get 1 + 500 ≤ d.get 2 ∧ d.get 2 + 500 ≤ d.get 3 ∧
    d.get 3 + 500 ≤ d.get 4 ∧ d.get 4 < d.get 5 ∧ d.get 5 < d.get 6

theorem stationsFit_iff (d : Tab Nat 7) : stationsFit d = true ↔ Rises d := by
  simp only [stationsFit, Rises, Bool.and_eq_true, decide_eq_true_eq, and_assoc]

theorem any_high_iff (d : Tab Nat 7) :
    (d.items.any fun x => decide (60000 < x)) = true ↔ ¬ ∀ i, d.get i ≤ 60000 := by
  simp only [List.any_eq_true, decide_eq_true_eq, not_forall, Nat.not_le]
  constructor
  · rintro ⟨x, hx, hhigh⟩
    obtain ⟨i, hi, rfl⟩ := List.mem_iff_getElem.mp hx
    exact ⟨⟨i, by rwa [Tab.size] at hi⟩, hhigh⟩
  · rintro ⟨i, hhigh⟩
    exact ⟨d.get i, List.get_mem _ _, hhigh⟩

/-- A write of all seven distances, check by check. -/
theorem writeStations_whole (w : Fin 4) {d : Tab Nat 7} {rest : List Nat} (s : State)
    (hfit : SpanFits 9 ⟨0, d.items ++ rest⟩) (hrest : rest.length ≤ 1) :
    writeStations w ⟨0, d.items ++ rest⟩ s =
      if s.mode w ≠ .idle then refuse .state s
      else if d.items.any (fun x => decide (60000 < x)) then refuse .range s
      else if !stationsFit d then refuse .check s
      else done (s.setTrack w { s.track w with
        stations := d, stationsSet := true, mask := maskAfter (s.track w) rest }) := by
  have hlen : (d.items ++ rest).length = 7 + rest.length := by rw [List.length_append, Tab.size]
  have hcovers : ¬ Span.covers ⟨0, d.items ++ rest⟩ 8 = true := by
    rw [LoopProofs.covers_iff]
    simp only [Carries, hlen]
    omega
  have htouches : Span.touches ⟨0, d.items ++ rest⟩ 0 7 = true := (touches_iff _ 0 7).mpr (by simp only [hlen]; omega)
  have hholds : Span.holds ⟨0, d.items ++ rest⟩ 0 7 = true := by
    simp only [Span.holds, Bool.and_eq_true, decide_eq_true_eq, hlen]
    omega
  unfold writeStations
  simp only [hcovers, htouches, hholds, written_distances _ hfit, written_mask_whole _ hfit hrest, if_false, Bool.not_true,
    Bool.and_false, Bool.false_eq_true]

/-- Settles O17: the set flag, distances in part, the mask alone, and all seven distances. -/
theorem stationsWritten : Obligations.StationsWritten := by
  intro s tag w sp hs hfit
  have hanswer : ∀ {st : Status} {clamped : Bool} {data : List Byte} {t : State},
      writeStations w sp (passed s) = ⟨st, clamped, data, t⟩ → t.ring.node = s.ring.node →
      Answered (.writeStations ⟨tag, spanArgs w.val sp⟩) s tag 2 st clamped data t := fun howner hnode =>
    answered_of_write (mk := Instr.writeStations) (fun _ _ => rfl) tag w hs (by decide) hfit (by decide) howner hnode
  refine ⟨fun hset => hanswer (writeStations_setFlag w _ hset) (passed_node s),
    fun hset hstart hpart => hanswer (writeStations_part w _ hfit hset hstart hpart) (passed_node s), ?_, ?_⟩
  · rintro m rfl
    refine hanswer (t := { passed s with tracker := _ }) ((writeStations_mask w m _ hfit).trans ?_) (passed_node s)
    rw [passed_track, setTrack_passed]
    rfl
  · rintro d rest rfl hrest
    have howner := writeStations_whole w (passed s) hfit hrest
    rw [passed_mode, passed_track, setTrack_passed] at howner
    refine ⟨fun hmoves => ?_, fun hidle hhigh => ?_, fun hidle hlow hfalls => ?_, fun hidle hlow hrises => ?_⟩
    · rw [if_pos hmoves] at howner
      exact hanswer howner (passed_node s)
    · rw [if_neg (not_not_intro hidle), if_pos ((any_high_iff d).mpr hhigh)] at howner
      exact hanswer howner (passed_node s)
    · have hfit' : stationsFit d = false := Bool.eq_false_iff.mpr (mt (stationsFit_iff d).mp hfalls)
      rw [if_neg (not_not_intro hidle), if_neg (mt (any_high_iff d).mp (not_not_intro hlow)), hfit'] at howner
      exact hanswer howner (passed_node s)
    · rw [if_neg (not_not_intro hidle), if_neg (mt (any_high_iff d).mp (not_not_intro hlow)),
        (stationsFit_iff d).mpr hrises] at howner
      exact hanswer howner (passed_node s)

/-! ## The image of a coverage bank (R6) -/

/-- Three words at a time, an image gives its piece back. -/
theorem flatMap_three (ws : List Nat) (start n : Nat) (hin : start + 3 * n ≤ ws.length) :
    ((List.range n).flatMap fun i => [ws.getD (start + 3 * i) 0, ws.getD (start + 1 + 3 * i) 0, ws.getD (start + 2 + 3 * i) 0]) =
      (ws.drop start).take (3 * n) := by
  induction n with
  | zero => rfl
  | succ n ih =>
    have hthree : [ws.getD (start + 3 * n) 0, ws.getD (start + 1 + 3 * n) 0, ws.getD (start + 2 + 3 * n) 0] =
        ((ws.drop start).drop (3 * n)).take 3 := by
      refine List.ext_getElem (by simp; omega) fun i hi hi' => ?_
      have hi3 : i < 3 := hi
      simp only [List.getElem_take, List.getElem_drop]
      interval_cases i
      · exact List.getD_eq_getElem _ _ (by omega)
      · simp only [List.getElem_cons_succ, List.getElem_cons_zero]
        rw [List.getD_eq_getElem _ _ (by omega)]
        congr 1
        omega
      · simp only [List.getElem_cons_succ, List.getElem_cons_zero]
        rw [List.getD_eq_getElem _ _ (by omega)]
        congr 1
        omega
    rw [List.range_succ, List.flatMap_append, ih (by omega), List.flatMap_singleton, hthree, Nat.mul_succ, List.take_add]

theorem runMarkerWord_le (m : Option (Fin 7)) : runMarkerWord m ≤ 7 := by
  cases m with
  | none => exact Nat.zero_le _
  | some k => exact k.isLt

theorem runMarkerWord_runMarkerOfWord {v : Nat} (h : v ≤ 7) : runMarkerWord (runMarkerOfWord v) = v := by
  interval_cases v <;> rfl

theorem coverage_words_length (b : CoverageBank) : b.words.length = 98 := by
  have hrun : ∀ r : CoverageRun, r.words.length = 3 := fun _ => rfl
  simp [CoverageBank.words, hrun, Tab.size]

/-- The word of the image at place `k` of run `i`. -/
theorem flatMap_words_getD (rs : List CoverageRun) {i k : Nat} (hk : k < 3) (hi : i < rs.length) :
    (rs.flatMap CoverageRun.words).getD (3 * i + k) 0 = rs[i].words.getD k 0 := by
  induction rs generalizing i with
  | nil => simp at hi
  | cons r rest ih =>
    have hlen : r.words.length = 3 := rfl
    rw [List.flatMap_cons]
    cases i with
    | zero =>
      rw [List.getD_append _ _ _ _ (by omega)]
      simp
    | succ i =>
      rw [List.getD_append_right _ _ _ _ (by omega), hlen, show 3 * (i + 1) + k - 3 = 3 * i + k by omega,
        ih (by simpa using hi)]
      rfl

/-- A marker word of an image is at most 7. -/
theorem coverage_marker_le (b : CoverageBank) {i : Nat} (hi : i < 32) : b.words.getD (4 + 3 * i) 0 ≤ 7 := by
  have hword := flatMap_words_getD b.runs.items (i := i) (k := 2) (by decide) (by rwa [Tab.size])
  have hplace : b.words.getD (4 + 3 * i) 0 = (b.runs.items.flatMap CoverageRun.words).getD (3 * i + 2) 0 := by
    rw [CoverageBank.words, List.getD_append_right _ _ _ _ (by simp; omega)]
    congr 1
    simp
    omega
  rw [hplace, hword]
  exact runMarkerWord_le _

/-- An image whose marker words are codes is the image of the bank read from it. -/
theorem coverage_words_ofWords {ws : List Nat} (hlen : ws.length = 98) (hmarkers : ∀ i, i < 32 → ws.getD (4 + 3 * i) 0 ≤ 7) :
    (CoverageBank.ofWords ws).words = ws := by
  have hruns : (CoverageBank.ofWords ws).runs.items.flatMap CoverageRun.words =
      (List.range 32).flatMap fun i => [ws.getD (2 + 3 * i) 0, ws.getD (2 + 1 + 3 * i) 0, ws.getD (2 + 2 + 3 * i) 0] := by
    have hitems : (CoverageBank.ofWords ws).runs.items = (List.range 32).map fun i =>
        (⟨ws.getD (2 + 3 * i) 0, ws.getD (3 + 3 * i) 0, runMarkerOfWord (ws.getD (4 + 3 * i) 0)⟩ : CoverageRun) := by
      refine List.ext_getElem (by simp [Tab.size]) fun i hi hi' => ?_
      simp only [CoverageBank.ofWords, Tab.ofFn, List.getElem_ofFn, List.getElem_map, List.getElem_range]
    rw [hitems, List.flatMap_map]
    refine List.flatMap_congr fun i hi => ?_
    rw [CoverageRun.words, runMarkerWord_runMarkerOfWord (hmarkers i (List.mem_range.mp hi))]
  have hhead : [ws.getD 0 0, ws.getD 1 0] = ws.take 2 := by
    refine List.ext_getElem (by simp [hlen]) fun i hi hi' => ?_
    have hi2 : i < 2 := hi
    rw [List.getElem_take]
    interval_cases i <;> exact List.getD_eq_getElem _ _ _
  rw [CoverageBank.words, hruns, flatMap_three ws 2 32 (by omega)]
  show [ws.getD 0 0, ws.getD 1 0] ++ _ = ws
  have htail : (ws.drop 2).take (3 * 32) = ws.drop 2 := List.take_of_length_le (by simp [hlen])
  rw [hhead, htail, List.take_append_drop]

/-- The ranges of R6, by word of the image. -/
def coverageRange (i : Nat) : Nat × Nat :=
  if i = 0 then (200, 2000) else if i = 1 then (1, 32) else if (i - 2) % 3 = 0 then (5, 4000)
  else if (i - 2) % 3 = 1 then (0, 4000) else (0, 7)

def coverageRanges : List (Nat × Nat) := [(200, 2000), (1, 32)] ++ (List.replicate 32 [(5, 4000), (0, 4000), (0, 7)]).flatten

theorem coverageRanges_eq_map : coverageRanges = (List.range 98).map coverageRange := by decide +kernel

theorem coverageRanges_getD {i : Nat} (hi : i < 98) : coverageRanges.getD i (0, 0) = coverageRange i := by
  rw [coverageRanges_eq_map, List.getD_eq_getElem _ _ (by simpa using hi)]
  simp

theorem coverageWordOk_iff (i v : Nat) (hi : i < 98) :
    coverageWordOk i v = true ↔ (coverageRanges.getD i (0, 0)).1 ≤ v ∧ v ≤ (coverageRanges.getD i (0, 0)).2 := by
  rw [coverageRanges_getD hi, coverageWordOk, coverageRange]
  split_ifs <;> simp [within]

theorem coverage_inRange_iff {sp : Span} (hfit : SpanFits 98 sp) :
    sp.inRange coverageWordOk = true ↔ InRanges coverageRanges sp := by
  obtain ⟨-, -, hin, -⟩ := hfit
  exact inRange_iff_inRanges coverageWordOk_iff hin

theorem writtenCoverage_words {sp : Span} (b : CoverageBank) (hfit : SpanFits 98 sp) (hrange : InRanges coverageRanges sp) :
    (CoverageBank.ofWords (sp.apply b.words)).words = sp.apply b.words := by
  obtain ⟨-, -, hin, -⟩ := hfit
  have hin' : sp.start + sp.vals.length ≤ b.words.length := by rwa [coverage_words_length]
  refine coverage_words_ofWords ((apply_length hin').trans (coverage_words_length b)) fun i hi => ?_
  have hmost : (coverageRanges.getD (4 + 3 * i) (0, 0)).2 = 7 := by
    rw [coverageRanges_getD (by omega), coverageRange, if_neg (by omega), if_neg (by omega), if_neg (by omega),
      if_neg (by omega)]
  have hword := HousingProofs.apply_getD_le hin' hrange (i := 4 + 3 * i) (by rw [hmost]; exact coverage_marker_le b hi)
  rwa [hmost] at hword

/-! ## WRITE_COVERAGE and VALIDATE_COVERAGE (R6, R7) -/

/-- The COVERAGE index of a web's bank, 2w + bank (Table 11-7). -/
def coverageIndex (w : Fin 4) (bank : CovBank) : Fin 8 :=
  ⟨2 * w.val + match bank with | .a => 0 | .b => 1, by cases bank <;> dsimp only <;> omega⟩

@[simp] theorem coverageWeb_coverageIndex (w : Fin 4) (bank : CovBank) : coverageWeb (coverageIndex w bank) = w := by
  cases bank <;> (revert w; decide)

@[simp] theorem coverageBankOf_coverageIndex (w : Fin 4) (bank : CovBank) : coverageBankOf (coverageIndex w bank) = bank := by
  cases bank <;> (revert w; decide)

theorem activeBank_eq_none_iff (t : TrackWeb) : t.activeBank = none ↔ t.bankA.state ≠ .active ∧ t.bankB.state ≠ .active := by
  unfold TrackWeb.activeBank
  split_ifs with ha hb <;> simp [*]

/-- The bank takes no write. -/
def CoverageBusy (s : State) (w : Fin 4) (bank : CovBank) : Prop :=
  ((s.track w).bank bank).state = .active ∨
    s.mode w ≠ .idle ∧ (s.track w).bankA.state ≠ .active ∧ (s.track w).bankB.state ≠ .active

theorem writeCoverage_busy {w : Fin 4} {bank : CovBank} (sp : Span) {s : State} (h : CoverageBusy s w bank) :
    writeCoverage (coverageIndex w bank) sp s = refuse .busy s := by
  unfold writeCoverage
  simp only [coverageWeb_coverageIndex, coverageBankOf_coverageIndex, activeBank_eq_none_iff]
  rcases h with h | h
  · rw [if_pos h]
  · rw [if_pos h, ite_self]

theorem writeCoverage_not_busy {w : Fin 4} {bank : CovBank} (sp : Span) {s : State} (h : ¬ CoverageBusy s w bank) :
    writeCoverage (coverageIndex w bank) sp s = if !sp.inRange coverageWordOk then refuse .range s
      else done (s.setTrack w ((s.track w).setBank bank (CoverageBank.ofWords (sp.apply ((s.track w).bank bank).words)))) := by
  obtain ⟨hstate, hidle⟩ := not_or.mp h
  unfold writeCoverage
  simp only [coverageWeb_coverageIndex, coverageBankOf_coverageIndex, activeBank_eq_none_iff]
  rw [if_neg hstate, if_neg hidle]

/-- What VALIDATE asks of a bank. -/
def CoverageFits (b : CoverageBank) : Prop :=
  1 ≤ b.runCount ∧ b.runCount ≤ 32 ∧ 200 ≤ b.repeatLength ∧ b.repeatLength ≤ 2000 ∧
    (∀ r ∈ b.runs.items.take b.runCount, 5 ≤ r.length ∧ r.length ≤ 4000) ∧
    ((b.runs.items.take b.runCount).map CoverageRun.length).sum = b.repeatLength

theorem coverageSound_iff (b : CoverageBank) : coverageSound b = true ↔ CoverageFits b := by
  simp only [coverageSound, CoverageFits, within, Bool.and_eq_true, List.all_eq_true, decide_eq_true_eq, and_assoc]

theorem validateCoverage_eq (w : Fin 4) (bank : CovBank) (rest : List Byte) (s : State) :
    validateCoverage (coverageIndex w bank) rest s =
      if ((s.track w).bank bank).state ≠ .invalid then done s
      else if coverageSound ((s.track w).bank bank) then
        done (s.setTrack w ((s.track w).setBank bank { (s.track w).bank bank with state := .valid }))
      else refuse .check s := by
  unfold validateCoverage
  simp only [coverageWeb_coverageIndex, coverageBankOf_coverageIndex]

/-- WRITE_COVERAGE, the first half of O18. -/
theorem coverageWritten (s : State) (tag : Byte) (w : Fin 4) (bank : CovBank) (sp : Span) (hs : InService s)
    (hfit : SpanFits 98 sp) :
    (CoverageBusy s w bank →
      Refused (.writeCoverage ⟨tag, spanArgs (coverageIndex w bank).val sp⟩) s tag 2 .busy []) ∧
    (¬ CoverageBusy s w bank → ¬ InRanges coverageRanges sp →
      Refused (.writeCoverage ⟨tag, spanArgs (coverageIndex w bank).val sp⟩) s tag 2 .range []) ∧
    (¬ CoverageBusy s w bank → InRanges coverageRanges sp → ∃ x' : CoverageBank,
      Carried sp ((s.track w).bank bank).words x'.words ∧ x'.state = .invalid ∧
      Done (.writeCoverage ⟨tag, spanArgs (coverageIndex w bank).val sp⟩) s tag 2 { passed s with
        tracker := { s.tracker with webs := s.tracker.webs.set w ((s.track w).setBank bank x') } }) := by
  have hanswer : ∀ {st : Status} {clamped : Bool} {data : List Byte} {t : State},
      writeCoverage (coverageIndex w bank) sp (passed s) = ⟨st, clamped, data, t⟩ → t.ring.node = s.ring.node →
      Answered (.writeCoverage ⟨tag, spanArgs (coverageIndex w bank).val sp⟩) s tag 2 st clamped data t := fun howner hnode =>
    answered_of_write (mk := Instr.writeCoverage) (fun _ _ => rfl) tag _ hs (by decide) hfit (by decide) howner hnode
  have hpassed : CoverageBusy (passed s) w bank ↔ CoverageBusy s w bank := by
    rw [CoverageBusy, CoverageBusy, passed_track, passed_mode]
  refine ⟨fun hbusy => hanswer (writeCoverage_busy sp (hpassed.mpr hbusy)) (passed_node s), fun hfree hrange => ?_,
    fun hfree hrange => ⟨CoverageBank.ofWords (sp.apply ((s.track w).bank bank).words),
      writtenCoverage_words _ hfit hrange, rfl, ?_⟩⟩
  all_goals
    have howner := writeCoverage_not_busy sp (mt hpassed.mp hfree)
    rw [passed_track, setTrack_passed] at howner
  · rw [Bool.eq_false_iff.mpr (mt (coverage_inRange_iff hfit).mp hrange)] at howner
    exact hanswer howner (passed_node s)
  · rw [(coverage_inRange_iff hfit).mpr hrange] at howner
    exact hanswer howner (passed_node s)

/-- VALIDATE_COVERAGE, the second half of O18. -/
theorem coverageValidated (s : State) (tag : Byte) (w : Fin 4) (bank : CovBank) (hs : InService s) :
    (((s.track w).bank bank).state ≠ .invalid →
      Done (.validateCoverage ⟨tag, [BitVec.ofNat 8 (coverageIndex w bank).val]⟩) s tag 3 (passed s)) ∧
    (((s.track w).bank bank).state = .invalid → CoverageFits ((s.track w).bank bank) →
      Done (.validateCoverage ⟨tag, [BitVec.ofNat 8 (coverageIndex w bank).val]⟩) s tag 3 { passed s with
        tracker := { s.tracker with
          webs := s.tracker.webs.set w ((s.track w).setBank bank { (s.track w).bank bank with state := .valid }) } }) ∧
    (((s.track w).bank bank).state = .invalid → ¬ CoverageFits ((s.track w).bank bank) →
      Refused (.validateCoverage ⟨tag, [BitVec.ofNat 8 (coverageIndex w bank).val]⟩) s tag 3 .check []) := by
  have hindex : (BitVec.ofNat 8 (coverageIndex w bank).val).toNat = (coverageIndex w bank).val := by
    rw [BitVec.toNat_ofNat]
    omega
  have hanswer : ∀ {st : Status} {clamped : Bool} {data : List Byte} {t : State},
      validateCoverage (coverageIndex w bank) [] (passed s) = ⟨st, clamped, data, t⟩ → t.ring.node = s.ring.node →
      Answered (.validateCoverage ⟨tag, [BitVec.ofNat 8 (coverageIndex w bank).val]⟩) s tag 3 st clamped data t := by
    intro st clamped data t howner hnode
    refine answered_of_owner (code := 3) (rq := ⟨tag, [BitVec.ofNat 8 (coverageIndex w bank).val]⟩)
      (owner := indexed 8 validateCoverage) rfl hs ?_ hnode
    rw [indexed_cons _ _ _ _ _ (hindex.trans_lt (coverageIndex w bank).isLt)]
    simpa only [hindex, Fin.eta] using howner
  have howner := validateCoverage_eq w bank [] (passed s)
  rw [passed_track, setTrack_passed] at howner
  refine ⟨fun hstate => ?_, fun hstate hsound => ?_, fun hstate hsound => ?_⟩
  · rw [if_pos hstate] at howner
    exact hanswer howner (passed_node s)
  · rw [if_neg (not_not_intro hstate), if_pos ((coverageSound_iff _).mpr hsound)] at howner
    exact hanswer howner (passed_node s)
  · rw [if_neg (not_not_intro hstate), if_neg (mt (coverageSound_iff _).mp hsound)] at howner
    exact hanswer howner (passed_node s)

/-- Settles O18: the write and the validation of a coverage bank. -/
theorem coverageWrittenAndValidated : Obligations.CoverageWrittenAndValidated :=
  ⟨coverageWritten, coverageValidated⟩

/-! ## WRITE_RAMP_MEMORY (R148) -/

/-- A word written leaves every other word, in a memory of any form. -/
theorem read_write_other (m : RampMemory) {a x : Nat} (v : BitVec 16) (hx : x ≠ a) :
    RampMemory.read (RampMemory.write m a v) x = RampMemory.read m x := by
  induction m with
  | nil =>
    unfold RampMemory.write
    split_ifs
    · rfl
    · simp [RampMemory.read, hx]
  | cons p rest ih =>
    obtain ⟨k, y⟩ := p
    unfold RampMemory.write
    split_ifs with hlt hv heq hv
    · rfl
    · simp [RampMemory.read, hx]
    · subst heq
      simp [RampMemory.read, hx]
    · subst heq
      simp [RampMemory.read, hx]
    · simp [RampMemory.read, ih]

theorem read_writeAll_other (m : RampMemory) (a : Nat) (vs : List (BitVec 16)) {x : Nat} (hx : x < a ∨ a + vs.length ≤ x) :
    RampMemory.read (RampMemory.writeAll m a vs) x = RampMemory.read m x := by
  induction vs generalizing m a with
  | nil => rfl
  | cons v rest ih =>
    rw [List.length_cons] at hx
    rw [RampMemory.writeAll, ih _ _ (by omega), read_write_other m v (by omega)]

/-- The argument bytes of a RAMP_MEMORY write from the address on. -/
def rampArgs (hi lo : Byte) (vs : List (BitVec 16)) (extra : List Byte) : List Byte :=
  hi :: lo :: BitVec.ofNat 8 vs.length :: (vs.flatMap fun v => wordBytes v.toNat) ++ extra

theorem flatMap_wordBytes (vs : List (BitVec 16)) :
    (vs.flatMap fun v => wordBytes v.toNat) = bytesOfWords (vs.map BitVec.toNat) := by
  rw [bytesOfWords, List.flatMap_map]

theorem rampArgs_length (hi lo : Byte) (vs : List (BitVec 16)) (extra : List Byte) :
    (rampArgs hi lo vs extra).length = 3 + 2 * vs.length + extra.length := by
  simp only [rampArgs, flatMap_wordBytes, List.length_append, List.length_cons, bytesOfWords_length, List.length_map]
  omega

/-- The words of a RAMP_MEMORY write as its bytes spell them. -/
theorem rampArgs_words (hi lo : Byte) (vs : List (BitVec 16)) (extra : List Byte) :
    (wordsOfBytes (((rampArgs hi lo vs extra).drop 3).take (2 * vs.length))).map (BitVec.ofNat 16) = vs := by
  have hdrop : (rampArgs hi lo vs extra).drop 3 = bytesOfWords (vs.map BitVec.toNat) ++ extra := by
    rw [← flatMap_wordBytes]
    rfl
  have hlen : 2 * vs.length = (bytesOfWords (vs.map BitVec.toNat)).length := by
    rw [bytesOfWords_length, List.length_map]
  rw [hdrop, hlen, List.take_left, wordsOfBytes_bytesOfWords, List.map_map]
  · refine (List.map_congr_left fun v _ => ?_).trans (List.map_id vs)
    simp
  · intro w hw
    obtain ⟨v, -, rfl⟩ := List.mem_map.mp hw
    exact v.isLt

theorem rampSpan_rampArgs (hi lo : Byte) {vs : List (BitVec 16)} (extra : List Byte) (hlen : vs.length < 256) :
    rampSpan (rampArgs hi lo vs extra) =
      if vs.length = 0 ∨ 8 < vs.length ∨ 1024 < hi.toNat * 256 + lo.toNat + vs.length then none
      else some (hi.toNat * 256 + lo.toNat, vs.length) := by
  have haddress : wordAt (rampArgs hi lo vs extra) 0 = hi.toNat * 256 + lo.toNat := rfl
  have hcount : byteAt (rampArgs hi lo vs extra) 2 = vs.length := by
    show (BitVec.ofNat 8 vs.length).toNat = vs.length
    rw [BitVec.toNat_ofNat]
    omega
  unfold rampSpan
  simp only [haddress, hcount, rampArgs_length, Config.rampWords]
  refine if_congr ?_ rfl rfl
  omega

theorem writeRampMemory_range (i : Fin 1) {args : List Byte} (s : State) (h : rampSpan args = none) :
    writeRampMemory i args s = refuse .range s := by
  simp only [writeRampMemory, h]

theorem writeRampMemory_done (i : Fin 1) {hi lo : Byte} {vs : List (BitVec 16)} {extra : List Byte} (s : State)
    (h : rampSpan (rampArgs hi lo vs extra) = some (hi.toNat * 256 + lo.toNat, vs.length)) :
    writeRampMemory i (rampArgs hi lo vs extra) s =
      done { s with ramp := { s.ramp with memory := RampMemory.writeAll s.ramp.memory (hi.toNat * 256 + lo.toNat) vs } } := by
  simp only [writeRampMemory, h, rampArgs_length, rampArgs_words]
  rw [if_neg (by omega)]

/-- Settles O23: the span refused, then the words carried and the others. -/
theorem rampMemoryWritten : Obligations.RampMemoryWritten := by
  intro s tag hi lo vs extra hs
  have hanswer : ∀ {st : Status} {clamped : Bool} {data : List Byte} {t : State},
      writeRampMemory 0 (rampArgs hi lo vs extra) (passed s) = ⟨st, clamped, data, t⟩ → t.ring.node = s.ring.node →
      Answered (.writeRampMemory ⟨tag, 0 :: rampArgs hi lo vs extra⟩) s tag 2 st clamped data t := fun howner hnode =>
    answered_of_owner (code := 2) (rq := ⟨tag, 0 :: rampArgs hi lo vs extra⟩) (owner := indexed 1 writeRampMemory) rfl hs
      ((indexed_cons 1 writeRampMemory 0 _ _ (by decide)).trans howner) hnode
  refine ⟨fun hlen hout => ?_, fun hone hmost hin => ?_⟩
  · refine hanswer (writeRampMemory_range 0 _ ?_) (passed_node s)
    rw [rampSpan_rampArgs hi lo extra hlen, if_pos (hout.imp_left fun h => by rw [h]; rfl)]
  · have hspan : rampSpan (rampArgs hi lo vs extra) = some (hi.toNat * 256 + lo.toNat, vs.length) := by
      rw [rampSpan_rampArgs hi lo extra (by omega), if_neg (by omega)]
    refine ⟨RampMemory.writeAll s.ramp.memory (hi.toNat * 256 + lo.toNat) vs, ?_, fun hwf =>
      ⟨writeAll_wf _ _ vs hin hwf, fun k hk => ?_⟩, fun x hx => read_writeAll_other _ _ vs hx⟩
    · have howner := writeRampMemory_done 0 (passed s) hspan
      rw [passed_ramp] at howner
      exact hanswer howner (passed_node s)
    · rw [read_writeAll _ _ _ vs hin hwf, if_pos (by omega), Nat.add_sub_cancel_left, List.getD_eq_getElem _ _ hk]

end Sys2Proof.TrackWriteProofs

/-! # Outputs and movement timers follow the stack (R134, R139 to R141)

The expiry of a movement timer: each lane's first ms at which it differs from last-sent, and the least of them. -/

namespace Sys2Proof.MovementProofs

open Sys2Proof.Machine Sys2Proof.Statements Sys2Proof.Laws Sys2Proof.ChannelProofs

/-! ## Top and output -/

theorem topIx_trip {o : OutputChannel} {e : Entry} (h : o.entries.get 3 = some e) : o.topIx = some 3 := by
  rw [OutputChannel.topIx, h]
  rfl

theorem topIx_brk {o : OutputChannel} {e : Entry} (h3 : o.entries.get 3 = none) (h : o.entries.get 2 = some e) :
    o.topIx = some 2 := by
  rw [OutputChannel.topIx, h3, h]
  rfl

theorem topIx_limit {o : OutputChannel} {e : Entry} (h3 : o.entries.get 3 = none) (h2 : o.entries.get 2 = none)
    (h : o.entries.get 1 = some e) : o.topIx = some 1 := by
  rw [OutputChannel.topIx, h3, h2, h]
  rfl

theorem topIx_operator {o : OutputChannel} {e : Entry} (h3 : o.entries.get 3 = none) (h2 : o.entries.get 2 = none)
    (h1 : o.entries.get 1 = none) (h : o.entries.get 0 = some e) : o.topIx = some 0 := by
  rw [OutputChannel.topIx, h3, h2, h1, h]
  rfl

theorem topIx_none {o : OutputChannel} (h : ∀ i, o.entries.get i = none) : o.topIx = none := by
  rw [OutputChannel.topIx, h, h, h, h]
  rfl

/-- The entry at the top decides top and target. -/
theorem top_target {o : OutputChannel} {i : Fin 4} {e : Entry} (htop : o.topIx = some i) (he : o.entries.get i = some e) :
    o.top = levelAt i ∧ o.target = e.value := by
  simp only [OutputChannel.top, OutputChannel.target, htop, he, and_self]

theorem output_of_jump {o : OutputChannel} (now : PartTime) (h : Jumps o) : o.output now = o.target :=
  if_pos ((jumps_iff o).mpr h)

/-- Without a jump each lane moves from its origin toward its target. -/
theorem output_of_move {o : OutputChannel} (now : PartTime) (h : ¬ Jumps o) : o.output now =
    List.zipWith (moveLane (movedBy o.binding.slew (elapsed now o.originTime))) o.originValue o.target :=
  if_neg (mt (jumps_iff o).mp h)

/-! ## One lane -/

/-- A lane that moves from `a` to `b` differs from its last-sent value `l` at `d` ms. -/
def LaneDiffers (slew deadband a b l d : Nat) : Prop :=
  max deadband 1 ≤ ((moveLane (movedBy slew d) a b : Int) - l).natAbs

theorem movedBy_mono (slew : Nat) {d d' : Nat} (h : d ≤ d') : movedBy slew d ≤ movedBy slew d' :=
  Nat.div_le_div_right (Nat.mul_le_mul_left slew h)

/-- How far the lane must go to differ beyond its last-sent value. -/
def needed (deadband a b l : Nat) : Int := (if a ≤ b then (l : Int) - a else (a : Int) - l) + max deadband 1

/-- A lane that does not differ at `el` differs later exactly when it has gone as far as needed. -/
theorem laneDiffers_later {slew deadband a b l el d : Nat} (hnot : ¬ LaneDiffers slew deadband a b l el) (hd : el ≤ d) :
    LaneDiffers slew deadband a b l d ↔
      needed deadband a b l ≤ ((b : Int) - a).natAbs ∧ needed deadband a b l ≤ movedBy slew d := by
  have hmono := movedBy_mono slew hd
  unfold LaneDiffers moveLane needed at *
  generalize movedBy slew el = m at hmono hnot
  generalize movedBy slew d = n at hmono
  by_cases hab : a ≤ b
  · simp only [if_pos hab] at hnot ⊢
    omega
  · simp only [if_neg hab] at hnot ⊢
    omega

theorem needed_pos {slew deadband a b l el : Nat} (hnot : ¬ LaneDiffers slew deadband a b l el)
    (hreach : needed deadband a b l ≤ ((b : Int) - a).natAbs) : (movedBy slew el : Int) < needed deadband a b l := by
  unfold LaneDiffers moveLane needed at *
  generalize movedBy slew el = m at hnot
  by_cases hab : a ≤ b
  · simp only [if_pos hab] at hnot hreach ⊢
    omega
  · simp only [if_neg hab] at hnot hreach ⊢
    omega

/-- The first ms at which `need` units are gone. -/
theorem le_movedBy_iff {slew : Nat} (hslew : 0 < slew) (need d : Nat) :
    need ≤ movedBy slew d ↔ (need * 1000 + (slew - 1)) / slew ≤ d := by
  rw [movedBy, Nat.le_div_iff_mul_le (by decide), ← Nat.lt_succ_iff (n := d), Nat.div_lt_iff_lt_mul hslew, Nat.succ_mul,
    Nat.mul_comm slew d]
  generalize d * slew = p
  omega

/-- The expiry of a lane: the first ms from `el` on at which it differs, none when it never does. -/
theorem laneExpiry_spec {slew : Nat} (hslew : 0 < slew) (deadband el a b l : Nat) :
    (∀ d, laneExpiry slew deadband el a b l = some d → el ≤ d ∧ LaneDiffers slew deadband a b l d ∧
      ∀ d', el ≤ d' → d' < d → ¬ LaneDiffers slew deadband a b l d') ∧
    (laneExpiry slew deadband el a b l = none → ∀ d, el ≤ d → ¬ LaneDiffers slew deadband a b l d) := by
  have hnow : differs deadband (moveLane (movedBy slew el) a b) l = true ↔ LaneDiffers slew deadband a b l el :=
    decide_eq_true_iff
  by_cases hdiffers : LaneDiffers slew deadband a b l el
  · have hexpiry : laneExpiry slew deadband el a b l = some el := if_pos (hnow.mpr hdiffers)
    rw [hexpiry]
    refine ⟨fun d hd => ?_, fun h => nomatch h⟩
    obtain rfl := Option.some.inj hd
    exact ⟨le_refl _, hdiffers, fun d' hle hlt => absurd hlt (Nat.not_lt.mpr hle)⟩
  · have hexpiry : laneExpiry slew deadband el a b l =
        if needed deadband a b l ≤ ((b : Int) - a).natAbs then
          some (((needed deadband a b l).toNat * 1000 + (slew - 1)) / slew) else none := if_neg (mt hnow.mp hdiffers)
    have hlater := fun {d} => laneDiffers_later (d := d) hdiffers
    by_cases hreach : needed deadband a b l ≤ ((b : Int) - a).natAbs
    · have hgone := needed_pos hdiffers hreach
      have hfirst : ∀ d, needed deadband a b l ≤ (movedBy slew d : Int) ↔
          ((needed deadband a b l).toNat * 1000 + (slew - 1)) / slew ≤ d := fun d => by
        rw [← le_movedBy_iff hslew]
        omega
      rw [hexpiry, if_pos hreach]
      refine ⟨fun d hd => ?_, fun h => nomatch h⟩
      obtain rfl := Option.some.inj hd
      have hle : el ≤ ((needed deadband a b l).toNat * 1000 + (slew - 1)) / slew := by
        by_contra hlt
        have hmoved := (hfirst el).mpr (by omega)
        omega
      refine ⟨hle, (hlater hle).mpr ⟨hreach, (hfirst _).mpr (le_refl _)⟩, fun d' hel hd' hdif => ?_⟩
      have hmoved := (hfirst d').mp ((hlater hel).mp hdif).2
      omega
    · rw [hexpiry, if_neg hreach]
      refine ⟨fun d hd => (nomatch hd), fun _ d hel hdif => ?_⟩
      exact hreach ((hlater hel).mp hdif).1

/-! ## The lanes together -/

theorem mem_laneExpiries (slew deadband el : Nat) (as bs ls : Lanes) (x : Option Nat) :
    x ∈ laneExpiries slew deadband el as bs ls ↔ ∃ (k a b l : Nat), as[k]? = some a ∧ bs[k]? = some b ∧ ls[k]? = some l ∧
      x = laneExpiry slew deadband el a b l := by
  induction as generalizing bs ls with
  | nil => simp [laneExpiries]
  | cons a as ih =>
    cases bs with
    | nil => simp [laneExpiries]
    | cons b bs =>
      cases ls with
      | nil => simp [laneExpiries]
      | cons l ls =>
        rw [laneExpiries, List.mem_cons, ih]
        constructor
        · rintro (rfl | ⟨k, a', b', l', ha, hb, hl, rfl⟩)
          · exact ⟨0, a, b, l, rfl, rfl, rfl, rfl⟩
          · exact ⟨k + 1, a', b', l', ha, hb, hl, rfl⟩
        · rintro ⟨k, a', b', l', ha, hb, hl, rfl⟩
          cases k with
          | zero =>
            obtain rfl := Option.some.inj ha
            obtain rfl := Option.some.inj hb
            obtain rfl := Option.some.inj hl
            exact .inl rfl
          | succ k => exact .inr ⟨k, a', b', l', ha, hb, hl, rfl⟩

theorem earliest_some {xs : List (Option Nat)} {d : Nat} (h : earliest xs = some d) :
    some d ∈ xs ∧ ∀ d', some d' ∈ xs → d ≤ d' := by
  induction xs generalizing d with
  | nil => exact nomatch h
  | cons x rest ih =>
    cases x with
    | none =>
      obtain ⟨hmem, hleast⟩ := ih h
      refine ⟨List.mem_cons_of_mem _ hmem, fun d' hd' => hleast d' ?_⟩
      simpa using hd'
    | some x =>
      cases hrest : earliest rest with
      | none =>
        have hd : d = x := by simpa [earliest, hrest] using h.symm
        have hnone : ∀ d', some d' ∉ rest := by
          intro d' hd'
          clear ih h
          induction rest with
          | nil => exact absurd hd' List.not_mem_nil
          | cons y ys ihys =>
            cases y with
            | none => exact ihys hrest (by simpa using hd')
            | some y => simp [earliest] at hrest
        subst hd
        refine ⟨List.mem_cons_self, fun d' hd' => ?_⟩
        rcases List.mem_cons.mp hd' with heq | hmem
        · rw [Option.some.inj heq]
        · exact absurd hmem (hnone d')
      | some y =>
        obtain ⟨hmem, hleast⟩ := ih hrest
        have hd : d = min x y := by simpa [earliest, hrest] using h.symm
        refine ⟨?_, fun d' hd' => ?_⟩
        · rcases Nat.le_total x y with hxy | hxy
          · rw [hd, Nat.min_eq_left hxy]
            exact List.mem_cons_self
          · rw [hd, Nat.min_eq_right hxy]
            exact List.mem_cons_of_mem _ hmem
        · rcases List.mem_cons.mp hd' with heq | hmem'
          · have hx := Option.some.inj heq
            omega
          · have hy := hleast d' hmem'
            omega

theorem earliest_ne_none {xs : List (Option Nat)} {d : Nat} (h : some d ∈ xs) : earliest xs ≠ none := by
  induction xs with
  | nil => exact absurd h List.not_mem_nil
  | cons x rest ih =>
    cases x with
    | none => exact ih (by simpa using h)
    | some x => simp [earliest]

/-- Some lane differs at `d` ms. -/
def Differs (slew deadband : Nat) (as bs ls : Lanes) (d : Nat) : Prop :=
  ∃ (k a b l : Nat), as[k]? = some a ∧ bs[k]? = some b ∧ ls[k]? = some l ∧ LaneDiffers slew deadband a b l d

theorem earliest_of_first {slew : Nat} (hslew : 0 < slew) {deadband el : Nat} {as bs ls : Lanes} {d : Nat} (hel : el ≤ d)
    (hdif : Differs slew deadband as bs ls d) (hfirst : ∀ d', el ≤ d' → d' < d → ¬ Differs slew deadband as bs ls d') :
    earliest (laneExpiries slew deadband el as bs ls) = some d := by
  obtain ⟨k, a, b, l, ha, hb, hl, hlane⟩ := hdif
  obtain ⟨hsome, hnone⟩ := laneExpiry_spec hslew deadband el a b l
  obtain ⟨e, he⟩ := Option.ne_none_iff_exists'.mp fun h => hnone h d hel hlane
  have hed : e = d := by
    obtain ⟨hele, hlanee, hbefore⟩ := hsome e he
    have hge : ¬ e < d := fun h => hfirst e hele h ⟨k, a, b, l, ha, hb, hl, hlanee⟩
    have hle : ¬ d < e := fun h => hbefore d hel h hlane
    omega
  have hmem : some d ∈ laneExpiries slew deadband el as bs ls :=
    (mem_laneExpiries ..).mpr ⟨k, a, b, l, ha, hb, hl, by rw [he, hed]⟩
  obtain ⟨m, hm⟩ := Option.ne_none_iff_exists'.mp (earliest_ne_none hmem)
  obtain ⟨hmmem, hleast⟩ := earliest_some hm
  obtain ⟨k', a', b', l', ha', hb', hl', hexpiry⟩ := (mem_laneExpiries ..).mp hmmem
  obtain ⟨helm, hlanem, -⟩ := (laneExpiry_spec hslew deadband el a' b' l').1 m hexpiry.symm
  have hge : ¬ m < d := fun h => hfirst m helm h ⟨k', a', b', l', ha', hb', hl', hlanem⟩
  have hle := hleast d hmem
  rw [hm]
  congr 1
  omega

theorem earliest_of_never {slew : Nat} (hslew : 0 < slew) {deadband el : Nat} {as bs ls : Lanes}
    (hnever : ∀ d, el ≤ d → ¬ Differs slew deadband as bs ls d) :
    earliest (laneExpiries slew deadband el as bs ls) = none := by
  by_contra h
  obtain ⟨m, hm⟩ := Option.ne_none_iff_exists'.mp h
  obtain ⟨k, a, b, l, ha, hb, hl, hexpiry⟩ := (mem_laneExpiries ..).mp (earliest_some hm).1
  obtain ⟨helm, hlanem, -⟩ := (laneExpiry_spec hslew deadband el a b l).1 m hexpiry.symm
  exact hnever m helm ⟨k, a, b, l, ha, hb, hl, hlanem⟩

theorem movement_stopped {o : OutputChannel} {now : PartTime} (ls : Option Lanes)
    (h : o.active = false ∨ o.output now = o.target) : o.movement now ls = none := by
  cases ls with
  | none => rfl
  | some ls =>
    refine if_neg ?_
    simp only [Bool.and_eq_true, decide_eq_true_eq, not_and, not_not]
    rintro ⟨hon, -⟩
    exact h.resolve_left (by simp [hon])

theorem movement_running {o : OutputChannel} {now : PartTime} (ls : Lanes) (hon : o.active = true) (hjump : ¬ Jumps o)
    (hmoves : o.output now ≠ o.target) : o.movement now (some ls) =
      (earliest (laneExpiries o.binding.slew o.binding.deadband (elapsed now o.originTime) o.originValue o.target ls)).map
        (after o.originTime) := by
  refine if_pos ?_
  rw [Bool.and_eq_true, Bool.and_eq_true, Bool.not_eq_true', ← Bool.not_eq_true, jumps_iff, decide_eq_true_iff]
  exact ⟨⟨hon, hjump⟩, hmoves⟩

/-- Settles O45: the top by its place, the output by its kind of movement, the timer as the earliest lane. -/
theorem outputsFollowTheStack : Obligations.OutputsFollowTheStack := by
  intro o now at' moved
  have hnojump : o.top ≠ .brk → o.top ≠ .trip → o.binding.slew ≠ 0 → ¬ Jumps o := fun hb ht hs h =>
    h.elim hb fun h => h.elim ht hs
  refine ⟨fun e h3 => top_target (topIx_trip h3) h3, fun e h3 h2 => top_target (topIx_brk h3 h2) h2,
    fun e h3 h2 h1 => top_target (topIx_limit h3 h2 h1) h1, fun e h3 h2 h1 h0 => top_target (topIx_operator h3 h2 h1 h0) h0,
    fun hnone => ?_, output_of_jump now, fun hbrk htrip hslew hlen => ?_, rfl, movement_stopped,
    fun ls hon hbrk htrip hslew hmoves => ?_⟩
  · have htop := (top_eq_schedule_iff o).mpr (topIx_none hnone)
    exact ⟨htop, target_of_top_schedule htop⟩
  · rw [output_of_move now (hnojump hbrk htrip hslew)]
    refine ⟨by rw [List.length_zipWith, hlen, Nat.min_self], fun k a b ha hb => ?_⟩
    rw [List.getElem?_zipWith, ha, hb]
    rfl
  · have hpos : 0 < o.binding.slew := Nat.pos_of_ne_zero hslew
    have hrun := movement_running ls hon (hnojump hbrk htrip hslew) hmoves
    refine ⟨fun d hreached hdif hfirst => ?_, fun hnever => ?_⟩
    · rw [hrun, earliest_of_first (el := elapsed now o.originTime) hpos hreached hdif hfirst]
      rfl
    · rw [hrun, earliest_of_never (el := elapsed now o.originTime) hpos hnever]
      rfl

end Sys2Proof.MovementProofs

/-! # The Ramp Engine: steps, lines, completion (R153 to R158) -/

namespace Sys2Proof.TransferProofs

open Sys2Proof.Machine Sys2Proof.Statements Sys2Proof.Laws Sys2Proof.RampInvariant

/-! ## Ownership -/

theorem ownedValue_eq (o : Tab Ownership 24) (u : RampTarget) :
    ownedValue o u = if (o.get (targetIx u)).owner = none then none else (o.get (targetIx u)).value := by
  simp only [ownedValue]
  cases (o.get (targetIx u)).owner <;> rfl

/-- Entries of no target of the list stand. -/
theorem get_foldl_set_other (v : Ownership) {ts : List RampTarget} (o : Tab Ownership 24) {k : Fin 24}
    (hk : ∀ t ∈ ts, targetIx t ≠ k) : (ts.foldl (fun o t => o.set (targetIx t) v) o).get k = o.get k := by
  induction ts generalizing o with
  | nil => rfl
  | cons t rest ih =>
    obtain ⟨ht, hrest⟩ := List.forall_mem_cons.mp hk
    rw [List.foldl_cons, ih _ hrest, tab_get_set_other _ _ (Ne.symm ht)]

theorem releaseTargets_other {ts : List RampTarget} (o : Tab Ownership 24) {k : Fin 24} (hk : ∀ t ∈ ts, targetIx t ≠ k) :
    (releaseTargets o ts).get k = o.get k := get_foldl_set_other ⟨none, none⟩ o hk

theorem claimTargets_other (j : Fin 8) {ts : List RampTarget} (o : Tab Ownership 24) {k : Fin 24}
    (hk : ∀ t ∈ ts, targetIx t ≠ k) : (claimTargets j o ts).get k = o.get k := get_foldl_set_other ⟨some j, none⟩ o hk

theorem releaseTargets_released {ts : List RampTarget} (o : Tab Ownership 24) {t : RampTarget} (ht : t ∈ ts) :
    (releaseTargets o ts).get (targetIx t) = ⟨none, none⟩ := (releaseTargets_get ts o t).trans (if_pos ht)

theorem claimTargets_claimed (j : Fin 8) {ts : List RampTarget} (o : Tab Ownership 24) {t : RampTarget} (ht : t ∈ ts) :
    (claimTargets j o ts).get (targetIx t) = ⟨some j, none⟩ := (claimTargets_get j ts o t).trans (if_pos ht)

/-! ## One step -/

/-- A pointer modulo 1024, from a count or from an offset. -/
def wrap (p : Int) : Nat := (p % 1024).toNat

theorem movePointer_eq (p : Nat) (off : Int) : movePointer p off = wrap (p + off) := rfl

/-- The table after the word at `p` is written to target `t`. -/
def written (m : RampMemory) (p : Nat) (o : Tab Ownership 24) (t : RampTarget) : Tab Ownership 24 :=
  o.set (targetIx t)
    { o.get (targetIx t) with value := some (max 0 (min (RampMemory.read m p).toInt (targetMax t))).toNat }

theorem takeStep_at (m : RampMemory) {r : RampRun} {t : RampTarget}
    (ht : r.slot.targetList[r.slot.desc.n.getD 0 - r.slot.n]? = some t) :
    takeStep m r = { slot := (advanceSlot r.slot).1, owners := written m r.slot.pointer r.owners t,
                     out := r.out ++ [readerSignal (written m r.slot.pointer r.owners t) t],
                     completed := (advanceSlot r.slot).2 } := by
  have hnext : r.slot.nextTarget = some t := ht
  simp only [takeStep, hnext]
  rfl

section Advance

variable {x : RampSlot}

theorem advanceSlot_inLine (hn : 0 < x.n) :
    advanceSlot x = ({ x with pointer := wrap (x.pointer + 1), n := x.n - 1 }, false) := if_pos hn

theorem advanceSlot_line (hn : x.n = 0) (hl : 0 < x.l) : advanceSlot x =
    ({ x with pointer := wrap (x.pointer + x.desc.off1.getD 0), l := x.l - 1, n := x.desc.n.getD 0 }, false) := by
  simp only [advanceSlot]
  rw [if_neg (by omega), if_pos hl]
  rfl

theorem advanceSlot_block (hn : x.n = 0) (hl : x.l = 0) (hb : 0 < x.b) : advanceSlot x =
    ({ x with pointer := wrap (x.pointer + x.desc.off2.getD 0), b := x.b - 1, l := lineLoad x.desc,
              n := x.desc.n.getD 0 }, false) := by
  simp only [advanceSlot]
  rw [if_neg (by omega), if_neg (by omega), if_pos hb]
  rfl

theorem advanceSlot_end (hn : x.n = 0) (hl : x.l = 0) (hb : x.b = 0) : advanceSlot x = (x.reloaded, true) := by
  simp only [advanceSlot]
  rw [if_neg (by omega), if_neg (by omega), if_neg (by omega)]

end Advance

/-! ## A line -/

/-- The table after the words from `p` on are written to the targets in order. -/
def writtenLine (m : RampMemory) : Nat → Tab Ownership 24 → List RampTarget → Tab Ownership 24
  | _, o, [] => o
  | p, o, t :: ts => writtenLine m (wrap (p + 1)) (written m p o t) ts

/-- The tables as they stand after each of those writes. -/
def lineTables (m : RampMemory) : Nat → Tab Ownership 24 → List RampTarget → List (Tab Ownership 24)
  | _, _, [] => []
  | p, o, t :: ts => written m p o t :: lineTables m (wrap (p + 1)) (written m p o t) ts

theorem lineTables_length (m : RampMemory) (p : Nat) (o : Tab Ownership 24) (ts : List RampTarget) :
    (lineTables m p o ts).length = ts.length := by
  induction ts generalizing p o with
  | nil => rfl
  | cons t rest ih => exact congrArg Nat.succ (ih _ _)

theorem lineTables_getElem (m : RampMemory) (p : Nat) (o : Tab Ownership 24) (ts : List RampTarget) (i : Nat)
    (hi : i < (lineTables m p o ts).length) : (lineTables m p o ts)[i] = writtenLine m p o (ts.take (i + 1)) := by
  induction ts generalizing p o i with
  | nil => simp [lineTables] at hi
  | cons t rest ih =>
    cases i with
    | zero => rfl
    | succ i => exact ih _ _ i (by simpa [lineTables] using hi)

/-- The pointer `k` steps within a line on. -/
theorem wrap_add (p i : Nat) (hp : p < 1024) : wrap ((wrap (p + 1) : Nat) + i) = (p + (i + 1)) % 1024 ∧ wrap p = p := by
  unfold wrap
  omega

theorem written_other (m : RampMemory) (p : Nat) (o : Tab Ownership 24) {t : RampTarget} {k : Fin 24} (hk : targetIx t ≠ k) :
    (written m p o t).get k = o.get k := tab_get_set_other _ _ (Ne.symm hk)

theorem writtenLine_other (m : RampMemory) (p : Nat) (o : Tab Ownership 24) {ts : List RampTarget} {k : Fin 24}
    (hk : ∀ t ∈ ts, targetIx t ≠ k) : (writtenLine m p o ts).get k = o.get k := by
  induction ts generalizing p o with
  | nil => rfl
  | cons t rest ih =>
    obtain ⟨ht, hrest⟩ := List.forall_mem_cons.mp hk
    rw [writtenLine, ih _ _ hrest, written_other m p o ht]

theorem wrap_lt (p : Int) : wrap p < 1024 := by
  unfold wrap
  omega

/-- Each target of a line without repetition takes the word of its place. -/
theorem writtenLine_get (m : RampMemory) {p : Nat} (hp : p < 1024) (o : Tab Ownership 24) {ts : List RampTarget}
    (hnodup : ts.Nodup) {i : Nat} (hi : i < ts.length) : (writtenLine m p o ts).get (targetIx ts[i]) =
      { o.get (targetIx ts[i]) with
        value := some (max 0 (min (RampMemory.read m ((p + i) % 1024)).toInt (targetMax ts[i]))).toNat } := by
  induction ts generalizing p o i with
  | nil => simp at hi
  | cons t rest ih =>
    obtain ⟨ht, hrest⟩ := List.nodup_cons.mp hnodup
    have hne : ∀ u ∈ rest, targetIx u ≠ targetIx t := fun u hu heq => ht (targetIx_injective heq ▸ hu)
    cases i with
    | zero =>
      rw [List.getElem_cons_zero, writtenLine, writtenLine_other _ _ _ hne, written, tab_get_set_same, Nat.add_zero,
        Nat.mod_eq_of_lt hp]
    | succ i =>
      have hi' : i < rest.length := by simpa using hi
      have hother := written_other m p o (Ne.symm (hne _ (List.getElem_mem hi')))
      have hplace : (wrap (p + 1) + i) % 1024 = (p + (i + 1)) % 1024 := by
        unfold wrap
        omega
      rw [List.getElem_cons_succ, writtenLine, ih (wrap_lt _) _ hrest hi', hother, hplace]

/-- The state of the slot at the last step of a line: no step left before it, the pointer at the last word. -/
def atLast (x : RampSlot) (p : Nat) : RampSlot := { x with pointer := p, n := 0 }

/-- The steps of a line from the place `before` on, up to its last. -/
theorem takeLine_eq (m : RampMemory) (rest : List RampTarget) : ∀ (before : List RampTarget) (r : RampRun) (fuel : Nat),
    r.slot.targetList = before ++ rest → rest ≠ [] → r.slot.desc.n.getD 0 + 1 = before.length + rest.length →
    r.slot.n + 1 = rest.length → rest.length ≤ fuel → r.slot.pointer < 1024 →
    takeLine m fuel r =
      { slot := (advanceSlot (atLast r.slot ((r.slot.pointer + (rest.length - 1)) % 1024))).1
        owners := writtenLine m r.slot.pointer r.owners rest
        out := r.out ++ List.zipWith readerSignal (lineTables m r.slot.pointer r.owners rest) rest
        completed := (advanceSlot (atLast r.slot ((r.slot.pointer + (rest.length - 1)) % 1024))).2 } := by
  induction rest with
  | nil => exact fun _ _ _ _ h => absurd rfl h
  | cons t rest ih =>
    intro before r fuel hlist _ hcount hn hfuel hp
    rw [List.length_cons] at hcount hn hfuel
    obtain ⟨fuel, rfl⟩ : ∃ f, fuel = f + 1 := ⟨fuel - 1, by omega⟩
    have hplace : r.slot.targetList[r.slot.desc.n.getD 0 - r.slot.n]? = some t := by
      rw [hlist, show r.slot.desc.n.getD 0 - r.slot.n = before.length by omega, List.getElem?_append_right (le_refl _),
        Nat.sub_self]
      rfl
    have hstep := takeStep_at m hplace
    rw [takeLine]
    cases rest with
    | nil =>
      have hzero : r.slot.n = 0 := by simpa using hn
      have hlast : atLast r.slot ((r.slot.pointer + ([t].length - 1)) % 1024) = r.slot := by
        have hpointer : (r.slot.pointer + ([t].length - 1)) % 1024 = r.slot.pointer := Nat.mod_eq_of_lt hp
        rw [hpointer, atLast]
        conv_rhs => rw [← show ({ r.slot with n := r.slot.n } : RampSlot) = r.slot from rfl, hzero]
      rw [if_pos hzero, hstep, hlast]
      rfl
    | cons u rest =>
      rw [List.length_cons] at hcount hn hfuel
      have hpos : 0 < r.slot.n := by omega
      have hadvance := advanceSlot_inLine hpos
      rw [hadvance] at hstep
      have hpointer : (wrap (r.slot.pointer + 1) + ((u :: rest).length - 1)) % 1024 =
          (r.slot.pointer + ((t :: u :: rest).length - 1)) % 1024 := by
        simp only [List.length_cons, wrap]
        omega
      rw [if_neg (by omega), hstep, ih (before ++ [t]) _ fuel ?_ (by simp) ?_ ?_ (by simp; omega) ?_]
      · simp only [hpointer]
        simp [atLast, writtenLine, lineTables]
      · exact hlist.trans (by simp)
      · simp only [List.length_append, List.length_cons, List.length_nil]
        omega
      · simp only [List.length_cons]
        omega
      · exact wrap_lt (r.slot.pointer + 1)

/-- The tables a line's signals are read from: final for the targets written so far, original for the others. -/
theorem lineTables_get (m : RampMemory) {p : Nat} (hp : p < 1024) (o : Tab Ownership 24) {ts : List RampTarget}
    (hnodup : ts.Nodup) (i : Nat) (hi : i < (lineTables m p o ts).length) (k : Fin 24) :
    ((∃ t ∈ ts.take (i + 1), targetIx t = k) → (lineTables m p o ts)[i].get k = (writtenLine m p o ts).get k) ∧
    ((∀ t ∈ ts.take (i + 1), targetIx t ≠ k) → (lineTables m p o ts)[i].get k = o.get k) := by
  rw [lineTables_getElem]
  refine ⟨?_, writtenLine_other m p o⟩
  rintro ⟨t, ht, rfl⟩
  obtain ⟨n, hn, rfl⟩ := List.mem_iff_getElem.mp ht
  have hin : n < ts.length := by
    rw [List.length_take] at hn
    omega
  rw [writtenLine_get m hp o (hnodup.sublist (List.take_sublist _ _)) hn]
  simp only [List.getElem_take]
  rw [writtenLine_get m hp o hnodup hin]

/-! ## Completion -/

/-- What a completion tells: PROGRAM_DONE and the chain signals. -/
theorem doneSignals_eq (j : Fin 8) {d : RampDescriptor} {e : EndAction} (h : d.endAction = some e) (passes : Nat) :
    doneSignals j d passes = [.noticeRaised (.programDone j e passes)] ++
      ((List.finRange 8).filter fun k => decide (k ≠ j)).map fun k => .trigger k (.chain j) := by
  rw [doneSignals, h]
  rfl

section Complete

variable (j : Fin 8) {r : RampRun}

theorem completePass_hold (h : r.slot.desc.endAction = some .hold) : completePass j r =
    { r with
      slot := { r.slot with passes := min (r.slot.passes + 1) 65535, timer := none, saved := none, state := .holding }
      out := r.out ++ doneSignals j r.slot.desc (min (r.slot.passes + 1) 65535) } := by
  simp only [completePass, endAction, h]
  rfl

theorem completePass_repeat (h : r.slot.desc.endAction = some .repeatPass) : completePass j r =
    { r with
      slot := { r.slot with passes := min (r.slot.passes + 1) 65535 }
      out := r.out ++ doneSignals j r.slot.desc (min (r.slot.passes + 1) 65535) } := by
  simp only [completePass, endAction, h]
  rfl

theorem completePass_release (h : r.slot.desc.endAction = some .release) : completePass j r =
    { r with
      slot := { r.slot with
        passes := min (r.slot.passes + 1) 65535, timer := none, saved := none,
        state := if r.slot.desc.rearm = some true then .armed else .loaded }
      owners := releaseTargets r.owners r.slot.targetList
      out := r.out ++ releaseSignals r.owners r.slot.targetList ++
        doneSignals j r.slot.desc (min (r.slot.passes + 1) 65535) } := by
  simp only [completePass, endAction, h]
  rfl

end Complete

/-- A LINE transfer that begins a line, the third part of O53. -/
theorem lineTransferred (m : RampMemory) (r : RampRun) (ts : List RampTarget) (hline : r.slot.desc.transfer = some .line)
    (htargets : r.slot.desc.targets = some ts) (hdn : r.slot.desc.n = some (ts.length - 1)) (hone : 1 ≤ ts.length)
    (hmost : ts.length ≤ 8) (hn : r.slot.n = ts.length - 1) (hp : r.slot.pointer < 1024) :
    transferSteps m r =
      { slot := (advanceSlot (atLast r.slot ((r.slot.pointer + (ts.length - 1)) % 1024))).1
        owners := writtenLine m r.slot.pointer r.owners ts
        out := r.out ++ List.zipWith readerSignal (lineTables m r.slot.pointer r.owners ts) ts
        completed := (advanceSlot (atLast r.slot ((r.slot.pointer + (ts.length - 1)) % 1024))).2 } := by
  have hlist : r.slot.targetList = ts := by rw [RampSlot.targetList, htargets]; rfl
  have hcount : r.slot.desc.n.getD 0 = ts.length - 1 := by rw [hdn]; rfl
  rw [transferSteps, if_pos hline]
  refine takeLine_eq m ts [] r 8 (by simpa using hlist) (List.ne_nil_of_length_pos hone) ?_ (by omega) hmost hp
  rw [List.length_nil]
  omega

/-- The slot after a line's last step. -/
theorem advanceSlot_atLast (x : RampSlot) (last : Nat) (hn : x.desc.n.getD 0 = x.n) :
    (advanceSlot (atLast x (last % 1024))).1.n = x.n ∧
    (0 < x.l → advanceSlot (atLast x (last % 1024)) =
      ({ x with pointer := wrap (last + x.desc.off1.getD 0), l := x.l - 1 }, false)) ∧
    (x.l = 0 → 0 < x.b → advanceSlot (atLast x (last % 1024)) =
      ({ x with pointer := wrap (last + x.desc.off2.getD 0), b := x.b - 1, l := lineLoad x.desc }, false)) ∧
    (x.l = 0 → x.b = 0 → advanceSlot (atLast x (last % 1024)) =
      ({ x with pointer := x.desc.base.getD 0, l := lineLoad x.desc, b := blockLoad x.desc }, true)) := by
  have hwrap : ∀ off : Int, wrap ((last % 1024 : Nat) + off) = wrap (last + off) := fun off => by
    unfold wrap
    omega
  have hline : 0 < x.l → advanceSlot (atLast x (last % 1024)) =
      ({ x with pointer := wrap (last + x.desc.off1.getD 0), l := x.l - 1 }, false) := fun hl => by
    rw [advanceSlot_line (x := atLast x (last % 1024)) rfl hl, ← hwrap, atLast]
    simp only [hn]
  have hblock : x.l = 0 → 0 < x.b → advanceSlot (atLast x (last % 1024)) =
      ({ x with pointer := wrap (last + x.desc.off2.getD 0), b := x.b - 1, l := lineLoad x.desc }, false) := fun hl hb => by
    rw [advanceSlot_block (x := atLast x (last % 1024)) rfl hl hb, ← hwrap, atLast]
    simp only [hn]
  have hend : x.l = 0 → x.b = 0 → advanceSlot (atLast x (last % 1024)) =
      ({ x with pointer := x.desc.base.getD 0, l := lineLoad x.desc, b := blockLoad x.desc }, true) := fun hl hb => by
    rw [advanceSlot_end (x := atLast x (last % 1024)) rfl hl hb, RampSlot.reloaded, atLast]
    simp only [hn]
  refine ⟨?_, hline, hblock, hend⟩
  rcases Nat.eq_zero_or_pos x.l with hl | hl
  · rcases Nat.eq_zero_or_pos x.b with hb | hb
    · rw [hend hl hb]
    · rw [hblock hl hb]
  · rw [hline hl]

/-- Settles O53: step by step, then a line as its steps, then the completion by its end action. -/
theorem rampTransfers : Obligations.RampTransfers := by
  refine ⟨fun o => ?_, fun m r t => ?_, fun m r ts hline htargets hdn hone hmost hnodup hn hp => ?_, fun m r hstep => ?_,
    fun j m r => ⟨fun h => if_pos h, fun h => if_neg (by simp [h])⟩, fun d => ⟨rfl, rfl, fun r k hr hk => ?_⟩,
    fun j r e he => ?_⟩
  · simp only [readerSignal, ownedValue_eq, and_self, implies_true]
  · intro x d r' word wrap' ht
    have hstep : r' = _ := takeStep_at m ht
    rw [hstep]
    refine ⟨rfl, rfl, fun hn => ?_, fun hn hl => ?_, fun hn hl hb => ?_, fun hn hl hb => ?_⟩
    · rw [advanceSlot_inLine hn]
      exact ⟨rfl, rfl⟩
    · rw [advanceSlot_line hn hl]
      exact ⟨rfl, rfl⟩
    · rw [advanceSlot_block hn hl hb]
      exact ⟨rfl, rfl⟩
    · rw [advanceSlot_end hn hl hb]
      exact ⟨rfl, rfl⟩
  · intro x d r' last wrap'
    have hrun : r' = _ := lineTransferred m r ts hline htargets hdn hone hmost hn hp
    obtain ⟨hlastN, hlineEnd, hblockEnd, hpassEnd⟩ := advanceSlot_atLast r.slot (r.slot.pointer + (ts.length - 1))
      (by rw [hdn, hn]; rfl)
    rw [hrun]
    refine ⟨⟨lineTables m r.slot.pointer r.owners ts, lineTables_length .., rfl,
        fun i hi k => lineTables_get m hp r.owners hnodup i hi k⟩, hlastN.trans hn,
      fun i hi => writtenLine_get m hp r.owners hnodup hi, fun k hk => writtenLine_other m _ _ hk, fun hl => ?_,
      fun hl hb => ?_, fun hl hb => ?_⟩
    · rw [hlineEnd hl]
      exact ⟨rfl, rfl⟩
    · rw [hblockEnd hl hb]
      exact ⟨rfl, rfl⟩
    · rw [hpassEnd hl hb]
      exact ⟨rfl, rfl⟩
  · exact if_neg (by simp [hstep])
  · rw [pacePeriod, hr, hk]
    cases k <;> rfl
  · intro x passes r' told
    have htold : doneSignals j r.slot.desc passes = told := doneSignals_eq j he passes
    refine ⟨?_, ?_, ?_⟩
    · rintro rfl
      have hrun : r' = _ := completePass_hold j he
      rw [hrun, ← htold]
      exact ⟨rfl, rfl, rfl⟩
    · rintro rfl
      have hrun : r' = _ := completePass_repeat j he
      rw [hrun, ← htold]
      exact ⟨rfl, rfl, rfl⟩
    · rintro rfl
      have hrun : r' = _ := completePass_release j he
      rw [hrun, ← htold]
      exact ⟨rfl, fun t ht => releaseTargets_released _ ht, fun k hk => releaseTargets_other _ hk, rfl⟩

end Sys2Proof.TransferProofs

/-! # The Ramp Engine: requests and events (R152 to R163) -/

namespace Sys2Proof.RampProofs

open Sys2Proof.Machine Sys2Proof.Statements Sys2Proof.Laws Sys2Proof.WriteProofs Sys2Proof.SubscriptionProofs
open Sys2Proof.RampInvariant Sys2Proof.TransferProofs

/-! ## A slot replaced -/

/-- The state after a run of slot `j`. -/
def taken (s : State) (j : Fin 8) (r : RampRun) : State :=
  sending { s with ramp := { s.ramp with slots := s.ramp.slots.set j r.slot, owners := r.owners } } r.out

theorem putRun_eq_taken (s : State) (j : Fin 8) (r : RampRun) : s.putRun j r = taken s j r := rfl

theorem putSlot_eq (s : State) (j : Fin 8) (x : RampSlot) :
    s.putSlot j x = { s with ramp := { s.ramp with slots := s.ramp.slots.set j x } } := by
  simp only [State.putSlot, State.putRun, State.rampRun, List.append_nil]

theorem putSlot_passed (s : State) (j : Fin 8) (x : RampSlot) :
    (passed s).putSlot j x = { passed s with ramp := { s.ramp with slots := s.ramp.slots.set j x } } := by
  rw [putSlot_eq, passed_ramp]

theorem putRun_passed (s : State) (j : Fin 8) (r : RampRun) : (passed s).putRun j r =
    sending { passed s with ramp := { s.ramp with slots := s.ramp.slots.set j r.slot, owners := r.owners } } r.out := by
  rw [putRun_eq_taken, taken, passed_ramp]

theorem rampRun_passed (s : State) (j : Fin 8) : (passed s).rampRun j = s.rampRun j := by
  rw [State.rampRun, State.rampRun, passed_ramp]

/-! ## Conflicts and starts -/

theorem firstConflict_eq_none_iff (o : Tab Ownership 24) (ts : List RampTarget) :
    firstConflict o ts = none ↔ ∀ t ∈ ts, (o.get (targetIx t)).owner = none := by
  refine ⟨firstConflict_none, fun h => ?_⟩
  induction ts with
  | nil => rfl
  | cons t rest ih =>
    obtain ⟨ht, hrest⟩ := List.forall_mem_cons.mp h
    simp only [firstConflict, ht]
    exact ih hrest

/-- The first owned target of a list, with its owner. -/
theorem firstConflict_append {o : Tab Ownership 24} {before after : List RampTarget} {t : RampTarget} {k : Fin 8}
    (hfree : ∀ u ∈ before, (o.get (targetIx u)).owner = none) (howned : (o.get (targetIx t)).owner = some k) :
    firstConflict o (before ++ t :: after) = some (t, k) := by
  induction before with
  | nil => simp only [List.nil_append, firstConflict, howned]
  | cons u rest ih =>
    obtain ⟨hu, hrest⟩ := List.forall_mem_cons.mp hfree
    simp only [List.cons_append, firstConflict, hu]
    exact ih hrest

/-- A target of the slot's list has an owner. -/
def Owned (s : State) (j : Fin 8) : Prop :=
  ∃ t ∈ (s.ramp.slots.get j).targetList, (s.ramp.owners.get (targetIx t)).owner ≠ none

theorem conflict_eq_none_iff (s : State) (j : Fin 8) : s.conflict j = none ↔ ¬ Owned s j := by
  rw [State.conflict, firstConflict_eq_none_iff, Owned]
  push Not
  rfl

/-- The run a start begins: targets owned, counters and pointer at their preloads, RUNNING. -/
def startRun (s : State) (j : Fin 8) : RampRun :=
  let x := s.ramp.slots.get j
  { slot := { x.reloaded with
      state := .running, timer := some (s.now + BitVec.ofNat 32 (pacePeriod x.desc)), saved := none, passes := 0 }
    owners := claimTargets j s.ramp.owners x.targetList, out := [], completed := false }

theorem startSlot_eq (s : State) (j : Fin 8) :
    startSlot j s.now s.ramp.memory (s.rampRun j) = takeTransfer j s.ramp.memory (startRun s j) := rfl

theorem started_eq (s : State) (j : Fin 8) :
    s.started j = taken s j (takeTransfer j s.ramp.memory (startRun s j)) := rfl

theorem started_passed (s : State) (j : Fin 8) : (passed s).started j =
    sending { passed s with ramp := { s.ramp with
      slots := s.ramp.slots.set j (takeTransfer j s.ramp.memory (startRun s j)).slot
      owners := (takeTransfer j s.ramp.memory (startRun s j)).owners } }
      (takeTransfer j s.ramp.memory (startRun s j)).out := by
  rw [State.started, putRun_passed, passed_now, passed_ramp, rampRun_passed]
  rfl

/-- The run a stop leaves: targets released, timer stopped, reloaded, LOADED. -/
def stopRun (s : State) (j : Fin 8) : RampRun :=
  let x := s.ramp.slots.get j
  { slot := { x.reloaded with state := .loaded, timer := none, saved := none }
    owners := releaseTargets s.ramp.owners x.targetList
    out := releaseSignals s.ramp.owners x.targetList, completed := false }

theorem stopSlot_eq (s : State) (j : Fin 8) : stopSlot (s.rampRun j) = stopRun s j := by
  simp only [stopSlot, RampRun.release, State.rampRun, stopRun, List.nil_append]

/-! ## Requests (R152, Table 9-4) -/

/-- A request to a ramp slot is answered by the slot's owner on the rest of its arguments. -/
theorem answered_of_slot {f : Fin 8 → List Byte → State → Answer} {mk : Request → Instr}
    (hexec : ∀ rq s, exec (mk rq) s = request 12 rq (indexed 8 f) s) {s t : State} (tag : Byte) (j : Fin 8)
    (extra : List Byte) {st : Status} (hs : InService s) (howner : f j extra (passed s) = ⟨st, false, [], t⟩)
    (hnode : t.ring.node = s.ring.node) : Answered (mk ⟨tag, BitVec.ofNat 8 j.val :: extra⟩) s tag 12 st false [] t := by
  refine answered_of_owner (rq := ⟨tag, BitVec.ofNat 8 j.val :: extra⟩) (code := 12) (hexec _ s) hs ?_ hnode
  have hindex : (BitVec.ofNat 8 j.val).toNat = j.val := by
    rw [BitVec.toNat_ofNat]
    omega
  rw [indexed_cons 8 f _ extra _ (by omega)]
  simp only [hindex, Fin.eta]
  exact howner

section Owners

variable (j : Fin 8) (extra : List Byte) (s : State)

theorem armSlot_passed : armSlot j extra (passed s) = if (s.ramp.slots.get j).state = .loaded then
    done { passed s with ramp := { s.ramp with slots := s.ramp.slots.set j { s.ramp.slots.get j with state := .armed } } }
    else refuse .state (passed s) := by
  rw [← putSlot_passed, armSlot, passed_ramp]

theorem disarmSlot_passed : disarmSlot j extra (passed s) = if (s.ramp.slots.get j).state = .armed then
    done { passed s with ramp := { s.ramp with slots := s.ramp.slots.set j { s.ramp.slots.get j with state := .loaded } } }
    else refuse .state (passed s) := by
  rw [← putSlot_passed, disarmSlot, passed_ramp]

theorem startRequest_passed : startRequest j extra (passed s) =
    if (s.ramp.slots.get j).state = .loaded ∨ (s.ramp.slots.get j).state = .armed then
      if (s.conflict j).isSome then refuse .busy (passed s) else done ((passed s).started j)
    else refuse .state (passed s) := by
  have hconflict : (passed s).conflict j = s.conflict j := by rw [State.conflict, State.conflict, passed_ramp]
  rw [startRequest, passed_ramp]
  refine if_congr Iff.rfl ?_ rfl
  rw [hconflict]
  cases s.conflict j <;> rfl

/-- The slot stands at a line boundary, or its transfers are lines. -/
def AtBoundary (x : RampSlot) : Prop := x.desc.transfer = some .line ∨ x.n = x.desc.n.getD 0

theorem pausedSlot_boundary {x : RampSlot} (now : PartTime) (h : AtBoundary x) :
    pausedSlot now x = { x with state := .paused, saved := x.timer.map (· - now), timer := none } :=
  if_pos (h.imp_right Eq.symm)

theorem pausedSlot_within {x : RampSlot} (now : PartTime) (h : ¬ AtBoundary x) :
    pausedSlot now x = { x with state := .pausing } := if_neg (mt (Or.imp_right Eq.symm) h)

theorem pauseSlot_passed : pauseSlot j extra (passed s) = if (s.ramp.slots.get j).state = .running then
    done { passed s with ramp := { s.ramp with slots := s.ramp.slots.set j (pausedSlot s.now (s.ramp.slots.get j)) } }
    else refuse .state (passed s) := by
  rw [← putSlot_passed, pauseSlot, passed_ramp, passed_now]

theorem resumeSlot_passed : resumeSlot j extra (passed s) = if (s.ramp.slots.get j).state = .paused then
    done { passed s with ramp := { s.ramp with slots := s.ramp.slots.set j { s.ramp.slots.get j with
      state := .running, timer := some (s.now + (s.ramp.slots.get j).saved.getD 0), saved := none } } }
    else if (s.ramp.slots.get j).state = .pausing then
      done { passed s with ramp := { s.ramp with slots := s.ramp.slots.set j { s.ramp.slots.get j with state := .running } } }
    else refuse .state (passed s) := by
  rw [← putSlot_passed, ← putSlot_passed, resumeSlot, passed_ramp, passed_now]

theorem stopRequest_passed : stopRequest j extra (passed s) = if ownsTargets (s.ramp.slots.get j).state then
    done (sending { passed s with ramp := { s.ramp with
      slots := s.ramp.slots.set j (stopRun s j).slot, owners := (stopRun s j).owners } } (stopRun s j).out)
    else refuse .state (passed s) := by
  rw [← putRun_passed, ← stopSlot_eq, stopRequest, passed_ramp, rampRun_passed]

end Owners

/-- Settles O54: each request by the slot's state. -/
theorem rampRequests : Obligations.RampRequests := by
  intro j tag extra s hs x rq put taken owned boundary runs reloaded
  have harm := armSlot_passed j extra s
  have hdisarm := disarmSlot_passed j extra s
  have hstart := startRequest_passed j extra s
  have hpause := pauseSlot_passed j extra s
  have hresume := resumeSlot_passed j extra s
  have hstop := stopRequest_passed j extra s
  have hnode := passed_node s
  refine ⟨fun h => ?_, fun h => ?_, fun h => ?_, fun h => ?_, fun hl ha => ?_, fun h howned => ?_, fun h hfree => ?_,
    fun h hb => ?_, fun h hb => ?_, fun h => ?_, fun left h hsaved => ?_, fun h => ?_, fun hp hpg => ?_, fun h => ?_,
    fun h => ?_⟩
  · exact answered_of_slot (mk := .arm) (fun _ _ => rfl) tag j extra hs (harm.trans (if_pos h)) hnode
  · exact answered_of_slot (mk := .arm) (fun _ _ => rfl) tag j extra hs (harm.trans (if_neg h)) hnode
  · exact answered_of_slot (mk := .disarm) (fun _ _ => rfl) tag j extra hs (hdisarm.trans (if_pos h)) hnode
  · exact answered_of_slot (mk := .disarm) (fun _ _ => rfl) tag j extra hs (hdisarm.trans (if_neg h)) hnode
  · exact answered_of_slot (mk := .start) (fun _ _ => rfl) tag j extra hs (hstart.trans (if_neg (not_or.mpr ⟨hl, ha⟩))) hnode
  · have hconflict : (s.conflict j).isSome = true := by
      rw [Option.isSome_iff_ne_none]
      exact mt (conflict_eq_none_iff s j).mp (not_not_intro howned)
    exact answered_of_slot (mk := .start) (fun _ _ => rfl) tag j extra hs
      (hstart.trans ((if_pos h).trans (if_pos hconflict))) hnode
  · have hconflict : ¬ (s.conflict j).isSome = true := by
      rw [(conflict_eq_none_iff s j).mpr hfree]
      simp
    refine ⟨claimTargets j s.ramp.owners x.targetList, fun t ht => claimTargets_claimed j _ ht,
      fun k hk => claimTargets_other j _ hk, answered_of_slot (mk := .start) (fun _ _ => rfl) tag j extra hs
        (hstart.trans ((if_pos h).trans ((if_neg hconflict).trans ?_))) hnode⟩
    rw [started_passed]
    rfl
  · rw [pausedSlot_boundary s.now hb] at hpause
    exact answered_of_slot (mk := .pause) (fun _ _ => rfl) tag j extra hs (hpause.trans (if_pos h)) hnode
  · rw [pausedSlot_within s.now hb] at hpause
    exact answered_of_slot (mk := .pause) (fun _ _ => rfl) tag j extra hs (hpause.trans (if_pos h)) hnode
  · exact answered_of_slot (mk := .pause) (fun _ _ => rfl) tag j extra hs (hpause.trans (if_neg h)) hnode
  · rw [hsaved] at hresume
    exact answered_of_slot (mk := .resume) (fun _ _ => rfl) tag j extra hs (hresume.trans (if_pos h)) hnode
  · exact answered_of_slot (mk := .resume) (fun _ _ => rfl) tag j extra hs
      (hresume.trans ((if_neg (by rw [h]; decide)).trans (if_pos h))) hnode
  · exact answered_of_slot (mk := .resume) (fun _ _ => rfl) tag j extra hs
      (hresume.trans ((if_neg hp).trans (if_neg hpg))) hnode
  · exact answered_of_slot (mk := .stop) (fun _ _ => rfl) tag j extra hs
      (hstop.trans (if_neg (mt (ownsTargets_iff x).mp h))) hnode
  · exact ⟨releaseTargets s.ramp.owners x.targetList, fun t ht => releaseTargets_released _ ht,
      fun k hk => releaseTargets_other _ hk, answered_of_slot (mk := .stop) (fun _ _ => rfl) tag j extra hs
        (hstop.trans (if_pos ((ownsTargets_iff x).mpr h))) hnode⟩

/-! ## Events (R154, R159, R162, R163) -/

section Events

variable (j : Fin 8) {s : State} (hreleased : Released s)

include hreleased

theorem exec_paceTimerExpiry : exec (.paceTimerExpiry j) s = .next (if paceDue s.now (s.ramp.slots.get j) then
    taken s j (expireSlot j s.now s.ramp.memory (s.rampRun j)) else s) := by
  rw [exec, execPaceTimerExpiry, event_next _ s hreleased]
  rfl

theorem exec_trigger (sig : TriggerSignal) : exec (.trigger j sig) s =
    .next (if (s.ramp.slots.get j).state = .armed ∧ (s.ramp.slots.get j).desc.trigger = some (.on sig) then
      match s.conflict j with
      | some c => s.send (raise (.programBlocked j c.1 c.2 (signalKind sig)))
      | none => s.started j
    else s) := by
  rw [exec, execTrigger, event_next _ s hreleased] <;> rfl

theorem exec_breakStop (w : Fin 4) : exec (.breakStop j w) s =
    .next (if (s.ramp.slots.get j).targetList.any (reachedByBreak w) then
      if ownsTargets (s.ramp.slots.get j).state then taken s j (stopRun s j)
      else if (s.ramp.slots.get j).state = .armed then s.putSlot j { s.ramp.slots.get j with state := .loaded }
      else s
    else s) := by
  rw [exec, execBreakStop, event_next _ s hreleased, ← stopSlot_eq]
  rfl

end Events

theorem paceDue_iff (now : PartTime) (x : RampSlot) : paceDue now x = true ↔
    (x.state = .running ∨ x.state = .pausing) ∧ timerDue now x.timer = true := by
  simp only [paceDue, timerDue, Bool.and_eq_true, Bool.or_eq_true, decide_eq_true_eq]

/-- The run of a due expiry: the timer set one pace period on from its old expiry `t`, and one transfer. -/
def paceRun (s : State) (j : Fin 8) (t : PartTime) : RampRun :=
  takeTransfer j s.ramp.memory
    { slot := { s.ramp.slots.get j with timer := some (t + BitVec.ofNat 32 (pacePeriod (s.ramp.slots.get j).desc)) }
      owners := s.ramp.owners, out := [], completed := false }

/-- A due expiry: the timer goes on from its old expiry, a transfer is taken, and a pause may settle. -/
theorem expireSlot_eq {s : State} {j : Fin 8} {t : PartTime} (ht : (s.ramp.slots.get j).timer = some t) :
    expireSlot j s.now s.ramp.memory (s.rampRun j) =
      { paceRun s j t with slot := settlePause s.now (paceRun s j t).slot } := by
  have htimer : (s.rampRun j).slot.timer = some t := ht
  simp only [expireSlot, htimer]
  rfl

theorem settlePause_settled {x : RampSlot} (now : PartTime) (h : x.state = .pausing ∧ x.n = x.desc.n.getD 0) :
    settlePause now x = { x with state := .paused, saved := x.timer.map (· - now), timer := none } :=
  if_pos ⟨h.1, h.2.symm⟩

theorem settlePause_stands {x : RampSlot} (now : PartTime) (h : ¬ (x.state = .pausing ∧ x.n = x.desc.n.getD 0)) :
    settlePause now x = x := if_neg fun h' => h ⟨h'.1, h'.2.symm⟩

theorem any_reachedByBreak_iff (w : Fin 4) (ts : List RampTarget) : ts.any (reachedByBreak w) = true ↔
    ∃ t ∈ ts, match t with
      | .zoneSp h _ => h = housingOf w
      | .fan h _ => h = housingOf w
      | .chillTarget v => v = w
      | .dampBase v => v = w := by
  rw [List.any_eq_true]
  refine exists_congr fun t => and_congr_right fun _ => ?_
  cases t <;> exact decide_eq_true_iff

/-- PACE_TIMER_EXPIRY, the first part of O55. -/
theorem paceTimerExpired (j : Fin 8) (s : State) (hreleased : Released s) :
    (∀ t, ((s.ramp.slots.get j).state = .running ∨ (s.ramp.slots.get j).state = .pausing) →
      (s.ramp.slots.get j).timer = some t → (s.now - t).toNat < 2 ^ 31 →
      let r := paceRun s j t
      (r.slot.state = .pausing ∧ r.slot.n = r.slot.desc.n.getD 0 → Runs (.paceTimerExpiry j) s (taken s j
        { r with slot := { r.slot with state := .paused, saved := r.slot.timer.map (· - s.now), timer := none } })) ∧
      (¬ (r.slot.state = .pausing ∧ r.slot.n = r.slot.desc.n.getD 0) → Runs (.paceTimerExpiry j) s (taken s j r))) ∧
    (¬ ((s.ramp.slots.get j).state = .running ∨ (s.ramp.slots.get j).state = .pausing) ∨
      (∀ t, (s.ramp.slots.get j).timer = some t → 2 ^ 31 ≤ (s.now - t).toNat) → Runs (.paceTimerExpiry j) s s) := by
  have hexec := exec_paceTimerExpiry j hreleased
  refine ⟨fun t hpaces ht hdue => ?_, fun hquiet => ?_⟩
  · rw [if_pos ((paceDue_iff ..).mpr ⟨hpaces, AuthorityProofs.timerDue_some ht hdue⟩), expireSlot_eq ht] at hexec
    refine ⟨fun hsettles => ?_, fun hstands => ?_⟩
    · exact hexec.trans (by rw [settlePause_settled s.now hsettles])
    · exact hexec.trans (by rw [settlePause_stands s.now hstands])
  · refine hexec.trans (congrArg _ (if_neg fun hdue => ?_))
    obtain ⟨hpaces, htimer⟩ := (paceDue_iff ..).mp hdue
    exact hquiet.elim (· hpaces) fun hearly => AuthorityProofs.not_timerDue hearly htimer

/-- Settles O55: the pace, the trigger and the stop by a break. -/
theorem rampEvents : Obligations.RampEvents := by
  intro j s hreleased x put taken' paces reloaded period
  obtain ⟨hdue, hquiet⟩ := paceTimerExpired j s hreleased
  refine ⟨hdue, hquiet, fun sig => ⟨fun hother => ?_, fun harmed htrigger => ⟨fun before t after k hlist hfree howned => ?_,
    fun hfree => ?_⟩⟩, fun w => ?_⟩
  · refine (exec_trigger j hreleased sig).trans (congrArg _ (if_neg fun h => ?_))
    exact hother.elim (· h.1) (· h.2)
  · have hconflict : s.conflict j = some (t, k) := by
      rw [State.conflict]
      exact (congrArg _ hlist).trans (firstConflict_append hfree howned)
    refine (exec_trigger j hreleased sig).trans (congrArg _ ((if_pos ⟨harmed, htrigger⟩).trans ?_))
    rw [hconflict]
    cases sig <;> rfl
  · have hconflict : s.conflict j = none := (firstConflict_eq_none_iff ..).mpr hfree
    refine ⟨claimTargets j s.ramp.owners x.targetList, fun t ht => claimTargets_claimed j _ ht,
      fun k hk => claimTargets_other j _ hk, ?_⟩
    refine (exec_trigger j hreleased sig).trans (congrArg _ ((if_pos ⟨harmed, htrigger⟩).trans ?_))
    rw [hconflict]
    exact started_eq s j
  · have hexec := exec_breakStop j hreleased w
    have hreached := any_reachedByBreak_iff w x.targetList
    have hrunning := ownsTargets_iff x
    refine ⟨fun hspared => ?_, fun haffected harmed => ?_, fun haffected hruns => ?_⟩
    · refine hexec.trans (congrArg _ ?_)
      by_cases hany : x.targetList.any (reachedByBreak w) = true
      · have hstate := hspared.resolve_left (not_not_intro (hreached.mp hany))
        have hidle : ¬ ownsTargets x.state = true ∧ x.state ≠ .armed := by
          rcases hstate with h | h <;> rw [h] <;> decide
        exact (if_pos hany).trans ((if_neg hidle.1).trans (if_neg hidle.2))
      · exact if_neg hany
    · refine hexec.trans (congrArg _ ((if_pos (hreached.mpr haffected)).trans ((if_neg ?_).trans ((if_pos harmed).trans ?_))))
      · rw [harmed]
        decide
      · exact putSlot_eq ..
    · refine ⟨releaseTargets s.ramp.owners x.targetList, fun t ht => releaseTargets_released _ ht,
        fun k hk => releaseTargets_other _ hk, ?_⟩
      exact hexec.trans (congrArg _ ((if_pos (hreached.mpr haffected)).trans (if_pos (hrunning.mpr hruns))))

end Sys2Proof.RampProofs

/-! Tracking start and queue emptying (R9, R24). -/
namespace Sys2Proof.TrackingEventProofs

open Sys2Proof.Machine Sys2Proof.Statements Sys2Proof.Laws

/-- Tracking start once the bank to follow is known: `t1` is the web with it promoted. -/
theorem startTracking_eq (p : WebParams) {t t1 : TrackWeb} {bank : CovBank} (hpromoted : promoteBank t = t1)
    (hactive : t1.activeBank = some bank) :
    let run := (t1.bank bank).runs.get 0
    startTracking p t = { t1 with
      cursorRun := 0, cursorLeft := run.length, encRef := none, wash := 0,
      queue := [{ seq := t1.seqCounter, head := t1.path, length := 0, load := min 4000 run.load,
                  marker := runMarker run }],
      seqCounter := t1.seqCounter + 1 } := by
  have hstart : t1.cursorToStart =
      { t1 with cursorRun := 0, cursorLeft := ((t1.bank bank).runs.get 0).length } := by
    simp only [TrackWeb.cursorToStart, hactive]
  have hrun : ∀ t2 : TrackWeb, t2.bankA = t1.bankA → t2.bankB = t1.bankB → t2.cursorRun = 0 →
      t2.currentRun = (t1.bank bank).runs.get 0 := by
    intro t2 hA hB hcursor
    have hsame : t2.activeBank = some bank := by rw [← hactive, TrackWeb.activeBank, hA, hB, TrackWeb.activeBank]
    rw [TrackWeb.currentRun, hsame, hcursor]
    cases bank <;> simp [TrackWeb.bank, hA, hB]
  simp only [startTracking, hpromoted, hstart]
  rw [hrun { t1 with
    cursorRun := 0, cursorLeft := ((t1.bank bank).runs.get 0).length, encRef := none, wash := 0, queue := [] } rfl rfl rfl]
  simp [TrackWeb.opened, recordLoad, TrackWeb.washOpen, Config.loadMax]

theorem exec_trackingStart (w : Fin 4) {s : State} (hs : Released s) :
    exec (.trackingStart w) s = .next (s.setTrack w (startTracking (s.params w) (s.track w))) := by
  rw [exec, execTrackingStart, event_next _ s hs]

/-- Settles O25: which bank is promoted decides the run the one record is opened for. -/
theorem trackingStarted : Obligations.TrackingStarted := by
  intro w s hs
  have hruns := exec_trackingStart w hs
  refine ⟨fun hA => ?_, fun hA hB => ?_, fun hA hB => ?_, fun hA hB => ?_⟩
  · have hactive : (s.track w).activeBank = some .a := by simp [TrackWeb.activeBank, hA]
    rw [startTracking_eq _ (t1 := s.track w) (by simp [promoteBank, hactive]) hactive] at hruns
    exact hruns
  · have hactive : (s.track w).activeBank = some .b := by simp [TrackWeb.activeBank, hA, hB]
    rw [startTracking_eq _ (t1 := s.track w) (by simp [promoteBank, hactive]) hactive] at hruns
    exact hruns
  · have hnone : (s.track w).activeBank = none := (TrackWriteProofs.activeBank_eq_none_iff _).mpr ⟨by simp [hA], hB⟩
    rw [startTracking_eq _ (bank := .a) (by simp [promoteBank, hnone, hA]; rfl) (by simp [TrackWeb.activeBank])] at hruns
    exact hruns
  · have hnone : (s.track w).activeBank = none :=
      (TrackWriteProofs.activeBank_eq_none_iff _).mpr ⟨by simp [hA], by simp [hB]⟩
    rw [startTracking_eq _ (bank := .b) (by simp [promoteBank, hnone, hA, hB]; rfl)
      (by simp [TrackWeb.activeBank, hA])] at hruns
    exact hruns

/-- A queue that still carries a job switch: a lead-web JOBCUT has CHILLIN ahead of it (R24). -/
def Carrying (q : List Segment) : Prop :=
  ∃ seg ∈ q, ∃ m, seg.marker = some m ∧ m.lead = true ∧ m.kind = .jobcut ∧ m.next ≤ 5

theorem holdsOpenJobcut_iff (q : List Segment) : holdsOpenJobcut q = true ↔ Carrying q := by
  simp [holdsOpenJobcut, Carrying, Marker.isSwitch, Option.any_eq_true, and_assoc]

theorem exec_queueEmptying (w : Fin 4) {s : State} (hs : Released s) :
    exec (.queueEmptying w) s = .next (s.putTrackRun w (emptyTracking s w)) := by
  rw [exec, execQueueEmptying, event_next _ s hs]

theorem emptyTracking_discards {s : State} {w : Fin 4} {inc : Bank} (hcarries : Carrying (s.track w).queue)
    (hjob : s.tracker.jobs.get (housingOf w) = some inc) :
    emptyTracking s w = ⟨emptyQueue (s.track w), none, [.completionSignal (housingOf w) inc]⟩ := by
  have hdiscarded : discardedJob s w = some inc := by
    rw [discardedJob, if_pos ((holdsOpenJobcut_iff _).mpr hcarries), hjob]
  simp only [emptyTracking, hdiscarded]

theorem emptyTracking_keeps {s : State} {w : Fin 4}
    (h : ¬ Carrying (s.track w).queue ∨ s.tracker.jobs.get (housingOf w) = none) :
    emptyTracking s w = ⟨emptyQueue (s.track w), s.tracker.jobs.get (housingOf w), []⟩ := by
  have hkept : discardedJob s w = none := by
    rcases h with hcarries | hjob
    · rw [discardedJob, if_neg (mt (holdsOpenJobcut_iff _).mp hcarries)]
    · rw [discardedJob, hjob, ite_self]
  simp only [emptyTracking, hkept]

/-- A tracking run that leaves the pending switch alone and sends nothing. -/
theorem putTrackRun_quiet (s : State) (w : Fin 4) (t : TrackWeb) :
    s.putTrackRun w ⟨t, s.tracker.jobs.get (housingOf w), []⟩ = s.setTrack w t := by
  simp [State.putTrackRun, State.setTrack, tab_set_get]

/-- Settles O26: the pending switch falls with the marker that carries it. -/
theorem queueEmptied : Obligations.QueueEmptied := by
  intro w s hs
  have hruns := exec_queueEmptying w hs
  refine ⟨fun inc hcarries hjob => ?_, fun h => ?_⟩
  · rw [emptyTracking_discards hcarries hjob] at hruns
    exact hruns
  · rw [emptyTracking_keeps h, putTrackRun_quiet] at hruns
    exact hruns

end Sys2Proof.TrackingEventProofs

/-! Marker firing and the pieces of an advance (R12 to R16, R22, R23). -/
namespace Sys2Proof.FiringProofs

open Sys2Proof.Machine Sys2Proof.Statements Sys2Proof.Laws

/-! ## One marker -/

theorem isSwitch_iff (m : Marker) : m.isSwitch = true ↔ m.lead = true ∧ m.kind = .jobcut := by simp [Marker.isSwitch]

theorem stationEffect_none {env : TrackEnv} {job : Option Bank} {m : Marker} {st : Fin 7} {seq : BitVec 16}
    (h : m.lead = false ∨ m.kind ≠ .jobcut ∨ job = none) : stationEffect env job m st seq = [] := by
  rcases job with _ | inc
  · simp only [stationEffect, ite_self]
  · have hswitch : ¬ m.isSwitch = true := by
      rw [isSwitch_iff]
      rintro ⟨hlead, hkind⟩
      simp [hlead, hkind] at h
    simp only [stationEffect, if_neg hswitch]

/-- The station effects of a job switch, station by station (Table 1-5). -/
theorem stationEffect_switch (env : TrackEnv) (inc : Bank) {m : Marker} (st : Fin 7) (seq : BitVec 16)
    (hlead : m.lead = true) (hkind : m.kind = .jobcut) :
    let h := housingOf env.web
    stationEffect env (some inc) m st seq =
      [[.zoneSwitchSignal h 0 inc seq], [.zoneSwitchSignal h 1 inc seq], [.zoneSwitchSignal h 2 inc seq],
        [.zoneSwitchSignal h 3 inc seq], [.damperSwitchSignal h inc seq], [.chillSwitchSignal h inc seq],
        []].getD st.val [] := by
  have hswitch : m.isSwitch = true := (isSwitch_iff m).mpr ⟨hlead, hkind⟩
  simp only [stationEffect, if_pos hswitch]
  fin_cases st <;> rfl

/-- What one firing gives is what the statements say it sends. -/
theorem firingSignals_eq (env : TrackEnv) (mask : BitVec 7) (job : Option Bank) (m : Marker) (st : Fin 7)
    (seq : BitVec 16) : firingSignals env mask job m st seq = firing env mask m seq job st := by
  have heffect : stationEffect env job m st seq = (match job with
      | some inc =>
        if m.lead = true ∧ m.kind = .jobcut then
          [[.zoneSwitchSignal (housingOf env.web) 0 inc seq], [.zoneSwitchSignal (housingOf env.web) 1 inc seq],
            [.zoneSwitchSignal (housingOf env.web) 2 inc seq], [.zoneSwitchSignal (housingOf env.web) 3 inc seq],
            [.damperSwitchSignal (housingOf env.web) inc seq], [.chillSwitchSignal (housingOf env.web) inc seq],
            []].getD st.val []
        else []
      | none => []) := by
    rcases job with _ | inc
    · exact stationEffect_none (.inr (.inr rfl))
    · by_cases h : m.lead = true ∧ m.kind = .jobcut
      · simp only [if_pos h, stationEffect_switch env inc st seq h.1 h.2]
      · simp only [if_neg h]
        refine stationEffect_none ?_
        by_cases hlead : m.lead = true
        · exact .inr (.inl fun hkind => h ⟨hlead, hkind⟩)
        · exact .inl (by simpa using hlead)
  rw [firingSignals, heffect]
  rfl

/-- After a firing at station `st` the pending switch matters to no later station: only CHILLIN ends it, and DRUM, the
one station after it, has no effect. -/
theorem stationEffect_jobAfter (env : TrackEnv) (job : Option Bank) (m : Marker) {st i : Fin 7} (seq : BitVec 16)
    (h : st < i) : stationEffect env (jobAfter job m st) m i seq = stationEffect env job m i seq := by
  by_cases hended : m.isSwitch = true ∧ st.val = 5
  · obtain ⟨hswitch, hst⟩ := hended
    obtain ⟨hlead, hkind⟩ := (isSwitch_iff m).mp hswitch
    have hi : i = 6 := Fin.ext (show i.val = 6 by have : st.val < i.val := h; have := i.isLt; omega)
    rw [jobAfter, if_pos (by simp [hswitch, hst]), stationEffect_none (.inr (.inr rfl)), hi]
    rcases job with _ | inc
    · exact (stationEffect_none (.inr (.inr rfl))).symm
    · rw [stationEffect_switch env inc 6 seq hlead hkind]
      rfl
  · rw [jobAfter, if_neg (by simpa using hended)]

theorem stationsFrom_self (k : Nat) : stationsFrom k k = [] := by
  simp only [stationsFrom, List.filter_eq_nil_iff, decide_eq_true_eq]
  omega

theorem mem_stationsFrom {k b : Nat} {i : Fin 7} : i ∈ stationsFrom k b ↔ k ≤ i.val ∧ i.val < b := by
  simp [stationsFrom]

/-- The stations from `k` on begin with `k`. -/
theorem stationsFrom_cons (k : Fin 7) {b : Nat} (h : k.val < b) : stationsFrom k.val b = k :: stationsFrom (k.val + 1) b := by
  have hsplit : ∀ (l : List (Fin 7)), l.Pairwise (· < ·) → k ∈ l →
      l.filter (fun i => decide (k.val ≤ i.val ∧ i.val < b)) =
        k :: l.filter (fun i => decide (k.val + 1 ≤ i.val ∧ i.val < b)) := by
    intro l hl hk
    induction l with
    | nil => simp at hk
    | cons x l ih =>
      obtain ⟨hx, hl⟩ := List.pairwise_cons.mp hl
      by_cases hkx : x = k
      · subst hkx
        rw [List.filter_cons_of_pos (by simpa using h), List.filter_cons_of_neg (by simp)]
        refine congrArg _ (List.filter_congr fun i hi => ?_)
        have : x.val < i.val := hx i hi
        simp [show x.val ≤ i.val by omega, show x.val + 1 ≤ i.val by omega]
      · have hk : k ∈ l := (List.mem_cons.mp hk).resolve_left (Ne.symm hkx)
        have : x.val < k.val := hx k hk
        rw [List.filter_cons_of_neg (by simp; omega), List.filter_cons_of_neg (by simp; omega), ih hl hk]
  exact hsplit _ (List.pairwise_lt_finRange 7) (List.mem_finRange k)

/-- Firing once and then from the next station on ends the pending switch as the whole firing does. -/
theorem jobLeft_next {m : Marker} (hnext : m.next < 7) {b : Nat} (h : m.next < b) (job : Option Bank) :
    jobLeft { m with next := m.next + 1 } b (jobAfter job m ⟨m.next, hnext⟩) = jobLeft m b job := by
  by_cases hswitch : m.isSwitch = true
  · obtain ⟨hlead, hkind⟩ := (isSwitch_iff m).mp hswitch
    by_cases hchill : m.next = 5
    · simp [jobLeft, jobAfter, hlead, hkind, hswitch, hchill, show 5 < b by omega]
    · have hiff : m.next + 1 ≤ 5 ↔ m.next ≤ 5 := by omega
      simp [jobLeft, jobAfter, hlead, hkind, hchill, hiff]
  · rw [jobAfter, if_neg (by simp [hswitch]), jobLeft, jobLeft]
    rw [if_neg (fun h => hswitch ((isSwitch_iff m).mpr ⟨h.1, h.2.1⟩)),
      if_neg (fun h => hswitch ((isSwitch_iff m).mpr ⟨h.1, h.2.1⟩))]

/-- What the firings of marker `m` up to station `next` give. -/
def firedUpTo (env : TrackEnv) (mask : BitVec 7) (seq : BitVec 16) (m : Marker) (job : Option Bank) (next : Nat) :
    Marker × Option Bank × List Instr :=
  ({ m with next := next }, jobLeft m next job, (stationsFrom m.next next).flatMap (firing env mask m seq job))

theorem firedUpTo_self (env : TrackEnv) (mask : BitVec 7) (seq : BitVec 16) (m : Marker) (job : Option Bank) :
    firedUpTo env mask seq m job m.next = (m, job, []) := by
  rw [firedUpTo, stationsFrom_self, jobLeft, if_neg (by omega), List.flatMap_nil]

theorem firedUpTo_next (env : TrackEnv) (mask : BitVec 7) (seq : BitVec 16) {m : Marker} (job : Option Bank)
    (hnext : m.next < 7) {next : Nat} (h : m.next < next) :
    let rest := firedUpTo env mask seq { m with next := m.next + 1 } (jobAfter job m ⟨m.next, hnext⟩) next
    firedUpTo env mask seq m job next =
      (rest.1, rest.2.1, firingSignals env mask job m ⟨m.next, hnext⟩ seq ++ rest.2.2) := by
  have hlater : (stationsFrom (m.next + 1) next).flatMap
      (firing env mask { m with next := m.next + 1 } seq (jobAfter job m ⟨m.next, hnext⟩)) =
      (stationsFrom (m.next + 1) next).flatMap (firing env mask m seq job) := by
    rw [List.flatMap_def, List.flatMap_def]
    refine congrArg _ (List.map_congr_left fun i hi => ?_)
    have hlt : (⟨m.next, hnext⟩ : Fin 7) < i := (mem_stationsFrom.mp hi).1
    rw [← firingSignals_eq, ← firingSignals_eq, firingSignals, firingSignals]
    exact congrArg (fun effect => effect ++ _ ++ _) (stationEffect_jobAfter env job m seq hlt)
  simp only [firedUpTo, jobLeft_next hnext h, hlater, firingSignals_eq]
  rw [stationsFrom_cons ⟨m.next, hnext⟩ h, List.flatMap_cons]

/-- With enough fuel a marker fires up to the first station its record has not reached (R22). -/
theorem fireMarker_eq (env : TrackEnv) (stations : Tab Nat 7) (mask : BitVec 7) (seq : BitVec 16) (dist fuel : Nat)
    (m : Marker) (job : Option Bank) (hfuel : 7 ≤ fuel + m.next) :
    ∃ next, Passes stations dist m.next next ∧
      fireMarker env stations mask seq dist fuel m job = firedUpTo env mask seq m job next := by
  have hstays : ∀ m : Marker, (∀ i : Fin 7, i.val = m.next → dist < stations.get i) →
      Passes stations dist m.next m.next :=
    fun m hfar => ⟨Nat.le_refl _, .inr rfl, fun i _ _ => by omega, hfar⟩
  induction fuel generalizing m job with
  | zero => exact ⟨m.next, hstays m fun i hi => by have := i.isLt; omega, (firedUpTo_self ..).symm⟩
  | succ fuel ih =>
    by_cases hnext : m.next < 7
    · by_cases hreached : stations.get ⟨m.next, hnext⟩ ≤ dist
      · obtain ⟨next, ⟨hle, hbound, hpassed, hfar⟩, hrest⟩ :=
          ih { m with next := m.next + 1 } (jobAfter job m ⟨m.next, hnext⟩) (by simp only; omega)
        simp only at hle hbound hpassed
        refine ⟨next, ⟨by omega, .inl (by omega), fun i hfrom hto => ?_, hfar⟩, ?_⟩
        · rcases Nat.eq_or_lt_of_le hfrom with heq | hlt
          · exact (show (⟨m.next, hnext⟩ : Fin 7) = i from Fin.ext heq) ▸ hreached
          · exact hpassed i hlt hto
        · simp only [fireMarker, dif_pos hnext, if_pos hreached, hrest]
          exact (firedUpTo_next env mask seq job hnext hle).symm
      · refine ⟨m.next, hstays m fun i hi => ?_, ?_⟩
        · rw [show i = ⟨m.next, hnext⟩ from Fin.ext hi]
          omega
        · rw [fireMarker, dif_pos hnext, if_neg hreached, firedUpTo_self]
    · refine ⟨m.next, hstays m fun i _ => by have := i.isLt; omega, ?_⟩
      rw [fireMarker, dif_neg hnext, firedUpTo_self]

/-! ## The queue -/

theorem fireQueue_fired (env : TrackEnv) (stations : Tab Nat 7) (mask : BitVec 7) (path : BitVec 32) (q : List Segment)
    (job : Option Bank) :
    let r := fireQueue env stations mask path q job
    QueueFired env stations mask path q job r.1 r.2.1 r.2.2 := by
  induction q generalizing job with
  | nil => exact ⟨rfl, rfl, rfl⟩
  | cons x rest ih =>
    rcases hm : x.marker with _ | m
    · simp only [fireQueue, hm]
      exact ⟨x, _, job, [], _, rfl, rfl, ⟨fun _ => ⟨rfl, rfl, rfl⟩, fun m h => by simp [hm] at h⟩, ih job⟩
    · obtain ⟨next, hpasses, hfired⟩ := fireMarker_eq env stations mask x.seq (headDistance path x.head) 7 m job (by omega)
      simp only [fireQueue, hm, hfired]
      refine ⟨_, _, _, _, _, rfl, rfl, ⟨fun h => by simp [hm] at h, fun m' h => ?_⟩, ih _⟩
      obtain rfl : m' = m := by simpa [hm] using h.symm
      exact ⟨next, hpasses, rfl, rfl, rfl⟩

theorem fireQueue_nil_iff (env : TrackEnv) (stations : Tab Nat 7) (mask : BitVec 7) (path : BitVec 32) (q : List Segment)
    (job : Option Bank) : (fireQueue env stations mask path q job).1 = [] ↔ q = [] := by
  cases q with
  | nil => simp [fireQueue]
  | cons x rest => rcases hm : x.marker with _ | m <;> simp [fireQueue, hm]

/-- What leaves at retirement, and what is kept (R15). -/
theorem retire_split (path : BitVec 32) (chillout : Nat) (q : List Segment) :
    ∃ gone, q = gone ++ retire path chillout q ∧ (q ≠ [] → retire path chillout q ≠ []) ∧
      (∀ x ∈ gone, chillout ≤ tailDistance path x) ∧
      ∀ x y rest, retire path chillout q = x :: y :: rest → tailDistance path x < chillout := by
  induction q with
  | nil => exact ⟨[], by simp [retire]⟩
  | cons x q ih =>
    cases q with
    | nil => exact ⟨[], by simp [retire]⟩
    | cons y rest =>
      by_cases hgone : chillout ≤ tailDistance path x
      · obtain ⟨gone, hsplit, hkept, hall, hfirst⟩ := ih
        simp only [retire, if_pos hgone]
        exact ⟨x :: gone, by rw [List.cons_append, ← hsplit], fun _ => hkept (by simp),
          List.forall_mem_cons.mpr ⟨hgone, hall⟩, hfirst⟩
      · simp only [retire, if_neg hgone]
        refine ⟨[], rfl, by simp, by simp, fun x' y' rest' h => ?_⟩
        obtain ⟨rfl, _⟩ := List.cons.inj h
        omega

theorem mapLast_append (f : Segment → Segment) (older : List Segment) (o : Segment) :
    mapLast f (older ++ [o]) = older ++ [f o] := by
  induction older with
  | nil => rfl
  | cons x older ih =>
    cases older with
    | nil => rfl
    | cons y rest => simp only [List.cons_append, mapLast] at ih ⊢; rw [ih]

/-! ## The end of a run -/

/-- The web after a piece, before the end of the cursor's run is looked at: `kept` is its queue. -/
def cutPiece (p : Nat) (t : TrackWeb) (kept : List Segment) : TrackWeb :=
  { t with queue := kept, path := t.path + BitVec.ofNat 32 p, cursorLeft := t.cursorLeft - p, wash := t.wash - p }

theorem nextRun_eq {b : CoverageBank} {i j : Fin 32}
    (h : j.val = i.val + 1 ∧ j.val < b.runCount ∨ j = 0 ∧ (b.runCount ≤ i.val + 1 ∨ 31 ≤ i.val)) : nextRun b i = j := by
  have hj := j.isLt
  rcases h with ⟨hnext, hin⟩ | ⟨rfl, hend⟩
  · rw [nextRun, dif_pos (by omega), if_pos (by omega)]
    exact Fin.ext hnext.symm
  · rw [nextRun]
    split_ifs with hroom hmore
    · omega
    · rfl
    · rfl

/-- The cursor at the run it enters. -/
theorem cursorNext_eq {t : TrackWeb} {bank : CovBank} {i : Fin 32} (hactive : t.activeBank = some bank)
    (hi : nextRun (t.bank bank) t.cursorRun = i) :
    t.cursorNext = { t with cursorRun := i, cursorLeft := ((t.bank bank).runs.get i).length } := by
  simp only [TrackWeb.cursorNext, hactive, hi]

theorem currentRun_eq {t : TrackWeb} {bank : CovBank} (hactive : t.activeBank = some bank) :
    t.currentRun = (t.bank bank).runs.get t.cursorRun := by
  simp only [TrackWeb.currentRun, hactive]

/-- The web in its next run `i`, its queue `kept` (R12). -/
def entered (p : Nat) (t : TrackWeb) (kept : List Segment) (bank : CovBank) (i : Fin 32) : TrackWeb :=
  { cutPiece p t kept with cursorRun := i, cursorLeft := ((t.bank bank).runs.get i).length }

section
variable {env : TrackEnv} {p : Nat} {t : TrackWeb} {kept : List Segment} {job : Option Bank} {out : List Instr}

theorem boundaryPiece_within (h : p < t.cursorLeft ∨ t.activeBank = none) :
    boundaryPiece env ⟨cutPiece p t kept, job, out⟩ = ⟨cutPiece p t kept, job, out⟩ := by
  rw [boundaryPiece, if_neg]
  rintro ⟨hleft, hsome⟩
  have hleft : t.cursorLeft - p = 0 := hleft
  have hsome : t.activeBank.isSome := hsome
  rcases h with h | h
  · omega
  · simp [h] at hsome

section
variable {bank : CovBank} {i : Fin 32} (hactive : t.activeBank = some bank)
include hactive

/-- At the end of its run the cursor moves; the queue then takes the new run, if it holds a record at all. -/
theorem boundaryPiece_end (hleft : t.cursorLeft ≤ p) (hi : nextRun (t.bank bank) t.cursorRun = i) :
    boundaryPiece env ⟨cutPiece p t kept, job, out⟩ =
    if kept.isEmpty then ⟨entered p t kept bank i, job, out⟩
    else if kept.length < 64 then
      ⟨(entered p t kept bank i).opened (recordLoad env.params ((t.bank bank).runs.get i) (decide (0 < t.wash - p)))
        (runMarker ((t.bank bank).runs.get i)), job, out⟩
    else ⟨absorbRun env.params (entered p t kept bank i), job,
      out ++ absorbDrops env.web (entered p t kept bank i)⟩ := by
  have hnext : (cutPiece p t kept).cursorNext = entered p t kept bank i :=
    cursorNext_eq (t := cutPiece p t kept) (bank := bank) hactive hi
  have hrun : (entered p t kept bank i).currentRun = (t.bank bank).runs.get i :=
    currentRun_eq (t := entered p t kept bank i) (bank := bank) hactive
  have hcond : (cutPiece p t kept).cursorLeft = 0 ∧ (cutPiece p t kept).activeBank.isSome = true :=
    ⟨Nat.sub_eq_zero_of_le hleft, show t.activeBank.isSome = true by rw [hactive]; rfl⟩
  rw [boundaryPiece, if_pos hcond]
  simp only [hnext, hrun]
  rfl

theorem absorbRun_entered (older : List Segment) (o : Segment) (hkept : kept = older ++ [o]) :
    absorbRun env.params (entered p t kept bank i) = { entered p t kept bank i with
      queue := older ++ [{ o with
        load := max o.load (recordLoad env.params ((t.bank bank).runs.get i) (decide (0 < t.wash - p)))
        marker := if o.marker = none then runMarker ((t.bank bank).runs.get i) else o.marker }] } := by
  have hrun : (entered p t kept bank i).currentRun = (t.bank bank).runs.get i :=
    currentRun_eq (t := entered p t kept bank i) (bank := bank) hactive
  have hqueue : (entered p t kept bank i).queue = older ++ [o] := hkept
  rw [absorbRun, hqueue, mapLast_append, hrun]
  simp only [Option.isNone_iff_eq_none]
  rfl

theorem absorbDrops_entered (older : List Segment) (o : Segment) (hkept : kept = older ++ [o]) :
    absorbDrops env.web (entered p t kept bank i) = if o.marker = none then [] else
      ((t.bank bank).runs.get i).marker.toList.map fun k => .noticeRaised (.markerDropped env.web (.note k) .program) := by
  have hrun : (entered p t kept bank i).currentRun = (t.bank bank).runs.get i :=
    currentRun_eq (t := entered p t kept bank i) (bank := bank) hactive
  have hopen : (entered p t kept bank i).openRecord = some o := by
    have hqueue : (entered p t kept bank i).queue = older ++ [o] := hkept
    rw [TrackWeb.openRecord, hqueue, List.getLast?_concat]
  simp only [absorbDrops, hrun, hopen, Option.bind_some]
  rcases ((t.bank bank).runs.get i).marker with _ | k <;> rcases o.marker with _ | m <;> rfl

end
end

/-! ## A piece -/

theorem boundaryPiece_job (env : TrackEnv) (r : TrackRun) : (boundaryPiece env r).job = r.job := by
  simp only [boundaryPiece]
  split_ifs <;> rfl

/-- What was sent before a piece's end stays in front. -/
theorem boundaryPiece_out (env : TrackEnv) (t : TrackWeb) (job : Option Bank) (before out : List Instr) :
    boundaryPiece env ⟨t, job, before ++ out⟩ =
      { boundaryPiece env ⟨t, job, out⟩ with out := before ++ (boundaryPiece env ⟨t, job, out⟩).out } := by
  simp only [boundaryPiece]
  split_ifs <;> simp only [List.append_assoc]

/-- The firing of a piece: of the queue with its open record grown, at the path counter moved. -/
def pieceFiring (env : TrackEnv) (p : Nat) (r : TrackRun) : List Segment × Option Bank × List Instr :=
  fireQueue env r.web.stations r.web.mask (growPiece p r.web).path (growPiece p r.web).queue r.job

/-- The queue a piece leaves before a run is entered. -/
def pieceKept (env : TrackEnv) (p : Nat) (r : TrackRun) : List Segment :=
  retire (growPiece p r.web).path (r.web.stations.get 6) (pieceFiring env p r).1

theorem takePiece_eq (env : TrackEnv) (p : Nat) (r : TrackRun) :
    let cut : TrackRun := ⟨cutPiece p r.web (pieceKept env p r), (pieceFiring env p r).2.1, (pieceFiring env p r).2.2⟩
    takePiece env p r = { boundaryPiece env cut with out := r.out ++ (boundaryPiece env cut).out } :=
  boundaryPiece_out env _ _ r.out (pieceFiring env p r).2.2

theorem takePiece_taken (env : TrackEnv) (p : Nat) (r : TrackRun) : ∃ out, (takePiece env p r).out = r.out ++ out ∧
    PieceTaken env p r.web r.job (takePiece env p r).web (takePiece env p r).job out := by
  have hpiece := takePiece_eq env p r
  obtain ⟨gone, hsplit, hkept, hgone, hfirst⟩ := retire_split (growPiece p r.web).path (r.web.stations.get 6)
    (pieceFiring env p r).1
  have hfired : QueueFired env r.web.stations r.web.mask (growPiece p r.web).path (growPiece p r.web).queue r.job
      (gone ++ pieceKept env p r) (pieceFiring env p r).2.1 (pieceFiring env p r).2.2 :=
    hsplit ▸ fireQueue_fired env r.web.stations r.web.mask (growPiece p r.web).path (growPiece p r.web).queue r.job
  have hnonempty : (growPiece p r.web).queue ≠ [] → pieceKept env p r ≠ [] :=
    fun h => hkept (mt (fireQueue_nil_iff ..).mp h)
  refine ⟨_, congrArg TrackRun.out hpiece, (growPiece p r.web).queue, gone, pieceKept env p r, (pieceFiring env p r).2.2,
    fun hq => ?_, fun older o hq => ?_, ?_, hnonempty, hgone, hfirst, fun hwithin => ?_,
    fun bank i hleft hactive hi => ⟨fun hq => ?_, fun hq hroom => ?_, fun older o hq hfull => ?_⟩⟩
  · simp only [growPiece, hq, mapLast]
  · simp only [growPiece, hq, mapLast_append]
  · rw [hpiece]
    exact (boundaryPiece_job env _).symm ▸ hfired
  · rw [hpiece, boundaryPiece_within hwithin]
    exact ⟨rfl, rfl⟩
  · rw [hpiece, boundaryPiece_end hactive hleft (nextRun_eq hi), if_pos (by rw [hq]; rfl)]
    exact ⟨rfl, rfl⟩
  · rw [hpiece, boundaryPiece_end hactive hleft (nextRun_eq hi), if_neg (by simpa using hq), if_pos hroom]
    refine ⟨rfl, ?_⟩
    simp only [recordLoad, decide_eq_true_eq, Nat.sub_pos_iff_lt]
    rfl
  · rw [hpiece, boundaryPiece_end hactive hleft (nextRun_eq hi), if_neg (by simp [hq]),
      if_neg (Nat.not_lt.mpr hfull), absorbRun_entered hactive older o hq, absorbDrops_entered hactive older o hq]
    refine ⟨?_, rfl⟩
    simp only [recordLoad, decide_eq_true_eq, Nat.sub_pos_iff_lt]
    rfl

/-! ## What a firing sends -/

theorem stationEffect_plain (env : TrackEnv) (job : Option Bank) (m : Marker) (st : Fin 7) (seq : BitVec 16) :
    (∀ n, .noticeRaised n ∉ stationEffect env job m st seq) ∧
      ∀ j sig, .trigger j sig ∉ stationEffect env job m st seq := by
  by_cases hswitch : m.lead = true ∧ m.kind = .jobcut
  · rcases job with _ | inc
    · rw [stationEffect_none (.inr (.inr rfl))]
      simp
    · rw [stationEffect_switch env inc st seq hswitch.1 hswitch.2]
      fin_cases st <;> simp
  · have hplain : m.lead = false ∨ m.kind ≠ .jobcut ∨ job = none := by
      by_cases hlead : m.lead = true
      · exact .inr (.inl fun hkind => hswitch ⟨hlead, hkind⟩)
      · exact .inl (by simpa using hlead)
    rw [stationEffect_none hplain]
    simp

theorem notice_mem_firing (env : TrackEnv) (mask : BitVec 7) (m : Marker) (seq : BitVec 16) (job : Option Bank)
    (st i : Fin 7) : .noticeRaised (.markerPassed env.web m.kind i seq) ∈ firing env mask m seq job st ↔
      st = i ∧ mask.getLsbD i.val = true := by
  rw [← firingSignals_eq, firingSignals]
  have heffect := (stationEffect_plain env job m st seq).1 (.markerPassed env.web m.kind i seq)
  by_cases hmask : mask.getLsbD st.val = true
  · simp only [hmask, if_true, raise, triggerAll, List.mem_append, heffect, false_or, List.mem_singleton,
      Instr.noticeRaised.injEq, Notice.markerPassed.injEq, true_and, and_true, List.mem_map, reduceCtorEq, and_false,
      exists_false, or_false]
    exact ⟨fun h => ⟨h.symm, h ▸ hmask⟩, fun h => h.1.symm⟩
  · simp only [hmask, Bool.false_eq_true, if_false, triggerAll, List.mem_append, heffect, List.mem_map,
      reduceCtorEq, and_false, exists_false, List.not_mem_nil, or_false, false_iff, not_and]
    rintro rfl
    exact hmask

theorem trigger_mem_firing (env : TrackEnv) (mask : BitVec 7) (m : Marker) (seq : BitVec 16) (job : Option Bank)
    (st i : Fin 7) (j : Fin 8) : .trigger j (.marker env.web m.kind i) ∈ firing env mask m seq job st ↔ st = i := by
  rw [← firingSignals_eq, firingSignals]
  have heffect := (stationEffect_plain env job m st seq).2 j (.marker env.web m.kind i)
  have hnotice : .trigger j (.marker env.web m.kind i) ∉
      (if mask.getLsbD st.val then raise (.markerPassed env.web m.kind st seq) else []) := by
    split_ifs <;> simp [raise]
  simp only [triggerAll, List.mem_append, heffect, hnotice, false_or, List.mem_map, List.mem_finRange, true_and,
    Instr.trigger.injEq, TriggerSignal.marker.injEq, exists_eq_left]

/-- Settles O29: a marker's firings, its effects by station, the records of a queue, and a whole piece. -/
theorem markersFireAtStations : Obligations.MarkersFireAtStations := by
  refine ⟨fun env stations mask seq dist m job hnext => ?_, fun env inc m seq hlead hkind => ?_,
    fun env job m st seq h => stationEffect_none h, fireQueue_fired, takePiece_taken⟩
  · obtain ⟨next, ⟨hle, hbound, hpassed, hfar⟩, hfired⟩ := fireMarker_eq env stations mask seq dist 7 m job (by omega)
    simp only [hfired, firedUpTo]
    refine ⟨trivial, trivial, trivial, hle, by omega, hpassed, hfar, fun i => ?_, fun i j => ?_, rfl, ?_⟩
    · simp only [List.mem_flatMap, notice_mem_firing, mem_stationsFrom]
      exact ⟨fun ⟨_, hin, rfl, hmask⟩ => ⟨hin.1, hin.2, hmask⟩, fun ⟨hfrom, hto, hmask⟩ => ⟨i, ⟨hfrom, hto⟩, rfl, hmask⟩⟩
    · simp only [List.mem_flatMap, trigger_mem_firing, mem_stationsFrom, exists_eq_right]
    · rw [← funext fun i => firingSignals_eq env mask job m i seq]
      rfl
  · have heffect := fun st => stationEffect_switch env inc (m := m) st seq hlead hkind
    refine ⟨fun z => ?_, heffect 4, heffect 5, heffect 6⟩
    rw [heffect]
    fin_cases z <;> rfl

end Sys2Proof.FiringProofs

/-! An encoder position (R10 to R12). -/
namespace Sys2Proof.AdvanceProofs

open Sys2Proof.Machine Sys2Proof.Statements Sys2Proof.Laws Sys2Proof.FiringProofs Sys2Proof.TrackingEventProofs

/-! ## What a piece moves and what it leaves -/

/-- `t'` is `t` moved by `p` mm: the path counter, the wash window and, of the rest, only queue and cursor differ. -/
structure Moved (p : Nat) (t t' : TrackWeb) : Prop where
  path : t'.path = t.path + BitVec.ofNat 32 p
  encRef : t'.encRef = t.encRef
  wash : t'.wash = t.wash - p
  stations : t'.stations = t.stations
  mask : t'.mask = t.mask
  stationsSet : t'.stationsSet = t.stationsSet
  bankA : t'.bankA = t.bankA
  bankB : t'.bankB = t.bankB

theorem Moved.rfl {t : TrackWeb} : Moved 0 t t := by constructor <;> simp

theorem Moved.trans {p q : Nat} {t t' t'' : TrackWeb} (h : Moved p t t') (h' : Moved q t' t'') : Moved (p + q) t t'' where
  path := by rw [h'.path, h.path, BitVec.ofNat_add, BitVec.add_assoc]
  encRef := h'.encRef.trans h.encRef
  wash := by rw [h'.wash, h.wash, Nat.sub_sub]
  stations := h'.stations.trans h.stations
  mask := h'.mask.trans h.mask
  stationsSet := h'.stationsSet.trans h.stationsSet
  bankA := h'.bankA.trans h.bankA
  bankB := h'.bankB.trans h.bankB

theorem Moved.bank {p : Nat} {t t' : TrackWeb} (h : Moved p t t') (x : CovBank) : t'.bank x = t.bank x := by
  cases x <;> simp [TrackWeb.bank, h.bankA, h.bankB]

theorem Moved.activeBank {p : Nat} {t t' : TrackWeb} (h : Moved p t t') : t'.activeBank = t.activeBank := by
  simp only [TrackWeb.activeBank, h.bankA, h.bankB]

theorem cursorNext_moved (t : TrackWeb) : Moved 0 t t.cursorNext := by
  simp only [TrackWeb.cursorNext]
  split <;> constructor <;> simp

theorem boundaryPiece_moved (env : TrackEnv) (r : TrackRun) : Moved 0 r.web (boundaryPiece env r).web := by
  simp only [boundaryPiece]
  split_ifs
  · exact cursorNext_moved r.web
  · obtain ⟨h1, h2, h3, h4, h5, h6, h7, h8⟩ := cursorNext_moved r.web
    exact ⟨h1, h2, h3, h4, h5, h6, h7, h8⟩
  · obtain ⟨h1, h2, h3, h4, h5, h6, h7, h8⟩ := cursorNext_moved r.web
    exact ⟨h1, h2, h3, h4, h5, h6, h7, h8⟩
  · exact .rfl

theorem takePiece_moved (env : TrackEnv) (p : Nat) (r : TrackRun) : Moved p r.web (takePiece env p r).web := by
  rw [takePiece_eq]
  have hcut : Moved p r.web (cutPiece p r.web (pieceKept env p r)) := by constructor <;> rfl
  exact hcut.trans (boundaryPiece_moved env
    ⟨cutPiece p r.web (pieceKept env p r), (pieceFiring env p r).2.1, (pieceFiring env p r).2.2⟩)

/-! ## The pending switch -/

theorem jobLeft_eq (m : Marker) (b : Nat) (job : Option Bank) : jobLeft m b job = job ∨ jobLeft m b job = none := by
  rw [jobLeft]
  split_ifs
  · exact .inr rfl
  · exact .inl rfl

theorem fireQueue_job (env : TrackEnv) (stations : Tab Nat 7) (mask : BitVec 7) (path : BitVec 32) (q : List Segment)
    (job : Option Bank) :
    (fireQueue env stations mask path q job).2.1 = job ∨ (fireQueue env stations mask path q job).2.1 = none := by
  induction q generalizing job with
  | nil => exact .inl rfl
  | cons x rest ih =>
    rcases hm : x.marker with _ | m
    · simpa only [fireQueue, hm] using ih job
    · obtain ⟨next, -, hfired⟩ := fireMarker_eq env stations mask x.seq (headDistance path x.head) 7 m job (by omega)
      simp only [fireQueue, hm, hfired, firedUpTo]
      rcases jobLeft_eq m next job with hjob | hjob <;> rw [hjob]
      · exact ih job
      · exact .inr ((ih none).elim id id)

theorem takePiece_job (env : TrackEnv) (p : Nat) (r : TrackRun) :
    (takePiece env p r).job = r.job ∨ (takePiece env p r).job = none := by
  rw [takePiece_eq]
  show (boundaryPiece env _).job = r.job ∨ (boundaryPiece env _).job = none
  rw [boundaryPiece_job]
  exact fireQueue_job ..

/-! ## The pieces of an advance -/

/-- The cursor stands in a run of a bank whose runs all have a length: pieces then make headway. -/
structure Running (t : TrackWeb) (bank : CovBank) : Prop where
  active : t.activeBank = some bank
  left : 1 ≤ t.cursorLeft
  count : 1 ≤ (t.bank bank).runCount
  runs : ∀ run ∈ (t.bank bank).runs.items.take (t.bank bank).runCount, 1 ≤ run.length

theorem nextRun_lt_count {b : CoverageBank} (h : 1 ≤ b.runCount) (i : Fin 32) : (nextRun b i).val < b.runCount := by
  rw [nextRun]
  split_ifs with hroom hmore
  · exact hmore
  · exact h
  · exact h

theorem Running.next_length {t : TrackWeb} {bank : CovBank} (h : Running t bank) :
    1 ≤ ((t.bank bank).runs.get (nextRun (t.bank bank) t.cursorRun)).length := by
  have hlt := nextRun_lt_count h.count t.cursorRun
  refine h.runs _ (List.mem_take_iff_getElem.mpr ⟨_, ?_, rfl⟩)
  rw [(t.bank bank).runs.size]
  have := (nextRun (t.bank bank) t.cursorRun).isLt
  omega

theorem takePiece_running {env : TrackEnv} {p : Nat} {r : TrackRun} {bank : CovBank} (h : Running r.web bank) :
    Running (takePiece env p r).web bank := by
  have hmoved := takePiece_moved env p r
  refine ⟨hmoved.activeBank.trans h.active, ?_, by rw [hmoved.bank]; exact h.count, by rw [hmoved.bank]; exact h.runs⟩
  rw [takePiece_eq]
  show 1 ≤ (boundaryPiece env _).web.cursorLeft
  by_cases hleft : r.web.cursorLeft ≤ p
  · rw [boundaryPiece_end h.active hleft rfl]
    split_ifs <;> exact h.next_length
  · rw [boundaryPiece_within (.inl (Nat.lt_of_not_le hleft))]
    show 1 ≤ r.web.cursorLeft - p
    omega

/-- An advance of `rest` mm is taken in pieces that sum to it. -/
theorem takePieces_taken (env : TrackEnv) {bank : CovBank} (fuel rest : Nat) {r : TrackRun} (hfuel : rest ≤ fuel)
    (h : Running r.web bank) :
    let r' := takePieces env fuel rest r
    ∃ out pieces, pieces.sum = rest ∧ PiecesTaken env pieces r.web r.job r'.web r'.job out ∧ r'.out = r.out ++ out ∧
      Moved rest r.web r'.web ∧ Running r'.web bank ∧ (r'.job = r.job ∨ r'.job = none) := by
  have hnothing : ∃ out pieces, pieces.sum = 0 ∧ PiecesTaken env pieces r.web r.job r.web r.job out ∧
      r.out = r.out ++ out ∧ Moved 0 r.web r.web ∧ Running r.web bank ∧ (r.job = r.job ∨ r.job = none) :=
    ⟨[], [], rfl, ⟨rfl, rfl, rfl⟩, (List.append_nil _).symm, .rfl, h, .inl rfl⟩
  induction fuel generalizing rest r with
  | zero =>
    obtain rfl : rest = 0 := by omega
    exact hnothing
  | succ fuel ih =>
    by_cases hrest : rest = 0
    · subst hrest
      exact hnothing
    · simp only [takePieces, if_neg hrest]
      have hleft := h.left
      have hp : 1 ≤ min rest r.web.cursorLeft := by omega
      generalize hpiece : min rest r.web.cursorLeft = p at hp
      have hrunning := takePiece_running (env := env) (p := p) h
      obtain ⟨out1, hout1, htaken⟩ := takePiece_taken env p r
      obtain ⟨out, pieces, hsum, hpieces, hout, hmoved, hends, hjob⟩ := ih (rest - p) (r := takePiece env p r) (by omega)
        hrunning ⟨[], [], rfl, ⟨rfl, rfl, rfl⟩, (List.append_nil _).symm, .rfl, hrunning, .inl rfl⟩
      have htotal : p + (rest - p) = rest := by omega
      refine ⟨out1 ++ out, p :: pieces, by rw [List.sum_cons, hsum, htotal],
        ⟨by rw [hsum, htotal, hpiece], _, _, out1, out, rfl, htaken, hpieces⟩,
        by rw [hout, hout1, List.append_assoc], ?_, hends, ?_⟩
      · have hall := (takePiece_moved env p r).trans hmoved
        rwa [htotal] at hall
      · rcases hjob with hjob | hjob
        · rw [hjob]
          exact takePiece_job env p r
        · exact .inr hjob

/-! ## The event -/

theorem inMotion_iff (m : Mode) : inMotion m = true ↔ m = .standby ∨ m = .crawl ∨ m = .run := by
  cases m <;> simp [inMotion]

theorem encoderPosition_some {r : InputRecord} {hi lo : Int} (hhi : r.lanes.get 0 = some hi) (hlo : r.lanes.get 1 = some lo) :
    encoderPosition r = some (BitVec.ofInt 32 (hi % 65536 * 65536 + lo % 65536)) := by
  simp only [encoderPosition, hhi, hlo, Option.some.injEq]
  have hcast : (toWord hi * 65536 + toWord lo : Nat) = hi % 65536 * 65536 + lo % 65536 := by
    simp only [toWord]
    omega
  rw [← hcast, BitVec.ofInt_natCast]

theorem encoderPosition_none {r : InputRecord} (h : r.lanes.get 0 = none ∨ r.lanes.get 1 = none) :
    encoderPosition r = none := by
  rcases hhi : r.lanes.get 0 with _ | hi <;> rcases hlo : r.lanes.get 1 with _ | lo <;>
    simp_all [encoderPosition]

theorem exec_advance (w : Fin 4) {s : State} (hs : Released s) : exec (.advance w) s = .next
    (match inMotion (s.mode w), encoderPosition (s.record (encCh w)) with
      | true, some pos => s.putTrackRun w (takePosition s w pos)
      | _, _ => s) := by
  rw [exec, execAdvance, event_next _ s hs] <;> rfl

section
variable {w : Fin 4} {s : State} {pos r : BitVec 32}

theorem takePosition_first (h : (s.track w).encRef = none) : takePosition s w pos =
    ⟨{ s.track w with encRef := some pos }, s.tracker.jobs.get (housingOf w), []⟩ := by
  simp only [takePosition, h]

/-- The TRACK_GAP of a position `pos` after `r`. -/
def gapNotice (s : State) (w : Fin 4) (pos r : BitVec 32) : List Instr :=
  if (pos - r).toInt < 0 ∨ (s.params w).maxJump < (pos - r).toInt then
    [.noticeRaised (.trackGap w (saturate16 (pos - r).toInt))] else []

theorem takePosition_next (h : (s.track w).encRef = some r) : takePosition s w pos =
    takePieces (trackEnv s w) (pos - r).toInt.toNat (pos - r).toInt.toNat
      ⟨{ s.track w with encRef := some pos }, s.tracker.jobs.get (housingOf w), gapNotice s w pos r⟩ := by
  simp only [takePosition, h]
  rfl

theorem takePosition_reverse (h : (s.track w).encRef = some r) (hback : (pos - r).toInt ≤ 0) : takePosition s w pos =
    ⟨{ s.track w with encRef := some pos }, s.tracker.jobs.get (housingOf w), gapNotice s w pos r⟩ := by
  rw [takePosition_next h, Int.toNat_of_nonpos hback]
  rfl

theorem gapNotice_reverse (hback : (pos - r).toInt ≤ 0) : gapNotice s w pos r =
    if (pos - r).toInt < 0 then [.noticeRaised (.trackGap w (max (-32768) (pos - r).toInt))] else [] := by
  rw [gapNotice, show saturate16 (pos - r).toInt = max (-32768) (pos - r).toInt by rw [saturate16, clampInt]; omega]
  exact if_congr (by omega) rfl rfl

theorem gapNotice_forward (hforward : 0 < (pos - r).toInt) : gapNotice s w pos r =
    if ((s.params w).maxJump : Int) < (pos - r).toInt then [.noticeRaised (.trackGap w (min (pos - r).toInt 32767))]
    else [] := by
  rw [gapNotice, show saturate16 (pos - r).toInt = min (pos - r).toInt 32767 by rw [saturate16, clampInt]; omega]
  exact if_congr (by omega) rfl rfl

theorem toInt_toNat_of_pos {x : BitVec 32} (h : 0 < x.toInt) : x.toInt.toNat = x.toNat := by
  rw [BitVec.toInt_eq_toNat_cond] at h ⊢
  have := x.isLt
  split_ifs at h ⊢ <;> omega

end

/-- Settles O27: the position of the two lanes is judged against the reference; a forward one is an advance. -/
theorem encoderAdvanced : Obligations.EncoderAdvanced := by
  intro w s hs
  have hexec := exec_advance w hs
  refine ⟨fun hstill => ?_, fun hlanes => ?_, fun hi lo pos hmoves hhi hlo hpos => ?_⟩
  · have hmotion : inMotion (s.mode w) = false := by simpa using mt (inMotion_iff _).mp hstill
    rw [hmotion] at hexec
    exact hexec
  · rw [encoderPosition_none hlanes] at hexec
    cases hmotion : inMotion (s.mode w) <;> rw [hmotion] at hexec <;> exact hexec
  · rw [(inMotion_iff _).mpr hmoves, encoderPosition_some hhi hlo, ← hpos] at hexec
    have hruns : Runs (.advance w) s (s.putTrackRun w (takePosition s w pos)) := hexec
    refine ⟨fun hfirst => ?_, fun r href hback => ?_, fun r bank href hforward hactive hleft hlengths hcount => ?_⟩
    · rw [takePosition_first hfirst, putTrackRun_quiet] at hruns
      exact hruns
    · rw [takePosition_reverse href hback, gapNotice_reverse hback] at hruns
      have hjob : s.tracker.jobs.set (housingOf w) (s.tracker.jobs.get (housingOf w)) = s.tracker.jobs := tab_set_get ..
      simp only [State.putTrackRun, hjob] at hruns
      exact hruns
    · have hrunning : Running { s.track w with encRef := some pos } bank := ⟨hactive, hleft, hcount, hlengths⟩
      obtain ⟨out, pieces, hsum, hpieces, hout, hmoved, hends, hjob⟩ := takePieces_taken (trackEnv s w)
        (r := ⟨{ s.track w with encRef := some pos }, s.tracker.jobs.get (housingOf w), gapNotice s w pos r⟩)
        (pos - r).toInt.toNat (pos - r).toInt.toNat (Nat.le_refl _) hrunning
      rw [takePosition_next href] at hruns
      generalize takePieces (trackEnv s w) (pos - r).toInt.toNat (pos - r).toInt.toNat _ = r' at *
      rw [toInt_toNat_of_pos hforward] at hsum hmoved
      refine ⟨r'.web, r'.job, out, ⟨pieces, hsum, hpieces⟩, ?_, ?_, hmoved.encRef, hmoved.wash, hmoved.stations,
        hmoved.mask, hmoved.stationsSet, hmoved.bankA, hmoved.bankB, hends.left, hjob⟩
      · rw [State.putTrackRun, hout, gapNotice_forward hforward] at hruns
        exact hruns
      · rw [hmoved.path, BitVec.ofNat_toNat, BitVec.setWidth_eq]

end Sys2Proof.AdvanceProofs

/-! MARK (R18 to R21). -/
namespace Sys2Proof.MarkProofs

open Sys2Proof.Machine Sys2Proof.Statements Sys2Proof.Laws Sys2Proof.WriteProofs Sys2Proof.HousingProofs
open Sys2Proof.ProfileProofs Sys2Proof.SubscriptionProofs Sys2Proof.DecoderProofs
open Sys2Proof.FiringProofs Sys2Proof.AdvanceProofs Sys2Proof.TrackWriteProofs

/-- A request to an indexed unit is answered by the unit's owner on the rest of its arguments. -/
theorem answered_of_index {n code : Nat} {f : Fin n → List Byte → State → Answer} {mk : Request → Instr}
    (hexec : ∀ rq s, exec (mk rq) s = request code rq (indexed n f) s) {s t : State} (tag : Byte) (i : Fin n)
    (hn : n ≤ 256) (extra : List Byte) {st : Status} {clamped : Bool} {data : List Byte} (hs : InService s)
    (howner : f i extra (passed s) = ⟨st, clamped, data, t⟩) (hnode : t.ring.node = s.ring.node) :
    Answered (mk ⟨tag, BitVec.ofNat 8 i.val :: extra⟩) s tag (BitVec.ofNat 8 code) st clamped data t := by
  refine answered_of_owner (rq := ⟨tag, BitVec.ofNat 8 i.val :: extra⟩) (code := code) (hexec _ s) hs ?_ hnode
  have hindex : (BitVec.ofNat 8 i.val).toNat = i.val := by
    rw [BitVec.toNat_ofNat]
    omega
  rw [indexed_cons n f _ extra _ (by omega)]
  simp only [hindex, Fin.eta]
  exact howner

theorem passed_housing (s : State) (h : Fin 2) : (passed s).housing h = s.housing h := by
  rw [State.housing, State.housing, passed_monitors]

theorem passed_params (s : State) (w : Fin 4) : (passed s).params w = s.params w := by
  rw [State.params, State.params, passed_webs]

theorem passed_leadWeb (s : State) (h : Fin 2) : (passed s).leadWeb h = s.leadWeb h := by
  rw [State.leadWeb, State.leadWeb, passed_housing]

theorem passed_isLead (s : State) (w : Fin 4) : (passed s).isLead w = s.isLead w := by
  rw [State.isLead, State.isLead, passed_leadWeb]

theorem passed_trackEnv (s : State) (w : Fin 4) : trackEnv (passed s) w = trackEnv s w := by
  rw [trackEnv, trackEnv, passed_params, passed_isLead]

/-! ## Placement (R19, R21) -/

/-- The pending switch after a placement: a dropped marker that carries it ends it. -/
def placedJob (m : Marker) (dropped : Bool) (job : Option Bank) : Option Bank :=
  if dropped = true ∧ m.isSwitch = true then none else job

/-- What a placement reports: a dropped marker, and the completion of the switch it carried. -/
def placedOut (w : Fin 4) (m : Marker) (dropped : Bool) (job : Option Bank) : List Instr :=
  (if dropped then [.noticeRaised (.markerDropped w m.kind .request)] else []) ++
    if dropped = true ∧ m.isSwitch = true then job.toList.map (.completionSignal (housingOf w)) else []

/-- The marker of an accepted MARK. -/
def requested (env : TrackEnv) (k : MarkerKind) : Marker := ⟨k, .request, 0, env.lead && decide (k = .jobcut)⟩

theorem placeMarker_placed (env : TrackEnv) (k : MarkerKind) (r : TrackRun) {older : List Segment} {o : Segment}
    (hqueue : r.web.queue = older ++ [o]) (hopen : ¬ (o.length = 0 ∧ o.marker ≠ none)) :
    ∃ t' dropped, Placed (requested env k) (recordLoad env.params r.web.currentRun (r.web.washOpen || decide (k = .wash)))
        r.web t' dropped ∧
      placeMarker env k r = ⟨t', placedJob (requested env k) dropped r.job,
        r.out ++ placedOut env.web (requested env k) dropped r.job⟩ := by
  have hlast : r.web.openRecord = some o := by rw [TrackWeb.openRecord, hqueue, List.getLast?_concat]
  have hquiet : ∀ t', (⟨t', r.job, r.out⟩ : TrackRun) = ⟨t', placedJob (requested env k) false r.job,
      r.out ++ placedOut env.web (requested env k) false r.job⟩ := by
    intro t'
    simp [placedJob, placedOut]
  simp only [placeMarker, hlast, Option.isNone_iff_eq_none]
  by_cases hlength : o.length = 0
  · have hmarker : o.marker = none := by
      by_contra hmarked
      exact hopen ⟨hlength, hmarked⟩
    rw [if_pos hlength, hqueue, mapLast_append]
    exact ⟨_, false, ⟨older, o, hqueue, .inl ⟨hlength, hmarker, rfl, rfl⟩⟩, hquiet _⟩
  · rw [if_neg hlength]
    have hpos := Nat.pos_of_ne_zero hlength
    by_cases hroom : r.web.queue.length < 64
    · rw [if_pos (show r.web.queue.length < Config.queueRecords from hroom)]
      exact ⟨_, false, ⟨older, o, hqueue, .inr (.inl ⟨hpos, hroom, rfl, rfl⟩)⟩, hquiet _⟩
    · rw [if_neg (show ¬ r.web.queue.length < Config.queueRecords from hroom)]
      have hfull := Nat.le_of_not_lt hroom
      by_cases hmarker : o.marker = none
      · rw [if_pos hmarker, hqueue, mapLast_append]
        exact ⟨_, false, ⟨older, o, hqueue, .inr (.inr (.inl ⟨hpos, hfull, hmarker, rfl, rfl⟩))⟩, hquiet _⟩
      · rw [if_neg hmarker, hqueue, mapLast_append]
        refine ⟨_, true, ⟨older, o, hqueue, .inr (.inr (.inr ⟨hpos, hfull, hmarker, rfl, rfl⟩))⟩, ?_⟩
        rcases r.job with _ | inc
        · by_cases hswitch : (requested env k).isSwitch = true <;>
            simp [placedJob, placedOut, hswitch, raise] <;> rfl
        · by_cases hswitch : (requested env k).isSwitch = true
          · simp only [requested] at hswitch
            simp [placedJob, placedOut, hswitch, raise, requested]
          · simp only [requested] at hswitch
            simp [placedJob, placedOut, hswitch, raise, requested]

/-! ## The bank swap of a JOBCUT (R20) -/

/-- The web's other bank is VALID (R18 check 4). -/
def Spare (t : TrackWeb) : Prop :=
  (t.bankA.state = .active ∧ t.bankB.state = .valid) ∨
    (t.bankA.state ≠ .active ∧ t.bankB.state = .active ∧ t.bankA.state = .valid)

theorem spareBank_valid_iff (t : TrackWeb) : (spareBank t).map CoverageBank.state = some .valid ↔ Spare t := by
  by_cases hA : t.bankA.state = .active
  · simp [spareBank, TrackWeb.activeBank, hA, Spare, otherCovBank, TrackWeb.bank]
  · by_cases hB : t.bankB.state = .active <;>
      simp [spareBank, TrackWeb.activeBank, hA, hB, Spare, otherCovBank, TrackWeb.bank]

/-- The banks `x` and `y` are those of `t` with the ACTIVE and the VALID one changed over. -/
def Swapped (t : TrackWeb) (x y : CoverageBank) : Prop :=
  (t.bankA.state = .active ∧ t.bankB.state = .valid ∧ x = { t.bankA with state := .valid } ∧
      y = { t.bankB with state := .active }) ∨
    (t.bankB.state = .active ∧ t.bankA.state = .valid ∧ x = { t.bankA with state := .active } ∧
      y = { t.bankB with state := .valid })

/-- Run 0 of the incoming bank. -/
def incomingRun (t : TrackWeb) : CoverageRun := if t.bankA.state = .active then t.bankB.runs.get 0 else t.bankA.runs.get 0

/-- The web with its banks changed over and the cursor at the start of the incoming one. -/
def swappedWeb (t : TrackWeb) (x y : CoverageBank) : TrackWeb :=
  { t with bankA := x, bankB := y, cursorRun := 0, cursorLeft := (incomingRun t).length }

section
variable {t : TrackWeb} {x y : CoverageBank}

theorem Swapped.spare (h : Swapped t x y) : Spare t := by
  rcases h with ⟨hA, hB, -, -⟩ | ⟨hB, hA, -, -⟩
  · exact .inl ⟨hA, hB⟩
  · exact .inr ⟨by simp [hA], hB, hA⟩

theorem swapBanks_eq (h : Swapped t x y) : swapBanks t = swappedWeb t x y := by
  rcases h with ⟨hA, hB, rfl, rfl⟩ | ⟨hB, hA, rfl, rfl⟩ <;>
    simp [swapBanks, TrackWeb.activeBank, hA, hB, otherCovBank, TrackWeb.setBank, TrackWeb.bank, TrackWeb.cursorToStart,
      swappedWeb, incomingRun]

theorem currentRun_swappedWeb (h : Swapped t x y) : (swappedWeb t x y).currentRun = incomingRun t := by
  rcases h with ⟨hA, hB, rfl, rfl⟩ | ⟨hB, hA, rfl, rfl⟩ <;>
    simp [TrackWeb.currentRun, TrackWeb.activeBank, hA, TrackWeb.bank, swappedWeb, incomingRun]

end

/-! ## The reservation (R70) -/

/-- Every indicator points at the bank other than `inc`, which is VALID. -/
def Reservable (p : ProfileHousing) (inc : Bank) : Prop :=
  (∀ i ∈ p.indicators, i = some (otherBank inc)) ∧ (p.bank inc).state = .valid

theorem reservation_eq (p : ProfileHousing) : reservation p =
    if p.indicators.all (fun i => decide (i = some .p)) ∧ p.bankQ.state = .valid then some .q
    else if p.indicators.all (fun i => decide (i = some .q)) ∧ p.bankP.state = .valid then some .p else none := rfl

theorem indicators_ne_nil (p : ProfileHousing) : p.indicators ≠ [] := by
  intro h
  have hlength := congrArg List.length h
  simp only [ProfileHousing.indicators, List.length_append, p.zones.size, List.length_nil] at hlength
  omega

theorem reservation_some {p : ProfileHousing} {inc : Bank} (h : Reservable p inc) : reservation p = some inc := by
  obtain ⟨hall, hvalid⟩ := h
  rw [reservation_eq]
  cases inc with
  | q => rw [if_pos ⟨by simpa [otherBank] using hall, hvalid⟩]
  | p =>
    rw [if_neg, if_pos ⟨by simpa [otherBank] using hall, hvalid⟩]
    rintro ⟨hp, -⟩
    obtain ⟨i, hi⟩ := List.exists_mem_of_ne_nil _ (indicators_ne_nil p)
    have hq : i = some .q := hall i hi
    have hp : i = some .p := by simpa using List.all_eq_true.mp hp i hi
    simp [hq] at hp

theorem reservation_none {p : ProfileHousing}
    (h : ¬ (((∀ i ∈ p.indicators, i = some .p) ∧ p.bankQ.state = .valid) ∨
      ((∀ i ∈ p.indicators, i = some .q) ∧ p.bankP.state = .valid))) : reservation p = none := by
  rw [reservation_eq, if_neg (fun hq => h (.inl ⟨by simpa using hq.1, hq.2⟩)),
    if_neg (fun hp => h (.inr ⟨by simpa using hp.1, hp.2⟩))]

/-! ## The checks (R18) -/

section
variable {s : State} {w : Fin 4}

theorem markWeb_still (k : MarkerKind) (h : inMotion (s.mode w) = false) : markWeb w k s = refuse .state s := by
  rw [markWeb, h]
  rfl

theorem markWeb_empty (k : MarkerKind) (hmotion : inMotion (s.mode w) = true) (hqueue : (s.track w).queue = []) :
    markWeb w k s = refuse .state s := by
  simp [markWeb, hmotion, TrackWeb.openRecord, hqueue]

/-- The open record is fresh and marked: no marker may join the queue (R18). -/
def FreshMarked (t : TrackWeb) : Prop := ∃ older o, t.queue = older ++ [o] ∧ o.length = 0 ∧ o.marker ≠ none

theorem markWeb_fresh (k : MarkerKind) (hmotion : inMotion (s.mode w) = true) (h : FreshMarked (s.track w)) :
    markWeb w k s = refuse .busy s := by
  obtain ⟨older, o, hqueue, hlength, hmarker⟩ := h
  have hsome : o.marker.isSome = true := Option.isSome_iff_ne_none.mpr hmarker
  simp [markWeb, hmotion, TrackWeb.openRecord, hqueue, hlength, hsome]

theorem markWeb_open (k : MarkerKind) (hmotion : inMotion (s.mode w) = true) {older : List Segment} {o : Segment}
    (hqueue : (s.track w).queue = older ++ [o]) (hopen : ¬ (o.length = 0 ∧ o.marker ≠ none)) : markWeb w k s =
      if k = .jobcut then markJobcut w s else acceptMark w k (s.tracker.jobs.get (housingOf w)) s := by
  have hlast : (s.track w).openRecord = some o := by rw [TrackWeb.openRecord, hqueue, List.getLast?_concat]
  have hnot : ¬ (o.length = 0 ∧ o.marker.isSome = true) := by rwa [Option.isSome_iff_ne_none]
  simp only [markWeb, hmotion, hlast, if_neg hnot, Bool.not_true, Bool.false_eq_true, if_false]

theorem markJobcut_bare (h : ¬ Spare (s.track w)) : markJobcut w s = refuse .state s := by
  simp only [markJobcut, if_pos (mt (spareBank_valid_iff _).mp h)]

theorem markJobcut_follower (h : Spare (s.track w)) (hlead : s.leadWeb (housingOf w) ≠ w) :
    markJobcut w s = acceptMark w .jobcut (s.tracker.jobs.get (housingOf w)) s := by
  have hvalid := (spareBank_valid_iff _).mpr h
  have hlead : ¬ s.isLead w = true := by simpa [State.isLead] using hlead
  simp only [markJobcut, hvalid, ne_eq, not_true_eq_false, if_false, if_neg hlead]

theorem markJobcut_lead (h : Spare (s.track w)) (hlead : s.leadWeb (housingOf w) = w) : markJobcut w s =
    if (s.tracker.jobs.get (housingOf w)).isSome then refuse .busy s
    else match reservation (s.profiles.get (housingOf w)) with
      | none => refuse .state s
      | some inc => acceptMark w .jobcut (some inc) (s.reserve (housingOf w) inc) := by
  have hvalid := (spareBank_valid_iff _).mpr h
  have hlead : s.isLead w = true := by simpa [State.isLead] using hlead
  simp only [markJobcut, hvalid, ne_eq, not_true_eq_false, if_false, if_pos hlead] <;> rfl

end

/-! ## Acceptance -/

theorem programDrop_eq (w : Fin 4) (r : CoverageRun) :
    programDrop w r = r.marker.toList.map fun n => .noticeRaised (.markerDropped w (.note n) .program) := by
  rw [programDrop]
  rcases r.marker with _ | n <;> rfl

/-- What a MARK that drops its own marker reports of it. -/
def dropNotice (w : Fin 4) (k : MarkerKind) (dropped : Bool) : List Instr :=
  if dropped then [.noticeRaised (.markerDropped w k .request)] else []

section
variable {s : State} {w : Fin 4} {older : List Segment} {o : Segment} (hqueue : (s.track w).queue = older ++ [o])
  (hopen : ¬ (o.length = 0 ∧ o.marker ≠ none))
include hqueue hopen

theorem acceptMark_plain {k : MarkerKind} (hk : k ≠ .jobcut) (job : Option Bank) : ∃ t' dropped,
    let t := s.track w
    let wash := if k = .wash then (s.params w).washLength else t.wash
    Placed ⟨k, .request, 0, false⟩
        (min 4000 (t.currentRun.load + if 0 < wash ∨ k = .wash then (s.params w).washLoad else 0))
        { t with wash := wash } t' dropped ∧
      acceptMark w k job s = done (sending (tracked w t' job s) (dropNotice w k dropped)) := by
  have hprepared : prepareMark (trackEnv s w) k job (s.track w) =
      ⟨{ s.track w with wash := if k = .wash then (s.params w).washLength else (s.track w).wash }, job, []⟩ := by
    rw [prepareMark]
    split_ifs <;> rfl
  have hplain : requested (trackEnv s w) k = ⟨k, .request, 0, false⟩ := by simp [requested, hk]
  obtain ⟨t', dropped, hplaced, heq⟩ := placeMarker_placed (trackEnv s w) k
    ⟨{ s.track w with wash := if k = .wash then (s.params w).washLength else (s.track w).wash }, job, []⟩ hqueue hopen
  rw [hplain] at hplaced heq
  refine ⟨t', dropped, ?_, ?_⟩
  · simp only [recordLoad, TrackWeb.washOpen, Bool.or_eq_true, decide_eq_true_eq] at hplaced
    exact hplaced
  · rw [acceptMark, hprepared]
    simp only [heq, placedJob, placedOut, Marker.isSwitch, Bool.false_and, Bool.false_eq_true, and_false, if_false,
      List.nil_append, List.append_nil]
    rfl

theorem acceptMark_jobcut {x y : CoverageBank} (hswap : Swapped (s.track w) x y) (job : Option Bank) :
    let t := s.track w
    let m : Marker := ⟨.jobcut, .request, 0, s.isLead w⟩
    ∃ t' dropped,
      Placed m (min 4000 ((incomingRun t).load + if 0 < t.wash then (s.params w).washLoad else 0)) (swappedWeb t x y) t'
          dropped ∧
        acceptMark w .jobcut job s = done (sending (tracked w t' (placedJob m dropped job) s)
          (((incomingRun t).marker.toList.map fun n => .noticeRaised (.markerDropped w (.note n) .program)) ++
            placedOut w m dropped job)) := by
  have hprepared : prepareMark (trackEnv s w) .jobcut job (s.track w) = ⟨swappedWeb (s.track w) x y, job,
      (incomingRun (s.track w)).marker.toList.map fun n => .noticeRaised (.markerDropped w (.note n) .program)⟩ := by
    simp only [prepareMark, reduceCtorEq, if_false, if_true, swapBanks_eq hswap, currentRun_swappedWeb hswap,
      programDrop_eq]
    rfl
  have hmarker : requested (trackEnv s w) .jobcut = ⟨.jobcut, .request, 0, s.isLead w⟩ := by
    simp [requested, trackEnv]
  obtain ⟨t', dropped, hplaced, heq⟩ := placeMarker_placed (trackEnv s w) .jobcut ⟨swappedWeb (s.track w) x y, job,
      (incomingRun (s.track w)).marker.toList.map fun n => .noticeRaised (.markerDropped w (.note n) .program)⟩
      hqueue hopen
  rw [hmarker] at hplaced heq
  refine ⟨t', dropped, ?_, ?_⟩
  · rw [currentRun_swappedWeb hswap] at hplaced
    simp only [recordLoad, TrackWeb.washOpen, Bool.or_eq_true, decide_eq_true_eq, reduceCtorEq, or_false] at hplaced
    exact hplaced
  · rw [acceptMark, hprepared]
    simp only [heq]
    rfl

end

/-! ## The request -/

/-- The owner of a MARK whose marker kind is `code`. -/
def markOwner (w : Fin 4) (rest : List Byte) (s : State) : Answer :=
  match rest with
  | [] => refuse .range s
  | k :: _ =>
    match markerOfCode k.toNat with
    | none => refuse .range s
    | some k => markWeb w k s

theorem exec_mark (rq : Request) (s : State) : exec (.mark rq) s = request 7 rq (indexed 4 markOwner) s := rfl

theorem markerOfCode_some {c : Nat} (h : c ≤ 9) : ∃ k, markerOfCode c = some k ∧ (k = .jobcut ↔ c = 1) := by
  rw [markerOfCode]
  split_ifs with h0 h1 h2
  · exact ⟨_, rfl, by simp [h0]⟩
  · exact ⟨_, rfl, by simp [h1]⟩
  · exact ⟨_, rfl, by simp [h2]⟩
  · rw [asFin, dif_pos (by omega)]
    exact ⟨_, rfl, by simp [h1]⟩

theorem markerOfCode_none {c : Nat} (h : 9 < c) : markerOfCode c = none := by
  rw [markerOfCode, if_neg (by omega), if_neg (by omega), if_neg (by omega), asFin, dif_neg (by omega)]
  rfl

section
variable {s : State} (w : Fin 4) (tag code : Byte) (extra : List Byte) (hs : InService s)
include hs

theorem answered_of_mark {k : MarkerKind} (hk : markerOfCode code.toNat = some k) {st : Status} {t : State}
    (howner : markWeb w k (passed s) = ⟨st, false, [], t⟩) (hnode : t.ring.node = s.ring.node) :
    Answered (.mark ⟨tag, BitVec.ofNat 8 w.val :: code :: extra⟩) s tag 7 st false [] t :=
  answered_of_index exec_mark tag w (by decide) (code :: extra) hs (by simpa only [markOwner, hk] using howner) hnode

theorem refused_of_mark {k : MarkerKind} (hk : markerOfCode code.toNat = some k) {st : Status}
    (howner : markWeb w k (passed s) = refuse st (passed s)) :
    Refused (.mark ⟨tag, BitVec.ofNat 8 w.val :: code :: extra⟩) s tag 7 st [] :=
  answered_of_mark w tag code extra hs hk howner (passed_node s)

end

theorem reserve_passed (s : State) (h : Fin 2) (inc : Bank) : (passed s).reserve h inc =
    { passed s with profiles := s.profiles.set h { s.profiles.get h with switch := some inc } } := by
  rw [State.reserve, passed_profiles]
  rfl

/-- The refusals of a MARK, check by check. -/
theorem mark_refused (w : Fin 4) (code tag : Byte) (extra : List Byte) (s : State) (hs : InService s) :
    let c := Instr.mark ⟨tag, BitVec.ofNat 8 w.val :: code :: extra⟩
    let t := s.track w
    let h := housingOf w
    Refused (.mark ⟨tag, [BitVec.ofNat 8 w.val]⟩) s tag 7 .range [] ∧
    (9 < code.toNat → Refused c s tag 7 .range []) ∧
    (code.toNat ≤ 9 → s.mode w = .idle ∨ s.mode w = .brk → Refused c s tag 7 .state []) ∧
    (code.toNat ≤ 9 → s.mode w ≠ .idle → s.mode w ≠ .brk →
      (t.queue = [] → Refused c s tag 7 .state []) ∧
      (FreshMarked t → Refused c s tag 7 .busy []) ∧
      (t.queue ≠ [] → ¬ FreshMarked t → code = 1 →
        (¬ Spare t → Refused c s tag 7 .state []) ∧
        (Spare t → s.leadWeb h = w → s.tracker.jobs.get h ≠ none → Refused c s tag 7 .busy []) ∧
        (Spare t → s.leadWeb h = w → s.tracker.jobs.get h = none →
          ¬ (((∀ i ∈ (s.profiles.get h).indicators, i = some .p) ∧ (s.profiles.get h).bankQ.state = .valid) ∨
            ((∀ i ∈ (s.profiles.get h).indicators, i = some .q) ∧ (s.profiles.get h).bankP.state = .valid)) →
          Refused c s tag 7 .state []))) := by
  refine ⟨answered_of_index exec_mark tag w (by decide) [] hs rfl (passed_node s), fun hcode => ?_,
    fun hcode hstill => ?_, fun hcode hidle hbrk => ⟨fun hempty => ?_, fun hfresh => ?_, fun hqueue hopen hone => ?_⟩⟩
  · exact answered_of_index exec_mark tag w (by decide) (code :: extra) hs
      (by simp only [markOwner, markerOfCode_none hcode]; rfl) (passed_node s)
  · obtain ⟨k, hk, -⟩ := markerOfCode_some hcode
    refine refused_of_mark w tag code extra hs hk (markWeb_still k ?_)
    rw [passed_mode]
    rcases hstill with h | h <;> rw [h] <;> rfl
  · obtain ⟨k, hk, -⟩ := markerOfCode_some hcode
    refine refused_of_mark w tag code extra hs hk (markWeb_empty k ?_ (by rwa [passed_track]))
    rw [passed_mode]
    cases hm : s.mode w <;> simp_all [inMotion]
  · obtain ⟨k, hk, -⟩ := markerOfCode_some hcode
    refine refused_of_mark w tag code extra hs hk (markWeb_fresh k ?_ (by rwa [passed_track]))
    rw [passed_mode]
    cases hm : s.mode w <;> simp_all [inMotion]
  · have hmotion : inMotion ((passed s).mode w) = true := by
      rw [passed_mode]
      cases hm : s.mode w <;> simp_all [inMotion]
    obtain ⟨older, o, hlast⟩ : ∃ older o, (s.track w).queue = older ++ [o] :=
      ⟨_, _, (List.dropLast_append_getLast hqueue).symm⟩
    have hnot : ¬ (o.length = 0 ∧ o.marker ≠ none) := fun h => hopen ⟨older, o, hlast, h⟩
    have hk : markerOfCode code.toNat = some .jobcut := by rw [hone]; rfl
    have howner : markWeb w .jobcut (passed s) = markJobcut w (passed s) := by
      rw [markWeb_open .jobcut hmotion (by rw [passed_track]; exact hlast) hnot, if_pos rfl]
    refine ⟨fun hbare => ?_, fun hspare hlead hjob => ?_, fun hspare hlead hjob hnone => ?_⟩ <;>
      refine refused_of_mark w tag code extra hs hk (howner.trans ?_)
    · exact markJobcut_bare (by rwa [passed_track])
    · rw [markJobcut_lead (by rwa [passed_track]) (by rwa [passed_leadWeb]), passed_tracker,
        if_pos (Option.isSome_iff_ne_none.mpr hjob)]
    · rw [markJobcut_lead (by rwa [passed_track]) (by rwa [passed_leadWeb]), passed_tracker, hjob, passed_profiles,
        reservation_none hnone]
      rfl

/-- Settles O28: the checks in their order, then the placement of each kind. -/
theorem markJudgedAndPlaced : Obligations.MarkJudgedAndPlaced := by
  refine ⟨mark_refused, fun w code tag k extra s hs ⟨hmotion, older, o, hqueue, hopen⟩ hk => ?_⟩
  have hmotion : inMotion ((passed s).mode w) = true := by rwa [passed_mode, inMotion_iff]
  have hqueue : ((passed s).track w).queue = older ++ [o] := by rwa [passed_track]
  have hopened := markWeb_open k hmotion hqueue hopen
  refine ⟨fun hplain => ?_, fun hjobcut x y hswap => ?_⟩
  · obtain ⟨t', dropped, hplaced, haccepted⟩ := acceptMark_plain hqueue hopen hplain (s.tracker.jobs.get (housingOf w))
    rw [passed_track, passed_params] at hplaced
    rw [if_neg hplain, passed_tracker, haccepted] at hopened
    exact ⟨t', dropped, hplaced, answered_of_mark w tag code extra hs hk hopened (passed_node s)⟩
  · subst hjobcut
    have hswap : Swapped ((passed s).track w) x y := by rwa [passed_track]
    rw [if_pos rfl] at hopened
    refine ⟨fun hfollows => ?_, fun inc hleads hjob hall hvalid => ?_⟩
    · have hfollower : (passed s).isLead w = false := by
        rw [passed_isLead]
        exact decide_eq_false hfollows
      obtain ⟨t', dropped, hplaced, haccepted⟩ := acceptMark_jobcut hqueue hopen hswap (s.tracker.jobs.get (housingOf w))
      rw [hfollower, passed_track, passed_params] at hplaced
      rw [markJobcut_follower hswap.spare (by rwa [passed_leadWeb]), passed_tracker, haccepted, hfollower,
        passed_track] at hopened
      refine ⟨t', dropped, hplaced, answered_of_mark w tag code extra hs hk (hopened.trans ?_) (passed_node s)⟩
      simp only [placedJob, placedOut, Marker.isSwitch, Bool.false_and, Bool.false_eq_true, and_false, if_false,
        List.append_nil]
      rfl
    · have hleader : ((passed s).reserve (housingOf w) inc).isLead w = true := by
        show (passed s).isLead w = true
        rw [passed_isLead]
        exact decide_eq_true hleads
      have hreserved : reservation ((passed s).profiles.get (housingOf w)) = some inc := by
        rw [passed_profiles]
        exact reservation_some ⟨hall, hvalid⟩
      have htrack : ((passed s).reserve (housingOf w) inc).track w = s.track w := passed_track s w
      have hparams : ((passed s).reserve (housingOf w) inc).params w = s.params w := passed_params s w
      obtain ⟨t', dropped, hplaced, haccepted⟩ := acceptMark_jobcut (s := (passed s).reserve (housingOf w) inc)
        hqueue hopen hswap (some inc)
      rw [hleader] at hplaced haccepted
      rw [markJobcut_lead hswap.spare (by rwa [passed_leadWeb]), passed_tracker, hjob, hreserved] at hopened
      have hanswer := hopened.trans haccepted
      refine ⟨t', dropped, ?_, answered_of_mark w tag code extra hs hk (hanswer.trans ?_) (passed_node s)⟩
      · rw [hparams, htrack] at hplaced
        exact hplaced
      · simp only [htrack, placedJob, placedOut, Marker.isSwitch, decide_true, Bool.and_true, and_true,
          List.append_assoc]
        rw [reserve_passed]
        rfl

end Sys2Proof.MarkProofs

/-! Web Mode Control: speeds, breaks, clearing, disabling, plans (R30 to R41). -/
namespace Sys2Proof.WebModeProofs

open Sys2Proof.Machine Sys2Proof.Statements Sys2Proof.Laws Sys2Proof.WriteProofs Sys2Proof.HousingProofs
open Sys2Proof.SubscriptionProofs Sys2Proof.AdvanceProofs Sys2Proof.MarkProofs

/-! ## A web's record replaced -/

theorem putWeb_eq (s : State) (w : Fin 4) (c : WebControl) (cs : List Instr) :
    s.putWeb w c cs = sending { s with webs := s.webs.set w c } cs := rfl

theorem putWeb_quiet (s : State) (w : Fin 4) (c : WebControl) : s.putWeb w c [] = { s with webs := s.webs.set w c } := by
  rw [State.putWeb, List.append_nil]

theorem putWeb_passed (s : State) (w : Fin 4) (c : WebControl) (cs : List Instr) :
    (passed s).putWeb w c cs = sending { passed s with webs := s.webs.set w c } cs := by
  rw [putWeb_eq, passed_webs]

theorem transitionSignals_eq (w : Fin 4) (old new : Mode) : transitionSignals w old new = transition w old new := rfl

theorem breakChannels_eq (w : Fin 4) : breakChannels w = reachedBy w := by
  revert w
  decide

theorem enterBreak_eq (w : Fin 4) (c : WebControl) (causes : BitVec 5) (s : State) :
    enterBreak w c causes s = broken w c causes s := by
  rw [enterBreak, breakSignals, breakChannels_eq, putWeb_eq]
  rfl

/-! ## The break detectors (R33) -/

/-- Whether the lane at a detector's place is present and not 0. -/
def laneBit (r : InputRecord) (i : Fin 8) : Bool := match r.lanes.get i with | some x => decide (x ≠ 0) | none => false

theorem activeDetectors_eq (r : InputRecord) : activeDetectors r = [(0 : Fin 8), 1, 2, 3].foldl
    (fun m i => if laneBit r i then m ||| BitVec.ofNat 5 (2 ^ i.val) else m) 0 := by
  refine congrArg (fun f => List.foldl f 0 [(0 : Fin 8), 1, 2, 3]) (funext fun m => funext fun i => ?_)
  rw [laneBit]
  rcases r.lanes.get i with _ | x <;> simp

theorem getLsbD_marked (m : BitVec 5) (marked : Bool) {i j : Nat} (hj : j < 5) :
    (if marked then m ||| BitVec.ofNat 5 (2 ^ i) else m).getLsbD j = (m.getLsbD j || (marked && decide (i = j))) := by
  cases marked
  · simp
  · rw [if_pos rfl, BitVec.getLsbD_or, BitVec.getLsbD_ofNat, Nat.testBit_two_pow]
    simp [hj]

theorem activeDetectors_bits (r : InputRecord) :
    (∀ i : Fin 4, (activeDetectors r).getLsbD i.val = laneBit r ⟨i.val, by omega⟩) ∧
      (activeDetectors r).getLsbD 4 = false := by
  rw [activeDetectors_eq]
  simp only [List.foldl_cons, List.foldl_nil]
  refine ⟨fun i => ?_, ?_⟩
  · rw [getLsbD_marked _ _ (by omega), getLsbD_marked _ _ (by omega), getLsbD_marked _ _ (by omega),
      getLsbD_marked _ _ (by omega)]
    fin_cases i <;> simp
  · rw [getLsbD_marked _ _ (by omega), getLsbD_marked _ _ (by omega), getLsbD_marked _ _ (by omega),
      getLsbD_marked _ _ (by omega)]
    simp

theorem laneBit_iff (s : State) (w i : Fin 4) : laneBit (s.record (brkCh w)) ⟨i.val, by omega⟩ = true ↔ LaneActive s w i := by
  rw [laneBit, LaneActive]
  rcases (s.record (brkCh w)).lanes.get ⟨i.val, _⟩ with _ | x <;> simp

theorem detectors_iff (s : State) (w i : Fin 4) :
    (activeDetectors (s.record (brkCh w))).getLsbD i.val = true ↔ LaneActive s w i := by
  rw [(activeDetectors_bits _).1, laneBit_iff]

/-- A detector mask is read from the lanes bit by bit. -/
theorem eq_activeDetectors {s : State} {w : Fin 4} {d : BitVec 5} (h : ∀ i : Fin 4, d.getLsbD i.val = true ↔ LaneActive s w i)
    (hlast : d.getLsbD 4 = false) : d = activeDetectors (s.record (brkCh w)) := by
  refine BitVec.eq_of_getLsbD_eq fun i hi => ?_
  by_cases hi4 : i < 4
  · exact Bool.eq_iff_iff.mpr ((h ⟨i, hi4⟩).trans (detectors_iff s w ⟨i, hi4⟩).symm)
  · obtain rfl : i = 4 := by omega
    rw [hlast, (activeDetectors_bits _).2]

theorem activeDetectors_eq_zero_iff (s : State) (w : Fin 4) :
    activeDetectors (s.record (brkCh w)) = 0 ↔ ∀ i, ¬ LaneActive s w i := by
  refine ⟨fun h i => ?_, fun h => (eq_activeDetectors (d := 0) (fun i => ?_) (by simp)).symm⟩
  · rw [← detectors_iff, h]
    simp
  · simp [h i]

theorem exec_brkSample (w : Fin 4) {s : State} (hs : Released s) : exec (.brkSample w) s = .next (takeBrkSample w s) := by
  rw [exec, execBrkSample, event_next _ s hs]

theorem exec_brkStaleSignal (w : Fin 4) {s : State} (hs : Released s) :
    exec (.brkStaleSignal w) s = .next (takeBrkStale w s) := by
  rw [exec, execBrkStaleSignal, event_next _ s hs]

theorem exec_encStaleSignal (w : Fin 4) {s : State} (hs : Released s) : exec (.encStaleSignal w) s = .next s := by
  rw [exec, execEncStaleSignal, event_next _ s hs]

section
variable {s : State} {w : Fin 4}

theorem takeBrkSample_quiet (h : activeDetectors (s.record (brkCh w)) = 0 ∨ (s.webs.get w).mode = .idle) :
    takeBrkSample w s = s := by
  rw [takeBrkSample]
  rcases h with h | h
  · simp only [h, if_true]
  · simp only [h, inMotion, Bool.false_eq_true, reduceCtorEq, if_false, ite_self]

theorem takeBrkSample_breaks (h : activeDetectors (s.record (brkCh w)) ≠ 0) (hmotion : inMotion (s.webs.get w).mode = true) :
    takeBrkSample w s = broken w (s.webs.get w) (activeDetectors (s.record (brkCh w))) s := by
  simp only [takeBrkSample, if_neg h, if_pos hmotion, enterBreak_eq]

theorem takeBrkSample_adds (h : activeDetectors (s.record (brkCh w)) ≠ 0) (hbrk : (s.webs.get w).mode = .brk) :
    takeBrkSample w s = { s with webs := s.webs.set w { s.webs.get w with
      causes := (s.webs.get w).causes ||| activeDetectors (s.record (brkCh w)) } } := by
  simp only [takeBrkSample, if_neg h, hbrk, inMotion, Bool.false_eq_true, if_false, if_true, putWeb_quiet]

theorem takeBrkStale_breaks (h : (s.webs.get w).mode = .crawl ∨ (s.webs.get w).mode = .run) :
    takeBrkStale w s = broken w (s.webs.get w) 16 s := by
  have hmoving : moving (s.webs.get w).mode = true := by rcases h with h | h <;> rw [h] <;> rfl
  simp only [takeBrkStale, if_pos hmoving, enterBreak_eq, staleCause]

theorem takeBrkStale_adds (hbrk : (s.webs.get w).mode = .brk) : takeBrkStale w s =
    { s with webs := s.webs.set w { s.webs.get w with causes := (s.webs.get w).causes ||| 16 } } := by
  simp only [takeBrkStale, hbrk, moving, Bool.false_eq_true, if_false, if_true, putWeb_quiet, staleCause]

theorem takeBrkStale_quiet (h : (s.webs.get w).mode = .idle ∨ (s.webs.get w).mode = .standby) : takeBrkStale w s = s := by
  rcases h with h | h <;> simp only [takeBrkStale, h, moving, Bool.false_eq_true, reduceCtorEq, if_false]

end

/-- Settles O32: the active lanes are the detectors of the model, and the mode decides what they do. -/
theorem breakEvents : Obligations.BreakEvents := by
  intro w s hs c motion
  refine ⟨fun d hd hlast => ?_, fun h => ?_, fun h => ?_, fun h => ?_, exec_encStaleSignal w hs⟩
  · obtain rfl := eq_activeDetectors hd hlast
    have hactive : (∃ i, LaneActive s w i) → activeDetectors (s.record (brkCh w)) ≠ 0 := by
      rintro ⟨i, hi⟩ hzero
      exact (activeDetectors_eq_zero_iff s w).mp hzero i hi
    refine ⟨fun h => ?_, fun h hmotion => ?_, fun h hbrk => ?_, fun hidle => ?_⟩ <;>
      refine (exec_brkSample w hs).trans (congrArg _ ?_)
    · exact takeBrkSample_quiet (.inl ((activeDetectors_eq_zero_iff s w).mpr h))
    · exact takeBrkSample_breaks (hactive h) ((inMotion_iff _).mpr hmotion)
    · exact takeBrkSample_adds (hactive h) hbrk
    · exact takeBrkSample_quiet (.inr hidle)
  · exact (exec_brkStaleSignal w hs).trans (congrArg _ (takeBrkStale_breaks h))
  · exact (exec_brkStaleSignal w hs).trans (congrArg _ (takeBrkStale_adds h))
  · exact (exec_brkStaleSignal w hs).trans (congrArg _ (takeBrkStale_quiet h))

/-! ## Speeds (R30, R31, R40) -/

theorem sampleSpeed_eq (x : Int) : sampleSpeed x = (max 0 (min x 20000)).toNat := rfl

theorem planMet_iff (p : Plan) (v : Nat) : planMet p v = true ↔ ((p.target : Int) - v).natAbs ≤ 50 := by
  rw [planMet, Bool.and_eq_true, decide_eq_true_eq, decide_eq_true_eq, Config.planSlack]
  omega

theorem planAfter_eq (plan : Option Plan) (v : Nat) :
    planAfter plan v = plan.filter fun q => decide (50 < ((q.target : Int) - v).natAbs) := by
  have hmet : ∀ q : Plan, (!planMet q v) = decide (50 < ((q.target : Int) - v).natAbs) := by
    intro q
    rw [Bool.eq_iff_iff, Bool.not_eq_true', decide_eq_true_eq, ← Bool.not_eq_true, planMet_iff]
    omega
  rw [planAfter, funext hmet]

theorem chainSignals_one (w : Fin 4) (old m : Mode) : chainSignals w old [m] = transition w old m := by
  rw [chainSignals, chainSignals, List.append_nil, transitionSignals_eq]

theorem chainSignals_two (w : Fin 4) (old m last : Mode) :
    chainSignals w old [m, last] = transition w old m ++ transition w m last := by
  rw [chainSignals, chainSignals_one, transitionSignals_eq]

theorem exec_encSpeed (w : Fin 4) {s : State} (hs : Released s) : exec (.encSpeed w) s = .next (takeSpeed w s) := by
  rw [exec, execEncSpeed, event_next _ s hs]

/-- The control record once speed `v` is taken in a motion mode. -/
def atSpeed (c : WebControl) (v : Nat) : WebControl :=
  { c with v := v, plan := c.plan.filter fun q => decide (50 < ((q.target : Int) - v).natAbs) }

section
variable {s : State} {w : Fin 4}

theorem takeSpeed_none (h : (s.record (encCh w)).lanes.get 2 = none) : takeSpeed w s = s := by
  simp only [takeSpeed, h]

theorem takeSpeed_still {x : Int} (h : (s.record (encCh w)).lanes.get 2 = some x)
    (hstill : (s.webs.get w).mode = .idle ∨ (s.webs.get w).mode = .brk) :
    takeSpeed w s = { s with webs := s.webs.set w { s.webs.get w with v := sampleSpeed x } } := by
  have hmotion : inMotion (s.mode w) = false := by
    rw [State.mode]
    rcases hstill with h | h <;> rw [h] <;> rfl
  simp only [takeSpeed, h, hmotion, Bool.false_eq_true, if_false, putWeb_quiet]

variable {x : Int} (hlane : (s.record (encCh w)).lanes.get 2 = some x)
include hlane

theorem takeSpeed_moves (hmotion : inMotion (s.webs.get w).mode = true) :
    takeSpeed w s = judgeSpeed w (sampleSpeed x) s := by
  have hmotion : inMotion (s.mode w) = true := hmotion
  simp only [takeSpeed, hlane, if_pos hmotion]

theorem takeSpeed_breaks {path : List Mode}
    (hpath : motionPath (s.webs.get w).params (sampleSpeed x) (s.webs.get w).mode = path)
    (hstandby : (s.webs.get w).mode = .standby) (hsome : path ≠ []) (hstale : (s.record (brkCh w)).fresh = false) :
    takeSpeed w s = broken w (atSpeed (s.webs.get w) (sampleSpeed x)) 16 s := by
  rw [takeSpeed_moves hlane (by rw [hstandby]; rfl)]
  simp only [judgeSpeed, hpath]
  rw [if_pos ⟨hstandby, hsome, hstale⟩, enterBreak_eq, planAfter_eq]
  rfl

theorem takeSpeed_path {path : List Mode} {last : Mode} {cs : List Instr}
    (hmotion : inMotion (s.webs.get w).mode = true)
    (hpath : motionPath (s.webs.get w).params (sampleSpeed x) (s.webs.get w).mode = path)
    (hbrk : (s.webs.get w).mode = .standby → path ≠ [] → (s.record (brkCh w)).fresh = true)
    (hlast : path.getLastD (s.webs.get w).mode = last) (hcs : chainSignals w (s.webs.get w).mode path = cs) :
    takeSpeed w s = sending { s with webs := s.webs.set w { atSpeed (s.webs.get w) (sampleSpeed x) with
      mode := last } } cs := by
  rw [takeSpeed_moves hlane hmotion]
  simp only [judgeSpeed, hpath, hcs, hlast]
  rw [if_neg (fun h => by simp [hbrk h.1 h.2.1] at h), planAfter_eq, putWeb_eq]
  rfl

end

/-- Settles O31: the modes a speed takes the web through, mode by mode. -/
theorem speedTaken : Obligations.SpeedTaken := by
  intro w s hs
  have hexec := exec_encSpeed w hs
  refine ⟨fun hnone => hexec.trans (congrArg _ (takeSpeed_none hnone)), fun x hlane => ?_⟩
  intro v c p c' moved
  have hmoved : ∀ (path : List Mode) (last : Mode), path.length ≤ 2 → inMotion c.mode = true →
      motionPath p v c.mode = path → (c.mode = .standby → path ≠ [] → (s.record (brkCh w)).fresh = true) →
      path.getLastD c.mode = last → moved path last := by
    intro path last hlength hmotion hpath hbrk hlast
    refine hexec.trans (congrArg _ (takeSpeed_path hlane hmotion hpath hbrk hlast ?_))
    match path, hlength with
    | [], _ => rfl
    | [m], _ => exact chainSignals_one w c.mode m
    | [m, m'], _ => exact chainSignals_two w c.mode m m'
  have hstandby : motionPath p v .standby = if p.vMove ≤ v then (if p.vRun ≤ v then [.crawl, .run] else [.crawl]) else [] :=
    rfl
  have hcrawl : motionPath p v .crawl = if p.vRun ≤ v then [.run] else if v < p.vMove then [.standby] else [] := rfl
  have hrun : motionPath p v .run =
      if v + p.hysteresis < p.vRun then (if v < p.vMove then [.crawl, .standby] else [.crawl]) else [] := rfl
  refine ⟨fun hstill => hexec.trans (congrArg _ (takeSpeed_still hlane hstill)), fun hmode h1 => ?_,
    fun hmode h1 hstale => ?_, fun hmode h1 hfresh h2 => ?_, fun hmode h1 hfresh h2 => ?_, fun hmode h1 => ?_,
    fun hmode h1 h2 => ?_, fun hmode h1 h2 => ?_, fun hmode h1 => ?_, fun hmode h1 h2 => ?_, fun hmode h1 h2 => ?_⟩
  · refine hmoved [] .standby (by decide) (by rw [hmode]; rfl) ?_ (fun _ h => absurd rfl h) hmode
    rw [hmode, hstandby, if_neg (by omega)]
  · have hsome : motionPath p v c.mode ≠ [] := by
      rw [hmode, hstandby, if_pos h1]
      split_ifs <;> simp
    exact hexec.trans (congrArg _ (takeSpeed_breaks hlane rfl hmode hsome hstale))
  · refine hmoved [.crawl] .crawl (by decide) (by rw [hmode]; rfl) ?_ (fun _ _ => hfresh) rfl
    rw [hmode, hstandby, if_pos h1, if_neg (by omega)]
  · refine hmoved [.crawl, .run] .run (by decide) (by rw [hmode]; rfl) ?_ (fun _ _ => hfresh) rfl
    rw [hmode, hstandby, if_pos h1, if_pos h2]
  · refine hmoved [.run] .run (by decide) (by rw [hmode]; rfl) ?_ (by simp [hmode]) rfl
    rw [hmode, hcrawl, if_pos h1]
  · refine hmoved [.standby] .standby (by decide) (by rw [hmode]; rfl) ?_ (by simp [hmode]) rfl
    rw [hmode, hcrawl, if_neg (by omega), if_pos h2]
  · refine hmoved [] .crawl (by decide) (by rw [hmode]; rfl) ?_ (by simp [hmode]) hmode
    rw [hmode, hcrawl, if_neg (by omega), if_neg (by omega)]
  · refine hmoved [] .run (by decide) (by rw [hmode]; rfl) ?_ (by simp [hmode]) hmode
    rw [hmode, hrun, if_neg (by omega)]
  · refine hmoved [.crawl] .crawl (by decide) (by rw [hmode]; rfl) ?_ (by simp [hmode]) rfl
    rw [hmode, hrun, if_pos h1, if_neg (by omega)]
  · refine hmoved [.crawl, .standby] .standby (by decide) (by rw [hmode]; rfl) ?_ (by simp [hmode]) rfl
    rw [hmode, hrun, if_pos h1, if_pos h2]

end Sys2Proof.WebModeProofs

/-! Web Mode Control: the requests (R32, R36, R37, R39, R41). -/
namespace Sys2Proof.WebRequestProofs

open Sys2Proof.Machine Sys2Proof.Statements Sys2Proof.Laws Sys2Proof.WriteProofs Sys2Proof.HousingProofs
open Sys2Proof.ProfileProofs Sys2Proof.SubscriptionProofs Sys2Proof.DecoderProofs
open Sys2Proof.AdvanceProofs Sys2Proof.MarkProofs Sys2Proof.WebModeProofs

/-! ## CLEAR_BREAK and WEB_DISABLE (R36, R37) -/

theorem passed_record (s : State) (ch : Fin 32) : (passed s).record ch = s.record ch := by
  rw [State.record, State.record, passed_inputs]

theorem breakReleases_eq (w : Fin 4) : breakReleases w = (reachedBy w).map fun ch => .holderRelease ch (.web w) := by
  rw [breakReleases, breakChannels_eq]

section
variable (w : Fin 4) (extra : List Byte) (s : State)

theorem clearBreakWeb_passed : clearBreakWeb w extra (passed s) =
    if (s.webs.get w).mode = .brk ∧ (s.webs.get w).v = 0 ∧ activeDetectors (s.record (brkCh w)) = 0 then
      done (sending { passed s with webs := s.webs.set w { s.webs.get w with mode := .standby, causes := 0 } }
        (transition w .brk .standby ++ [.trackingStart w] ++ (reachedBy w).map fun ch => .holderRelease ch (.web w)))
    else refuse .state (passed s) := by
  simp only [clearBreakWeb, passed_webs, passed_record, putWeb_passed, transitionSignals_eq, breakReleases_eq]

theorem disableWeb_passed : disableWeb w extra (passed s) =
    if (s.webs.get w).mode ≠ .idle ∧ (s.webs.get w).v = 0 then
      done (sending { passed s with webs := s.webs.set w { s.webs.get w with mode := .idle, plan := none, causes := 0 } }
        (transition w (s.webs.get w).mode .idle ++ [.queueEmptying w] ++
          (if (s.webs.get w).mode = .brk then (reachedBy w).map fun ch => .holderRelease ch (.web w) else []) ++
          [.activitySignal w] ++ (if s.mode (otherWeb w) = .idle then [.housingDarkSignal (housingOf w)] else [])))
    else refuse .state (passed s) := by
  simp only [disableWeb, passed_webs, passed_mode, putWeb_passed, disableSignals, transitionSignals_eq, breakReleases_eq,
    decide_eq_true_eq]

end

/-- Settles O33: each request is accepted on its one condition. -/
theorem webClearedAndDisabled : Obligations.WebClearedAndDisabled := by
  intro w tag extra s hs x clear disable released
  have hclear := clearBreakWeb_passed w extra s
  have hdisable := disableWeb_passed w extra s
  refine ⟨fun hbrk hrest hquiet => ?_, fun h => ?_, fun hmode hrest => ?_, fun h => ?_⟩
  · exact answered_of_index (mk := Instr.clearBreak) (fun _ _ => rfl) tag w (by decide) extra hs
      (hclear.trans (if_pos ⟨hbrk, hrest, (activeDetectors_eq_zero_iff s w).mpr hquiet⟩)) (passed_node s)
  · refine answered_of_index (mk := Instr.clearBreak) (fun _ _ => rfl) tag w (by decide) extra hs
      (hclear.trans (if_neg ?_)) (passed_node s)
    rintro ⟨hbrk, hrest, hquiet⟩
    rcases h with h | h | ⟨i, h⟩
    · exact h hbrk
    · exact h hrest
    · exact (activeDetectors_eq_zero_iff s w).mp hquiet i h
  · exact answered_of_index (mk := Instr.webDisable) (fun _ _ => rfl) tag w (by decide) extra hs
      (hdisable.trans (if_pos ⟨hmode, hrest⟩)) (passed_node s)
  · refine answered_of_index (mk := Instr.webDisable) (fun _ _ => rfl) tag w (by decide) extra hs
      (hdisable.trans (if_neg ?_)) (passed_node s)
    rintro ⟨hmode, hrest⟩
    exact h.elim hmode fun h => h hrest

/-! ## SPEED_PLAN and the demand speed (R39, R41) -/

theorem planAfter_some (p : Plan) (v : Nat) :
    planAfter (some p) v = if ((p.target : Int) - v).natAbs ≤ 50 then none else some p := by
  rw [planAfter_eq, Option.filter_some]
  by_cases h : ((p.target : Int) - v).natAbs ≤ 50
  · simp [h, Nat.not_lt.mpr h]
  · simp [h, Nat.lt_of_not_le h]

theorem planWeb_still (w : Fin 4) (args : List Byte) {s : State} (h : inMotion (s.webs.get w).mode = false) :
    planWeb w args (passed s) = refuse (if args.length < 4 then .range else .state) (passed s) := by
  simp only [planWeb, passed_webs, h, Bool.false_eq_true, if_false]
  split_ifs <;> rfl

theorem planWeb_taken (w : Fin 4) (th tl rh rl : Byte) (extra : List Byte) {s : State}
    (h : inMotion (s.webs.get w).mode = true) :
    let target := th.toNat * 256 + tl.toNat
    let rate := rh.toNat * 256 + rl.toNat
    let target' := min target 20000
    let rate' := max 10 (min rate 2000)
    planWeb w (th :: tl :: rh :: rl :: extra) (passed s) =
      ⟨.done, decide (target' ≠ target ∨ rate' ≠ rate), [], { passed s with webs := s.webs.set w { s.webs.get w with
        plan := if ((target' : Int) - (s.webs.get w).v).natAbs ≤ 50 then none else some ⟨target', rate'⟩ } }⟩ := by
  intro target rate target' rate'
  have htarget : wordAt (th :: tl :: rh :: rl :: extra) 0 = target := rfl
  have hrate : wordAt (th :: tl :: rh :: rl :: extra) 2 = rate := rfl
  have hclamp : clampNat target 0 Config.speedMax = target' := Nat.zero_max _
  have hclampRate : clampNat rate 10 2000 = rate' := rfl
  have hlength : ¬ (th :: tl :: rh :: rl :: extra).length < 4 := by simp
  simp only [planWeb, passed_webs, if_neg hlength, if_pos h, htarget, hrate, clampArg, hclamp, hclampRate, planAfter_some,
    putWeb_quiet, Bool.decide_or]

/-- Settles O34: the plan by the mode, and the demand speed by the plan. -/
theorem speedPlanAndDemand : Obligations.SpeedPlanAndDemand := by
  refine ⟨fun w tag th tl rh rl extra s hs => ⟨fun hstill => ?_, fun hmotion => ?_⟩, fun tag short s hs hshort => ?_,
    fun w s => ?_⟩
  · have hmotion : inMotion (s.webs.get w).mode = false := by rcases hstill with h | h <;> rw [h] <;> rfl
    exact answered_of_index (mk := Instr.speedPlan) (fun _ _ => rfl) tag w (by decide) _ hs
      ((planWeb_still w _ hmotion).trans (by rw [if_neg (by simp)]; rfl)) (passed_node s)
  · exact answered_of_index (mk := Instr.speedPlan) (fun _ _ => rfl) tag w (by decide) _ hs
      (planWeb_taken w th tl rh rl extra ((inMotion_iff _).mpr hmotion)) (passed_node s)
  · refine refused_of_owner (rq := ⟨tag, short⟩) (c := .speedPlan ⟨tag, short⟩) rfl hs ?_
    rcases short with _ | ⟨index, args⟩
    · rfl
    · have hargs : args.length < 4 := Nat.lt_of_succ_lt_succ hshort
      by_cases hindex : index.toNat < 4
      · rw [indexed_cons _ _ _ _ _ hindex, planWeb, if_pos hargs]
      · exact indexed_out 4 planWeb index args _ (by omega)
  · intro x reach motion
    refine ⟨fun hstill => ?_, fun hmotion hplan => ?_, fun p hmotion hplan hbelow => ?_, fun p hmotion hplan habove => ?_⟩
    · have hmotion : inMotion x.mode = false := by simpa using mt (inMotion_iff _).mp hstill
      simp only [State.demandSpeed, x, hmotion, Bool.false_eq_true, if_false]
    · simp only [State.demandSpeed]
      rw [if_pos ((inMotion_iff _).mpr hmotion), hplan]
    · simp only [State.demandSpeed]
      rw [if_pos ((inMotion_iff _).mpr hmotion), hplan]
      exact if_pos hbelow
    · have hspeed : s.demandSpeed w = max p.target (x.v - p.rate * reach) := by
        simp only [State.demandSpeed]
        rw [if_pos ((inMotion_iff _).mpr hmotion), hplan]
        exact if_neg (Nat.not_lt.mpr habove)
      rw [hspeed]
      push_cast
      omega

end Sys2Proof.WebRequestProofs

/-! WEB_ENABLE (R32) with the lighting of a dark housing (R68). -/
namespace Sys2Proof.EnableProofs

open Sys2Proof.Machine Sys2Proof.Statements Sys2Proof.Laws Sys2Proof.WriteProofs Sys2Proof.HousingProofs
open Sys2Proof.ProfileProofs Sys2Proof.SubscriptionProofs Sys2Proof.DecoderProofs
open Sys2Proof.AdvanceProofs Sys2Proof.MarkProofs Sys2Proof.WebModeProofs Sys2Proof.WebRequestProofs

/-- The web parameters as they stand are in their ranges (R32). -/
def ParamsFit (p : WebParams) : Prop :=
  200 ≤ p.width ∧ p.width ≤ 2000 ∧ 30 ≤ p.grammage ∧ p.grammage ≤ 150 ∧ 10 ≤ p.vMove ∧ p.vMove ≤ 500 ∧
    500 ≤ p.vRun ∧ p.vRun ≤ 20000 ∧ p.hysteresis ≤ 2000 ∧ 100 ≤ p.maxJump ∧ p.maxJump ≤ 10000 ∧
    p.washLoad ≤ 2000 ∧ p.washLength ≤ 20000 ∧ p.chillMin ≤ 10000

theorem paramsFit_iff (p : WebParams) : carriedOk webParamWordOk 0 p.words = true ↔ ParamsFit p := by
  have h1 := trimCode_le p.trimStandby
  have h2 := trimCode_le p.trimCrawl
  have h3 := trimCode_le p.trimRun
  simp [WebParams.words, carriedOk, webParamWordOk, within, ParamsFit, h1, h2, h3, and_assoc]

/-- The seven checks before the lighting (R32). -/
def Ready (s : State) (w : Fin 4) : Prop :=
  let t := s.track w
  let m := s.housing (housingOf w)
  s.mode w = .idle ∧ t.stationsSet = true ∧ (t.bankA.state ≠ .invalid ∨ t.bankB.state ≠ .invalid) ∧
    (s.inputs.get (encCh w)).sub.enabled = true ∧ (s.inputs.get (brkCh w)).sub.enabled = true ∧
    (∀ i, ¬ LaneActive s w i) ∧ ParamsFit (s.params w) ∧ ¬ (m.lelClear = 0 ∧ m.lelLimit = 0 ∧ m.lelTrip = 0)

theorem enableBlocked_iff (w : Fin 4) (s : State) : enableBlocked w s = true ↔ ¬ Ready s w := by
  have hdetectors := activeDetectors_eq_zero_iff s w
  simp only [enableBlocked, Ready, Bool.or_eq_true, Bool.not_eq_true', decide_eq_true_eq, Bool.and_eq_true, ← paramsFit_iff,
    ← hdetectors, Bool.and_eq_false_iff]
  grind

/-! ## Lighting (R68) -/

theorem dark_iff (w : Fin 4) (s : State) :
    s.dark (housingOf w) = true ↔ s.mode w = .idle ∧ s.mode (otherWeb w) = .idle := by
  rw [State.dark, Bool.and_eq_true, decide_eq_true_eq, decide_eq_true_eq]
  fin_cases w
  · exact Iff.rfl
  · exact and_comm
  · exact Iff.rfl
  · exact and_comm

/-- The housing's profiles once a housing-dark signal not yet taken is done (R68). -/
def darkened (p : ProfileHousing) : ProfileHousing := if p.inUse then p.released else p

theorem inUse_iff (p : ProfileHousing) : p.inUse = true ↔ ∃ i ∈ p.indicators, i ≠ none := by
  simp [ProfileHousing.inUse, Option.isSome_iff_ne_none]

section
variable {p : ProfileHousing}

theorem lightHousing_p (h : (darkened p).bankP.state = .valid) :
    lightHousing p = some ((darkened p).pointAll (some .p)).settled := by
  simp only [lightHousing]
  exact if_pos h

theorem lightHousing_q (hp : (darkened p).bankP.state ≠ .valid) (hq : (darkened p).bankQ.state = .valid) :
    lightHousing p = some ((darkened p).pointAll (some .q)).settled := by
  simp only [lightHousing]
  exact (if_neg hp).trans (if_pos hq)

theorem lightHousing_none (hp : (darkened p).bankP.state ≠ .valid) (hq : (darkened p).bankQ.state ≠ .valid) :
    lightHousing p = none := by
  simp only [lightHousing]
  exact (if_neg hp).trans (if_neg hq)

end

/-! ## The request -/

/-- The web in STANDBY, over a state whose webs are those of `s`. -/
def standby (w : Fin 4) (s x : State) : State :=
  sending { x with webs := s.webs.set w { s.webs.get w with mode := .standby } }
    (transition w .idle .standby ++ [.trackingStart w, .activitySignal w])

theorem enterStandby_eq (w : Fin 4) {s x : State} (h : x.webs = s.webs) : enterStandby w x = standby w s x := by
  rw [enterStandby, putWeb_eq, h]
  rfl

theorem putProfiles_passed (s : State) (h : Fin 2) (p : ProfileHousing) (cs : List Instr) :
    (passed s).putProfiles h p cs = sending { passed s with profiles := s.profiles.set h p } cs := by
  rw [State.putProfiles, passed_profiles]
  rfl

section
variable (w : Fin 4) (extra : List Byte) (s : State)

theorem passed_ready : Ready (passed s) w ↔ Ready s w := by
  simp only [Ready, LaneActive, passed_track, passed_housing, passed_mode, passed_inputs, passed_record, passed_params]

theorem enableWeb_blocked (h : ¬ Ready s w) : enableWeb w extra (passed s) = refuse .state (passed s) := by
  have hblocked := (enableBlocked_iff w (passed s)).mpr (mt (passed_ready w s).mp h)
  simp only [enableWeb, if_pos hblocked]

/-- The web in STANDBY, its housing's profiles those given. -/
def litWith (p : ProfileHousing) : State :=
  standby w s (sending { passed s with profiles := s.profiles.set (housingOf w) p }
    (lightNotices (housingOf w) (s.profiles.get (housingOf w))))

theorem enableWeb_ready (h : Ready s w) : enableWeb w extra (passed s) =
    if s.dark (housingOf w) then
      match lightHousing (s.profiles.get (housingOf w)) with
      | none => refuse .state (passed s)
      | some p => done (litWith w s p)
    else done (standby w s (passed s)) := by
  have hblocked : ¬ enableBlocked w (passed s) = true := by
    rw [enableBlocked_iff, not_not, passed_ready]
    exact h
  have hdark : (passed s).dark (housingOf w) = s.dark (housingOf w) := by simp only [State.dark, passed_mode]
  simp only [enableWeb, if_neg hblocked, hdark, passed_profiles, putProfiles_passed]
  rw [enterStandby_eq w (passed_webs s)]
  refine if_congr Iff.rfl ?_ rfl
  rcases lightHousing (s.profiles.get (housingOf w)) with _ | p
  · rfl
  · have hwebs : (sending { passed s with profiles := s.profiles.set (housingOf w) p }
        (lightNotices (housingOf w) (s.profiles.get (housingOf w)))).webs = s.webs := passed_webs s
    exact congrArg done (enterStandby_eq w hwebs)

end

/-- Settles O30: the checks, then the lighting of a dark housing on the first bank that is VALID. -/
theorem webEnabled : Obligations.WebEnabled := by
  intro w tag extra s hs c h t p m ready standby'
  have hanswer : ∀ {st : Status} {x : State}, enableWeb w extra (passed s) = ⟨st, false, [], x⟩ →
      x.ring.node = s.ring.node → Answered c s tag 4 st false [] x := fun howner hnode =>
    answered_of_index (mk := Instr.webEnable) (fun _ _ => rfl) tag w (by decide) extra hs howner hnode
  refine ⟨fun hblocked => hanswer (enableWeb_blocked w extra s hblocked) (passed_node s), fun hready hother => ?_,
    fun hready hother => ?_⟩
  · refine hanswer ((enableWeb_ready w extra s hready).trans (if_neg ?_)) (passed_node s)
    rw [dark_iff]
    exact fun hdark => hother hdark.2
  · intro q q0 freed lit
    have hlit : enableWeb w extra (passed s) = _ :=
      (enableWeb_ready w extra s hready).trans (if_pos ((dark_iff w s).mpr ⟨hready.1, hother⟩))
    have hq0 : q0 = darkened q := by
      rw [darkened, ProfileHousing.released]
      exact if_congr (inUse_iff q).symm rfl rfl
    have hfreed : freed = lightNotices h q := if_congr (inUse_iff q).symm rfl rfl
    have hstate : ∀ b, lit b = litWith w s ((darkened q).pointAll (some b)).settled := fun b => by
      rw [← hq0, litWith, ← hfreed]
      rfl
    refine ⟨fun hp => ?_, fun hp hq => ?_, fun hp hq => ?_⟩ <;> rw [hq0] at hp
    · rw [lightHousing_p hp] at hlit
      exact hstate .p ▸ hanswer hlit (passed_node s)
    · rw [hq0] at hq
      rw [lightHousing_q hp hq] at hlit
      exact hstate .q ▸ hanswer hlit (passed_node s)
    · rw [hq0] at hq
      rw [lightHousing_none hp hq] at hlit
      exact hanswer hlit (passed_node s)

end Sys2Proof.EnableProofs

/-! Sample Intake (R49 to R58). -/
namespace Sys2Proof.IntakeProofs

open Sys2Proof.Machine Sys2Proof.Statements Sys2Proof.Laws Sys2Proof.SubscriptionProofs

/-! ## Samples (R49 to R53) -/

theorem lanesUsed_eq (ch : Fin 32) : (inRole ch).lanes = lanesUsed ch := by
  revert ch
  decide

theorem selectLane_eq (x : Sample) (p : Nat) : selectLane x p =
    if p < min x.laneCount 8 ∧ x.validity.getLsbD p = true then some (x.lanes.items.getD p 0) else none := by
  rw [selectLane]
  by_cases hp : p < 8
  · have hitem : x.lanes.get ⟨p, hp⟩ = x.lanes.items.getD p 0 := by
      rw [Tab.get, List.getD_eq_getElem _ _ (by rw [x.lanes.size]; exact hp)]
      rfl
    rw [dif_pos hp, hitem]
  · rw [dif_neg hp, if_neg (by omega)]

/-- The lanes a sample gives a channel are those selected, offset and scaled. -/
theorem intakeLanes_eq {ch : Fin 32} {sub : Subscription} {x : Sample} {lanes : Tab (Option Int) 8}
    (h : ∀ i : Fin 8, lanes.get i =
      if i.val < lanesUsed ch ∧ sub.laneMap.get i < min x.laneCount 8 ∧ x.validity.getLsbD (sub.laneMap.get i) = true then
        some (scaleLane sub.scale (offsetLane sub.offset (x.lanes.items.getD (sub.laneMap.get i) 0)))
      else none) : intakeLanes ch sub x = lanes := by
  refine tab_get_ext fun i => ?_
  rw [h i, intakeLanes, tab_get_ofFn, intakeLane, lanesUsed_eq, selectLane_eq]
  by_cases hi : i.val < lanesUsed ch
  · by_cases hp : sub.laneMap.get i < min x.laneCount 8 ∧ x.validity.getLsbD (sub.laneMap.get i) = true
    · rw [if_pos hi, if_pos hp, if_pos ⟨hi, hp⟩]
      rfl
    · rw [if_pos hi, if_neg hp, if_neg (fun h => hp h.2)]
      rfl
  · rw [if_neg hi, if_neg (fun h => hi h.1)]

theorem mem_items_iff {α : Type} {n : Nat} (t : Tab α n) (x : α) : x ∈ t.items ↔ ∃ i, t.get i = x := by
  rw [List.mem_iff_getElem]
  exact ⟨fun ⟨i, hi, hx⟩ => ⟨⟨i, t.size ▸ hi⟩, hx⟩, fun ⟨i, hx⟩ => ⟨i.val, t.size.symm ▸ i.isLt, hx⟩⟩

theorem isArrival_iff (lanes : Tab (Option Int) 8) : isArrival lanes = true ↔ ∃ i, lanes.get i ≠ none := by
  rw [isArrival, List.any_eq_true]
  refine ⟨fun ⟨x, hmem, hsome⟩ => ?_, fun ⟨i, hi⟩ => ⟨lanes.get i, (mem_items_iff _ _).mpr ⟨i, rfl⟩, Option.isSome_iff_ne_none.mpr hi⟩⟩
  obtain ⟨i, rfl⟩ := (mem_items_iff lanes x).mp hmem
  exact ⟨i, Option.isSome_iff_ne_none.mp hsome⟩

theorem matchesSample_iff (sub : Subscription) (x : Sample) :
    sub.matchesSample x = true ↔ sub.enabled = true ∧ sub.node = x.node.toNat ∧ sub.setId = x.setId.toNat := by
  simp [Subscription.matchesSample, and_assoc]

theorem exec_intakeSample (ch : Fin 32) (x : Sample) {s : State} (hs : Released s) :
    exec (.intakeSample ch x) s = .next (intakeSample ch x s) := by
  rw [exec, execIntakeSample, event_next _ s hs]

theorem exec_ageTimerExpiry (ch : Fin 32) {s : State} (hs : Released s) : exec (.ageTimerExpiry ch) s =
    .next (if (s.inputs.get ch).ageExpired s.now then makeStale ch s else s) := by
  rw [exec, execAgeTimerExpiry, event_next _ s hs]

theorem ageExpired_eq_true_iff (s : State) (ch : Fin 32) : (s.inputs.get ch).ageExpired s.now = true ↔
    (s.inputs.get ch).record.ageRunning = true ∧
      (s.inputs.get ch).sub.maxAge ≤ (s.now - (s.inputs.get ch).record.arrival).toNat :=
  MachineProofs.ageExpired_iff s ch

theorem makeStale_reported (s : State) (ch : Fin 32) {mask : BitVec 8}
    (hmask : MasksPresent mask (s.inputs.get ch).record.lanes) : makeStale ch s =
      sending { s with inputs := s.inputs.set ch { s.inputs.get ch with record := { (s.inputs.get ch).record with
          fresh := false, ageRunning := false } } }
        (.noticeRaised (.inputStale ch mask) :: staleSignals (inRole ch)) := by
  rw [eq_presentMask hmask]
  rfl

/-- Settles O35: a named sample with a lane present arrives; a timer that has run its age makes the record stale. -/
theorem samplesTakenAndAged : Obligations.SamplesTakenAndAged := by
  intro ch s hs c
  refine ⟨fun x lanes hlanes => ?_, fun mask hrunning hage hmask => ?_, fun h => ?_⟩
  · intro named arrival
    have hintake : intakeLanes ch (s.inputs.get ch).sub x = lanes := intakeLanes_eq hlanes
    have hexec := exec_intakeSample ch x hs
    have hcond : ((s.inputs.get ch).sub.matchesSample x && isArrival lanes) = true ↔ named ∧ arrival := by
      rw [Bool.and_eq_true, matchesSample_iff, isArrival_iff]
    refine ⟨fun h => hexec.trans (congrArg _ ?_), fun mask hnamed harrival hmask => hexec.trans (congrArg _ ?_)⟩
    · have hnot : ¬ ((s.inputs.get ch).sub.matchesSample x && isArrival lanes) = true :=
        fun hboth => h.elim (fun hn => hn (hcond.mp hboth).1) (fun ha => ha (hcond.mp hboth).2)
      simp only [intakeSample, hintake]
      exact if_neg hnot
    · simp only [intakeSample, hintake]
      rw [if_pos (hcond.mpr ⟨hnamed, harrival⟩), ← eq_presentMask hmask]
      rfl
  · exact (exec_ageTimerExpiry ch hs).trans (congrArg _
      ((if_pos ((ageExpired_eq_true_iff s ch).mpr ⟨hrunning, hage⟩)).trans (makeStale_reported s ch hmask)))
  · refine (exec_ageTimerExpiry ch hs).trans (congrArg _ (if_neg ?_))
    rw [ageExpired_eq_true_iff]
    rintro ⟨hrunning, hage⟩
    rcases h with h | h
    · exact absurd (hrunning.symm.trans h) (by decide)
    · exact absurd hage (Nat.not_le.mpr h)

/-! ## The lane operations (R52, R57, R58) -/

theorem scaleLane_up (k : Nat) (x : Int) : scaleLane k x = max (-32768) (min (x * 2 ^ k) 32767) := by
  rw [scaleLane, if_pos (Int.natCast_nonneg k), Int.toNat_natCast, saturate16, clampInt]
  push_cast
  rfl

theorem scaleLane_down {k : Nat} (hk : 1 ≤ k) (x : Int) : scaleLane (-k) x = x / 2 ^ k := by
  rw [scaleLane, if_neg (by omega), shiftRight, Int.neg_neg, Int.toNat_natCast]
  push_cast
  rfl

theorem shiftLane_eq {x : Int} (k : Nat) (hlo : -32768 ≤ x) (hhi : x ≤ 32767) : shiftLane x k = x / 2 ^ min k 15 := by
  rw [shiftLane]
  split_ifs with hk hneg
  · rw [Nat.min_eq_right (by omega)]
    omega
  · rw [Nat.min_eq_right (by omega)]
    omega
  · rw [Nat.min_eq_left (by omega), shiftRight]
    push_cast
    rfl

theorem mem_presentLanes (lanes : Tab (Option Int) 8) (x : Int) : x ∈ presentLanes lanes ↔ ∃ i, lanes.get i = some x := by
  rw [presentLanes, List.mem_filterMap, ← mem_items_iff]
  simp

/-- A list whose members are all at least `k` has at least `k` times their number for its sum. -/
theorem le_sum_of_forall {xs : List Int} {k : Int} (h : ∀ x ∈ xs, k ≤ x) : k * xs.length ≤ xs.sum := by
  induction xs with
  | nil => simp
  | cons x xs ih =>
    obtain ⟨hx, hxs⟩ := List.forall_mem_cons.mp h
    have := ih hxs
    rw [List.length_cons, List.sum_cons]
    push_cast
    linarith

theorem sum_le_of_forall {xs : List Int} {k : Int} (h : ∀ x ∈ xs, x ≤ k) : xs.sum ≤ k * xs.length := by
  induction xs with
  | nil => simp
  | cons x xs ih =>
    obtain ⟨hx, hxs⟩ := List.forall_mem_cons.mp h
    have := ih hxs
    rw [List.length_cons, List.sum_cons]
    push_cast
    linarith

/-- The floored mean lies between two members. -/
theorem mean_between {xs : List Int} (h : xs ≠ []) :
    (∃ x ∈ xs, x ≤ xs.sum / xs.length) ∧ ∃ x ∈ xs, xs.sum / xs.length ≤ x := by
  have hpos : (0 : Int) < xs.length := by
    have := List.length_pos_iff.mpr h
    omega
  constructor
  · by_contra hnone
    push Not at hnone
    have habove := le_sum_of_forall (k := xs.sum / xs.length + 1) fun x hx => hnone x hx
    have := (Int.le_ediv_iff_mul_le hpos).mpr habove
    omega
  · by_contra hnone
    push Not at hnone
    have hbelow := sum_le_of_forall (k := xs.sum / xs.length - 1) fun x hx => Int.le_sub_one_of_lt (hnone x hx)
    have := Int.ediv_mul_le xs.sum (ne_of_gt hpos)
    nlinarith

/-- Settles O36: each operation by its formula, and the tables of the roles. -/
theorem laneOperationsAndConsumers : Obligations.LaneOperationsAndConsumers := by
  refine ⟨fun _ _ => rfl, fun x => ⟨?_, fun k _ hk => ⟨scaleLane_up k x, scaleLane_down hk x⟩⟩, fun _ _ => rfl,
    fun x k hlo hhi => shiftLane_eq k hlo hhi, fun r => ⟨rfl, mem_presentLanes r.lanes⟩, fun xs hxs => ?_, rfl,
    masksPresent_presentMask, lanesUsed_eq, fun h z => ⟨rfl, rfl, rfl⟩, fun w => ⟨rfl, rfl, rfl, rfl, rfl⟩, ?_, ?_⟩
  · simpa using scaleLane_up 0 x
  · obtain ⟨hlow, hhigh⟩ := mean_between hxs
    exact ⟨xs.sum / xs.length, by rw [meanOf, if_neg hxs], rfl, hlow, hhigh⟩
  · decide
  · decide

end Sys2Proof.IntakeProofs

/-! The bank indicators of a housing: darkening and the signals of a job change (R69, R71 to R73). -/
namespace Sys2Proof.IndicatorProofs

open Sys2Proof.Machine Sys2Proof.Statements Sys2Proof.Laws Sys2Proof.EnableProofs

section
variable (h : Fin 2) {s : State} (hs : Released s)
include hs

theorem exec_housingDarkSignal : exec (.housingDarkSignal h) s = .next
    (if s.dark h && (s.profiles.get h).inUse then
      s.putProfiles h (s.profiles.get h).released (darkNotices h (s.profiles.get h)) else s) := by
  rw [exec, execHousingDarkSignal, event_next _ s hs]

theorem exec_zoneSwitchSignal (z : Fin 4) (inc : Bank) (seq : BitVec 16) : exec (.zoneSwitchSignal h z inc seq) s = .next
    (if (s.profiles.get h).switching inc then
      s.putProfiles h (switchZone z inc (s.profiles.get h))
        (switchNotice inc (.marker seq) (.zone h z) ((s.profiles.get h).zones.get z)) else s) := by
  rw [exec, execZoneSwitchSignal, event_next _ s hs]

theorem exec_damperSwitchSignal (inc : Bank) (seq : BitVec 16) : exec (.damperSwitchSignal h inc seq) s = .next
    (let p := s.profiles.get h
    let r := freeOutgoing h inc { p with dampers := switchTab inc p.dampers }
    if p.switching inc then
      s.putProfiles h r.1
        (switchNotice inc (.marker seq) (.damper (firstWeb h)) (p.dampers.get 0) ++
          switchNotice inc (.marker seq) (.damper (secondWeb h)) (p.dampers.get 1) ++ r.2) else s) := by
  rw [exec, execDamperSwitchSignal, event_next _ s hs]

theorem exec_chillSwitchSignal (inc : Bank) (seq : BitVec 16) : exec (.chillSwitchSignal h inc seq) s = .next
    (let p := s.profiles.get h
    let r := freeOutgoing h inc { p with chills := switchTab inc p.chills }
    if p.switching inc then
      s.putProfiles h r.1
        (switchNotice inc (.marker seq) (.chill (firstWeb h)) (p.chills.get 0) ++
          switchNotice inc (.marker seq) (.chill (secondWeb h)) (p.chills.get 1) ++ r.2) else s) := by
  rw [exec, execChillSwitchSignal, event_next _ s hs]

theorem exec_completionSignal (inc : Bank) : exec (.completionSignal h inc) s = .next
    (let p := s.profiles.get h
    let r := freeOutgoing h inc (switchAll inc p)
    if p.switching inc then s.putProfiles h r.1 (completionNotices h inc p ++ r.2) else s) := by
  rw [exec, execCompletionSignal, event_next _ s hs]

end

/-! ## The bank left behind (R72) -/

theorem refersTo_iff (p : ProfileHousing) (bank : Bank) : p.refersTo bank = true ↔ ∃ i ∈ p.indicators, i = some bank := by
  simp [ProfileHousing.refersTo]

/-- The profiles and notices after indicators have moved to `inc`: the outgoing bank stays while one refers to it. -/
theorem putProfiles_freeOutgoing (s : State) (h : Fin 2) (inc : Bank) (q : ProfileHousing) (cs : List Instr) :
    s.putProfiles h (freeOutgoing h inc q).1 (cs ++ (freeOutgoing h inc q).2) =
      if ∃ i ∈ q.indicators, i = some (otherBank inc) then
        sending { s with profiles := s.profiles.set h q.settled } cs
      else sending { s with profiles := s.profiles.set h { q with switch := none }.settled }
        (cs ++ freeNotice h q (otherBank inc) .switch) := by
  rw [freeOutgoing]
  by_cases hrefers : ∃ i ∈ q.indicators, i = some (otherBank inc)
  · rw [if_pos ((refersTo_iff _ _).mpr hrefers), if_pos hrefers, List.append_nil]
    rfl
  · rw [if_neg (mt (refersTo_iff _ _).mp hrefers), if_neg hrefers]
    rfl

theorem otherBank_ne (inc : Bank) : inc ≠ otherBank inc := by cases inc <;> decide

theorem switchOne_ne (inc : Bank) (i : Option Bank) : switchOne inc i ≠ some (otherBank inc) := by
  rw [switchOne]
  split_ifs with hmoves
  · simpa using otherBank_ne inc
  · exact hmoves

/-- Once all indicators have moved none refers to the outgoing bank. -/
theorem switchAll_refers (inc : Bank) (p : ProfileHousing) :
    ¬ ∃ i ∈ (switchAll inc p).indicators, i = some (otherBank inc) := by
  rintro ⟨i, hmem, hi⟩
  simp only [ProfileHousing.indicators, switchAll, switchTab, List.mem_append, IntakeProofs.mem_items_iff,
    tab_get_ofFn] at hmem
  rcases hmem with (⟨k, hk⟩ | ⟨k, hk⟩) | ⟨k, hk⟩ <;> exact switchOne_ne inc _ (hk.trans hi)

theorem switching_iff (p : ProfileHousing) (inc : Bank) : p.switching inc = true ↔ p.switch = some inc :=
  decide_eq_true_iff

theorem darkAndUsed_iff (s : State) (h : Fin 2) : (s.dark h && (s.profiles.get h).inUse) = true ↔
    s.mode (firstWeb h) = .idle ∧ s.mode (secondWeb h) = .idle ∧ ∃ i ∈ (s.profiles.get h).indicators, i ≠ none := by
  rw [Bool.and_eq_true, inUse_iff, State.dark, Bool.and_eq_true, decide_eq_true_eq, decide_eq_true_eq, and_assoc]

/-- Settles O37: the darkening, the signals while no switch is under way, and those of a switch. -/
theorem indicatorsSwitched : Obligations.IndicatorsSwitched := by
  intro h s hs p put freed
  refine ⟨fun hdark => (exec_housingDarkSignal h hs).trans (congrArg _ (if_pos ((darkAndUsed_iff s h).mpr hdark))),
    fun hlit => (exec_housingDarkSignal h hs).trans (congrArg _ (if_neg (mt (darkAndUsed_iff s h).mp hlit))),
    fun inc seq => ?_⟩
  intro out move told finish signals dampers chills
  refine ⟨fun hother c hc => ?_, fun hswitch => ?_⟩
  · have hnot : ¬ (s.profiles.get h).switching inc = true := mt (switching_iff _ _).mp hother
    have hquiet : (∀ z, Runs (.zoneSwitchSignal h z inc seq) s s) ∧ Runs (.damperSwitchSignal h inc seq) s s ∧
        Runs (.chillSwitchSignal h inc seq) s s ∧ Runs (.completionSignal h inc) s s :=
      ⟨fun z => (exec_zoneSwitchSignal h hs z inc seq).trans (congrArg _ (if_neg hnot)),
        (exec_damperSwitchSignal h hs inc seq).trans (congrArg _ (if_neg hnot)),
        (exec_chillSwitchSignal h hs inc seq).trans (congrArg _ (if_neg hnot)),
        (exec_completionSignal h hs inc).trans (congrArg _ (if_neg hnot))⟩
    obtain ⟨hzone, hdamper, hchill, hcompletion⟩ := hquiet
    simp only [signals, List.mem_append, List.mem_cons, List.not_mem_nil, or_false, List.mem_map, List.mem_finRange,
      true_and] at hc
    rcases hc with (rfl | rfl | rfl) | ⟨z, rfl⟩
    · exact hdamper
    · exact hchill
    · exact hcompletion
    · exact hzone z
  · have hswitching := (switching_iff (s.profiles.get h) inc).mpr hswitch
    refine ⟨fun z => (exec_zoneSwitchSignal h hs z inc seq).trans (congrArg _ (if_pos hswitching)), ?_, ?_, ?_⟩
    · exact (exec_damperSwitchSignal h hs inc seq).trans (congrArg _
        ((if_pos hswitching).trans (putProfiles_freeOutgoing s h inc _ _)))
    · exact (exec_chillSwitchSignal h hs inc seq).trans (congrArg _
        ((if_pos hswitching).trans (putProfiles_freeOutgoing s h inc _ _)))
    · exact (exec_completionSignal h hs inc).trans (congrArg _
        ((if_pos hswitching).trans ((putProfiles_freeOutgoing s h inc _ _).trans (if_neg (switchAll_refers inc _)))))

end Sys2Proof.IndicatorProofs

/-! The Zone Loops: what a computation forms (R83 to R97). -/
namespace Sys2Proof.ZoneLoopProofs

open Sys2Proof.Machine Sys2Proof.Statements Sys2Proof.Laws Sys2Proof.AdvanceProofs

/-! ## The terms formed (R85 to R89) -/

section
variable {s : State} {w : Fin 4} (z : Fin 4)

theorem avgLoad_motion (h : inMotion (s.mode w) = true) :
    avgLoad s w z = weightedSum (s.track w) z / zoneLength (s.track w) z := if_pos h

theorem avgLoad_still (h : ¬ inMotion (s.mode w) = true) : avgLoad s w z = 0 := if_neg h

theorem solventRate_still (h : ¬ inMotion (s.mode w) = true) : solventRate s w z = 0 := by
  rw [solventRate, avgLoad_still z h, Nat.zero_mul, Nat.zero_mul, Nat.zero_div]

end

theorem formWebHeat_eq (s : State) (h : Fin 2) (z : Fin 4) :
    let k := (s.profile h (s.zoneBank h z)).bWeb.get z
    let na := heatNumerator s (firstWeb h) z k
    let nb := heatNumerator s (secondWeb h) z k
    let la := zoneLength (s.track (firstWeb h)) z
    let lb := zoneLength (s.track (secondWeb h)) z
    formWebHeat s h z =
      if inMotion (s.mode (firstWeb h)) then
        if inMotion (s.mode (secondWeb h)) then (na * lb + nb * la) / (1000000 * la * lb) else na / (1000000 * la)
      else if inMotion (s.mode (secondWeb h)) then nb / (1000000 * lb) else 0 := by
  simp only [formWebHeat, State.contributes]
  cases inMotion (s.mode (firstWeb h)) <;> cases inMotion (s.mode (secondWeb h)) <;> rfl

theorem formSetPoint_ramp {s : State} {h : Fin 2} {z : Fin 4} {v : Nat} (hramp : s.rampValue (.zoneSp h z) = some v) :
    formSetPoint s h z = (v, .ramp) := by
  simp only [formSetPoint, hramp]

theorem formSetPoint_profile {s : State} {h : Fin 2} {z : Fin 4} (hramp : s.rampValue (.zoneSp h z) = none) :
    formSetPoint s h z = (interpolate (s.profile h (s.zoneBank h z)) z
      (max (s.demandSpeed (firstWeb h)) (s.demandSpeed (secondWeb h)))
      (max (avgLoad s (firstWeb h) z) (avgLoad s (secondWeb h) z)), sourceOf (s.zoneBank h z)) := by
  simp only [formSetPoint, hramp]

/-- Settles O39: each term is the formula of the model, web by web and mode by mode. -/
theorem zoneTermsFormed : Obligations.ZoneTermsFormed := by
  intro s h z l wa wb bank p motion numerator la lb l'
  have hmotion : ∀ w, motion w ↔ inMotion (s.mode w) = true := fun w => (inMotion_iff _).symm
  have hheat : l'.ffWeb = _ := formWebHeat_eq s h z
  refine ⟨fun w => ⟨rfl, rfl, rfl⟩, fun w hw => ⟨avgLoad_motion z ((hmotion w).mp hw), rfl⟩,
    fun w hw => ?_, fun v hv => ?_, fun hnone => ?_, rfl, fun ha hb => ?_, fun ha hb => ?_, fun ha hb => ?_,
    fun ha hb => ?_, rfl, rfl⟩
  · rw [hmotion] at hw
    exact ⟨avgLoad_still z hw, solventRate_still z hw⟩
  · have hsp := formSetPoint_ramp hv
    exact ⟨congrArg Prod.fst hsp, congrArg Prod.snd hsp⟩
  · have hsp := formSetPoint_profile hnone
    have hsource : l'.source = sourceOf bank := congrArg Prod.snd hsp
    exact ⟨congrArg Prod.fst hsp, fun hp => by rw [hsource, hp]; rfl, fun hq => by rw [hsource, hq]; rfl⟩
  · rw [hmotion] at ha hb
    rw [hheat, if_pos ha, if_pos hb]
    rfl
  · rw [hmotion] at ha hb
    rw [hheat, if_pos ha, if_neg hb]
    rfl
  · rw [hmotion] at ha hb
    rw [hheat, if_neg ha, if_pos hb]
    rfl
  · rw [hmotion] at ha hb
    rw [hheat, if_neg ha, if_neg hb]

/-! ## The computation (R83, R92, R94) -/

theorem dark_iff_modes (s : State) (h : Fin 2) :
    s.dark h = true ↔ s.mode (firstWeb h) = .idle ∧ s.mode (secondWeb h) = .idle := by
  simp [State.dark]

/-- The loop with its trim values and what is scheduled from them. -/
def endLoop (view : State) (h : Fin 2) (z : Fin 4) (l : ZoneLoop) (e p acc trim : Int) : ZoneLoop :=
  { l with
    lastE := e, lastP := p, iAcc := acc, lastTrim := trim, factor := governingFactor view h
    heat := schedule 0 l.ff (scaleTrim (governingFactor view h) trim), fan := formFan view h z }

theorem computeFrom_dark {s : State} {h : Fin 2} (hdark : s.dark h = true) (view : State) (z : Fin 4)
    (trimmed : ZoneLoop → ZoneLoop) : computeFrom view h z trimmed s = s := if_pos hdark

/-- A computation of a lit housing, by what the trim step leaves. -/
theorem computeFrom_lit {s : State} {h : Fin 2} (hlit : ¬ s.dark h = true) (view : State) {z : Fin 4}
    {trimmed : ZoneLoop → ZoneLoop} {e p acc trim : Int}
    (htrim : trimmed (formLoop view h z (s.loops.get (loopIx h z))) =
      { formLoop view h z (s.loops.get (loopIx h z)) with lastE := e, lastP := p, iAcc := acc, lastTrim := trim }) :
    let l := endLoop view h z (formLoop view h z (s.loops.get (loopIx h z))) e p acc trim
    computeFrom view h z trimmed s = sending { s with loops := s.loops.set (loopIx h z) l }
      [.scheduleValue (heatOut h z) [l.heat], .scheduleValue (fanOut h z) [l.fan]] := by
  simp only [computeFrom, if_neg hlit, htrim]
  rfl

theorem rampValue_told (s : State) (t : RampTarget) (v : Option Nat) : (s.told t v).rampValue t = v := by
  simp only [State.rampValue, State.told, ownedValue, tab_get_set_same]
  rfl

/-- The FAN value with `ramp` for the target's ramp value (R94). -/
def fanWith (s : State) (h : Fin 2) (z : Fin 4) (ramp : Option Nat) : Nat :=
  match ramp with
  | some v => v
  | none =>
    if governingMoves s h then (s.profile h (s.zoneBank h z)).fanRun.get z
    else (s.profile h (s.zoneBank h z)).fanStandby.get z

theorem formFan_eq (s : State) (h : Fin 2) (z : Fin 4) : formFan s h z = fanWith s h z (s.rampValue (.fan h z)) := by
  rw [formFan]
  rcases s.rampValue (.fan h z) with _ | v <;> rfl

theorem formFan_told (s : State) (h : Fin 2) (z : Fin 4) (sp fan : Option Nat) :
    formFan ((s.told (.zoneSp h z) sp).told (.fan h z) fan) h z = fanWith s h z fan := by
  rw [formFan_eq, rampValue_told]
  rfl

section
variable (h : Fin 2) (z : Fin 4) {s : State} (hs : Released s)
include hs

theorem exec_fullUpdate_none (hmean : (s.record (zairCh h z)).mean = none) : exec (.fullUpdate h z) s = .next s := by
  rw [exec, execFullUpdate, event_next _ s hs, hmean]

theorem exec_fullUpdate {t : Int} (hmean : (s.record (zairCh h z)).mean = some t) :
    exec (.fullUpdate h z) s = .next (computeFrom s h z (updateTrim t) s) := by
  rw [exec, execFullUpdate, event_next _ s hs, hmean]
  rfl

theorem exec_feedforwardRefresh : exec (.feedforwardRefresh h z) s =
    .next (computeFrom s h z (if s.zairFresh h z then id else dropProportional) s) := by
  rw [exec, execFeedforwardRefresh, event_next _ s hs]
  rfl

theorem exec_zairStale : exec (.zairStale h z) s = .next (computeFrom s h z dropProportional s) := by
  rw [exec, execZairStale, event_next _ s hs]
  rfl

theorem exec_zoneRampSignal (sp fan : Option Nat) : exec (.zoneRampSignal h ⟨z, sp, fan⟩) s =
    .next (computeFrom ((s.told (.zoneSp h z) sp).told (.fan h z) fan) h z id s) := by
  rw [exec, execZoneRampSignal, event_next _ s hs]

theorem exec_operatorReturn (v : Nat) : exec (.operatorReturn h z v) s =
    .next (computeFrom s h z (presetLoop (governingFactor s h) (s.zairFresh h z) v) s) := by
  rw [exec, execOperatorReturn, event_next _ s hs]
  rfl

theorem exec_protectiveReturn (lv : Level) : exec (.protectiveReturn h z lv) s =
    .next (computeFrom s h z clearTrim s) := by
  rw [exec, execProtectiveReturn, event_next _ s hs]
  rfl

end

theorem integralTerm_eq (acc : Int) : integralTerm acc = acc / 4096 := rfl

theorem proportional_eq (k : Nat) (e : Int) : proportional k e = e * k / 16 := rfl

theorem boundAcc_eq (limit : Nat) (acc : Int) :
    boundAcc limit acc = max (-(limit * 4096 : Int)) (min acc (limit * 4096 : Int)) := by
  rw [boundAcc, clampInt]
  push_cast
  rfl

theorem requiredTrim_eq (f : Trim) (d : Int) :
    requiredTrim f d = match f with | .half => 2 * d | .two => d / 2 | _ => d := by cases f <;> rfl

theorem updateTrim_formLoop (s : State) (h : Fin 2) (z : Fin 4) (t : Int) (l : ZoneLoop) :
    let l1 := formLoop s h z l
    let e := max (-32768) (min ((l1.setPoint : Int) - t) 32767)
    let p := e * l.kp / 16
    let acc := if (l.heat = 10000 ∧ 0 < e) ∨ (l.heat = 0 ∧ e < 0) then l.iAcc else
      max (-(l.iLimit * 4096 : Int)) (min (l.iAcc + e * l.ki) (l.iLimit * 4096 : Int))
    updateTrim t l1 = { l1 with lastE := e, lastP := p, iAcc := acc, lastTrim := p + acc / 4096 } := by
  simp only [updateTrim, integrate, boundAcc_eq, integralTerm_eq, proportional_eq] <;> rfl

theorem presetLoop_eq (f : Trim) (fresh : Bool) (v : Nat) (l : ZoneLoop) :
    let required : Int := match f with
      | .half => 2 * ((v : Int) - l.ff)
      | .two => ((v : Int) - l.ff) / 2
      | _ => (v : Int) - l.ff
    let p := if fresh = true then l.lastP else 0
    let acc := max (-(l.iLimit * 4096 : Int)) (min ((required - p) * 4096) (l.iLimit * 4096 : Int))
    presetLoop f fresh v l = { l with lastP := p, iAcc := acc, lastTrim := p + acc / 4096 } := by
  simp only [presetLoop, boundAcc_eq, integralTerm_eq, requiredTrim_eq]

/-- Settles O40: each event by what its trim step leaves; a dark housing does nothing. -/
theorem zoneLoopEvents : Obligations.ZoneLoopEvents := by
  intro h z s hs i l r dark factor scaled fanFor bounded endsWith l1 ends
  have hdark : dark ↔ s.dark h = true := (dark_iff_modes s h).symm
  have hfan : ∀ ramp, fanFor ramp = fanWith s h z ramp := by
    intro ramp
    rcases ramp with _ | v
    · rcases hg : s.governing h with _ | g
      · simp only [fanFor, fanWith, governingMoves, hg]
        rfl
      · rcases hm : s.mode g <;> simp only [fanFor, fanWith, governingMoves, hg, moving, hm] <;> rfl
    · rcases s.governing h with _ | g <;> rfl
  have hscaled : ∀ x, scaleTrim factor x = scaled x := by
    intro x
    simp only [scaled, scaleTrim]
    cases factor <;> rfl
  have hfactor : governingFactor s h = factor := rfl
  have hends : ∀ (view : State) (ramp : Option Nat) (trimmed : ZoneLoop → ZoneLoop) (c : Instr) (e p acc trim : Int),
      ¬ dark → governingFactor view h = governingFactor s h → formFan view h z = fanWith s h z ramp →
      exec c s = .next (computeFrom view h z trimmed s) →
      trimmed (formLoop view h z l) = { formLoop view h z l with lastE := e, lastP := p, iAcc := acc, lastTrim := trim } →
      endsWith (formLoop view h z l) ramp c e p acc trim := by
    intro view ramp trimmed c e p acc trim hlit hsame hformed hexec htrim
    have hcomputed := computeFrom_lit (mt hdark.mpr hlit) view htrim
    simp only [endLoop, hsame, hformed, hfactor, hscaled, ← hfan] at hcomputed
    exact hexec.trans (congrArg _ hcomputed)
  have hown := fun (trimmed : ZoneLoop → ZoneLoop) (c : Instr) (e p acc trim : Int) (hlit : ¬ dark) =>
    hends s (s.rampValue (.fan h z)) trimmed c e p acc trim hlit rfl (formFan_eq s h z)
  have hquiet : ∀ (view : State) (trimmed : ZoneLoop → ZoneLoop) (c : Instr), dark →
      exec c s = .next (computeFrom view h z trimmed s) → Runs c s s := fun view trimmed c hd hexec =>
    hexec.trans (congrArg _ (computeFrom_dark (hdark.mp hd) view z trimmed))
  refine ⟨fun hd => ?_, fun hd sp fan => hquiet _ _ _ hd (exec_zoneRampSignal h z hs sp fan), fun hd v lv =>
    ⟨hquiet _ _ _ hd (exec_operatorReturn h z hs v), hquiet _ _ _ hd (exec_protectiveReturn h z hs lv)⟩, fun hlit =>
    ⟨exec_fullUpdate_none h z hs, fun t hmean => hown _ _ _ _ _ _ hlit (exec_fullUpdate h z hs hmean)
        (updateTrim_formLoop s h z t l), fun hfresh => ?_, fun hstale => ?_, ?_, fun sp fan => ?_, fun v => ?_, fun lv => ?_⟩⟩
  · have hfull : Runs (.fullUpdate h z) s s := by
      rcases hmean : (s.record (zairCh h z)).mean with _ | t
      · exact exec_fullUpdate_none h z hs hmean
      · exact hquiet _ _ _ hd (exec_fullUpdate h z hs hmean)
    simp only [List.forall_mem_cons, List.not_mem_nil, false_implies, implies_true, and_true]
    exact ⟨hfull, hquiet _ _ _ hd (exec_feedforwardRefresh h z hs), hquiet _ _ _ hd (exec_zairStale h z hs)⟩
  · have hexec := exec_feedforwardRefresh h z hs
    rw [show s.zairFresh h z = true from hfresh, if_pos rfl] at hexec
    exact hown _ _ _ _ _ _ hlit hexec rfl
  · have hexec := exec_feedforwardRefresh h z hs
    rw [show s.zairFresh h z = false from hstale, if_neg (by decide)] at hexec
    exact hown _ _ _ _ _ _ hlit hexec rfl
  · exact hown _ _ _ _ _ _ hlit (exec_zairStale h z hs) rfl
  · exact hends _ fan _ _ _ _ _ _ hlit rfl (formFan_told s h z sp fan) (exec_zoneRampSignal h z hs sp fan) rfl
  · exact hown _ _ _ _ _ _ hlit (exec_operatorReturn h z hs v) (presetLoop_eq factor r.fresh v l1)
  · exact hown _ _ _ _ _ _ hlit (exec_protectiveReturn h z hs lv) rfl

end Sys2Proof.ZoneLoopProofs

/-! Web Finishing: what its parts form (R102 to R104, R108 to R111). -/
namespace Sys2Proof.FinishingProofs

open Sys2Proof.Machine Sys2Proof.Statements Sys2Proof.Laws Sys2Proof.ZoneLoopProofs

/-! ## The damper bank -/

section
variable {s : State} {w : Fin 4}

theorem damperBase_ramp {v : Nat} (h : s.rampValue (.dampBase w) = some v) : damperBase s w = (v, .ramp) := by
  simp only [damperBase, h]

theorem damperBase_profile (h : s.rampValue (.dampBase w) = none) :
    damperBase s w = ((s.damperProfile w).dampBase, sourceOf (s.damperBank w)) := by
  simp only [damperBase, h]

theorem chillTarget_ramp {v : Nat} (h : s.rampValue (.chillTarget w) = some v) : chillTarget s w = (v, .ramp) := by
  simp only [chillTarget, h]

theorem chillTarget_profile (h : s.rampValue (.chillTarget w) = none) :
    chillTarget s w = ((s.chillProfile w).chillTarget, sourceOf (s.chillBank w)) := by
  simp only [chillTarget, h]

theorem alignDampers_held (f : Finishing) (hrun : s.mode w = .run) (hseen : f.runSeen = true) :
    (alignDampers s w f).dampers = f.dampers := by
  simp [alignDampers, hrun, hseen]

theorem alignDampers_based (f : Finishing) (h : s.mode w ≠ .run ∨ f.runSeen = false) (i : Fin 8) :
    (alignDampers s w f).dampers.get i = (alignDampers s w f).dampBase := by
  have hnot : ¬ (decide (s.mode w = .run) && f.runSeen) = true := by
    rw [Bool.and_eq_true, decide_eq_true_eq]
    rintro ⟨hrun, hseen⟩
    rcases h with h | h
    · exact h hrun
    · exact absurd (hseen.symm.trans h) (by decide)
  simp only [alignDampers]
  rw [if_neg hnot, tab_get_replicate]

end

/-- A lane moved by its step and clamped (R103 step 5). -/
def movedLane (p : Profile) (m : Int) (lanes : Tab (Option Int) 8) (d : Tab Nat 8) (i : Fin 8) : Option Int :=
  (lanes.get i).map fun x => max (p.dampMin : Int) (min ((d.get i : Int) - damperStep p m x) p.dampMax)

theorem steppedLanes_get (p : Profile) (m : Int) (lanes : Tab (Option Int) 8) (d : Tab Nat 8) (i : Fin 8) :
    (steppedLanes p m lanes d).get i = movedLane p m lanes d i := by
  rw [steppedLanes, tab_get_ofFn]
  rfl

theorem items_eq_map_get {α : Type} {n : Nat} (t : Tab α n) : t.items = (List.finRange n).map t.get := by
  refine List.ext_getElem (by simp [t.size]) fun i hi hi' => ?_
  rw [List.getElem_map, List.getElem_finRange]
  rfl

theorem presentLanes_stepped (p : Profile) (m : Int) (lanes : Tab (Option Int) 8) (d : Tab Nat 8) :
    presentLanes (steppedLanes p m lanes d) = (List.finRange 8).filterMap (movedLane p m lanes d) := by
  rw [presentLanes, items_eq_map_get, List.filterMap_map, ← funext (steppedLanes_get p m lanes d)]
  rfl

theorem presentLanes_ne_nil_of_mean {r : InputRecord} {m : Int} (h : r.mean = some m) : presentLanes r.lanes ≠ [] := by
  intro hnil
  rw [InputRecord.mean, hnil] at h
  exact absurd h (by simp [meanOf])

/-- The lanes a record has are those the step moves. -/
theorem moved_ne_nil {r : InputRecord} {m : Int} (h : r.mean = some m) (p : Profile) (d : Tab Nat 8) :
    (List.finRange 8).filterMap (movedLane p m r.lanes d) ≠ [] := by
  obtain ⟨x, hx⟩ := List.exists_mem_of_ne_nil _ (presentLanes_ne_nil_of_mean h)
  obtain ⟨i, hi⟩ := (IntakeProofs.mem_presentLanes _ x).mp hx
  have hmoved : ∃ y, movedLane p m r.lanes d i = some y := by
    rw [movedLane, hi]
    exact ⟨_, rfl⟩
  obtain ⟨y, hy⟩ := hmoved
  exact List.ne_nil_of_mem (List.mem_filterMap.mpr ⟨i, List.mem_finRange i, hy⟩)

theorem updateDampers_eq {s : State} {w : Fin 4} (f : Finishing) {m : Int} (h : (s.record (dexitCh w)).mean = some m) :
    let p := s.damperProfile w
    let lanes := (s.record (dexitCh w)).lanes
    let present := (List.finRange 8).filterMap (movedLane p m lanes f.dampers)
    let c := present.sum / present.length - (f.dampBase : Int)
    updateDampers s w f = { f with dampers := recentredLanes p c (steppedLanes p m lanes f.dampers) f.dampers } := by
  simp only [updateDampers, h, presentLanes_stepped, meanOf, if_neg (moved_ne_nil h _ _)]

theorem recentredLanes_get (p : Profile) (c : Int) (stepped : Tab (Option Int) 8) (d : Tab Nat 8) (i : Fin 8) :
    ((recentredLanes p c stepped d).get i : Int) = match stepped.get i with
      | some x => max (p.dampMin : Int) (min (x - c) p.dampMax)
      | none => d.get i := by
  rw [recentredLanes, tab_get_ofFn]
  rcases stepped.get i with _ | x
  · rfl
  · simp only [clampInt]
    omega

theorem dampers_formed (s : State) (w : Fin 4) (f : Finishing) :
    let f1 := alignDampers s w f
    let p := s.damperProfile w
    (∀ v, s.rampValue (.dampBase w) = some v → f1.dampBase = v ∧ f1.dampSource = .ramp) ∧
      (s.rampValue (.dampBase w) = none → f1.dampBase = p.dampBase ∧
        (s.damperBank w = some .p → f1.dampSource = .p) ∧ (s.damperBank w = some .q → f1.dampSource = .q)) := by
  refine ⟨fun v hv => ?_, fun hnone => ?_⟩
  · have hbase := damperBase_ramp hv
    exact ⟨congrArg Prod.fst hbase, congrArg Prod.snd hbase⟩
  · have hbase := damperBase_profile hnone
    have hsource : (alignDampers s w f).dampSource = sourceOf (s.damperBank w) := congrArg Prod.snd hbase
    exact ⟨congrArg Prod.fst hbase, fun hp => by rw [hsource, hp]; rfl, fun hq => by rw [hsource, hq]; rfl⟩

/-! ## The chill part -/

theorem target_formed (s : State) (w : Fin 4) (f : Finishing) :
    let f1 := formChill s w f
    let p := s.chillProfile w
    (∀ v, s.rampValue (.chillTarget w) = some v → f1.target = v ∧ f1.targetSource = .ramp) ∧
      (s.rampValue (.chillTarget w) = none → f1.target = p.chillTarget ∧
        (s.chillBank w = some .p → f1.targetSource = .p) ∧ (s.chillBank w = some .q → f1.targetSource = .q)) := by
  refine ⟨fun v hv => ?_, fun hnone => ?_⟩
  · have htarget := chillTarget_ramp hv
    exact ⟨congrArg Prod.fst htarget, congrArg Prod.snd htarget⟩
  · have htarget := chillTarget_profile hnone
    have hsource : (formChill s w f).targetSource = sourceOf (s.chillBank w) := congrArg Prod.snd htarget
    exact ⟨congrArg Prod.fst htarget, fun hp => by rw [hsource, hp]; rfl, fun hq => by rw [hsource, hq]; rfl⟩

/-- The temperature drop of a chill part (R108). -/
theorem deltaT_formed (s : State) (w : Fin 4) (f : Finishing) :
    ((s.record (dexitCh w)).mean = none → (formChill s w f).deltaT = 0) ∧
      ∀ m, (s.record (dexitCh w)).mean = some m →
        ((formChill s w f).deltaT : Int) = max 0 (m - (formChill s w f).target) := by
  refine ⟨fun h => by simp only [formChill, h], fun m h => ?_⟩
  simp only [formChill, h]
  omega

section
variable {s : State} {w : Fin 4} (f : Finishing)

theorem scheduleChill_moving (h : s.mode w = .crawl ∨ s.mode w = .run) :
    let q := s.params w
    let k := if s.mode w = .crawl then q.trimCrawl else q.trimRun
    let partA := f.ff * (s.chillProfile w).shareA / 256
    scheduleChill s w f = { f with
      factor := k
      chillA := min 10000 (max q.chillMin partA)
      chillB := (max (q.chillMin : Int) (min (((f.ff - partA : Nat) : Int) + scaleTrim k f.lastTrim) 10000)).toNat } := by
  have hmoving : moving (s.mode w) = true := by rcases h with h | h <;> rw [h] <;> rfl
  have htrim : trimFor (s.params w) (s.mode w) =
      if s.mode w = .crawl then (s.params w).trimCrawl else (s.params w).trimRun := by
    rcases h with h | h <;> rw [h] <;> rfl
  simp only [scheduleChill, if_pos hmoving, htrim]
  rfl

theorem scheduleChill_still (h : s.mode w = .idle ∨ s.mode w = .standby) : scheduleChill s w f =
    { f with factor := .zero, chillA := (s.params w).chillMin, chillB := (s.params w).chillMin } := by
  have hmoving : ¬ moving (s.mode w) = true := by rcases h with h | h <;> rw [h] <;> decide
  have hbrk : s.mode w ≠ .brk := by rcases h with h | h <;> rw [h] <;> decide
  simp only [scheduleChill, if_neg hmoving, if_neg hbrk]

theorem scheduleChill_brk (h : s.mode w = .brk) : scheduleChill s w f =
    { f with factor := .zero, chillA := (s.params w).chillMin, chillB := (s.params w).chillMin, iAcc := 0, lastP := 0,
             lastTrim := 0 } := by
  have hmoving : ¬ moving (s.mode w) = true := by rw [h]; decide
  simp only [scheduleChill, if_neg hmoving, if_pos h]

end

/-- A trim scaled by a factor (Table 5-3). -/
theorem scaleTrim_eq (f : Trim) (x : Int) : scaleTrim f x = match f with
    | .zero => 0
    | .half => x / 2
    | .one => x
    | .two => max (-10000) (min (2 * x) 10000) := by cases f <;> rfl

/-- Settles O41: alignment and update of the bank, and the chill part by mode. -/
theorem damperAndChillPartsFormed : Obligations.DamperAndChillPartsFormed := by
  refine ⟨fun s w f => ?_, fun s w f => ?_⟩
  · intro f1 p lanes
    obtain ⟨hramp, hprofile⟩ := dampers_formed s w f
    refine ⟨rfl, hramp, hprofile, decide_eq_true_iff, alignDampers_held f, alignDampers_based f, fun m hm => ?_⟩
    intro low high step moved present c
    have hupdated := updateDampers_eq f hm
    refine ⟨by rw [hupdated], fun i => ?_⟩
    rw [hupdated]
    refine (recentredLanes_get ..).trans ?_
    rw [steppedLanes_get]
    rfl
  · intro p q f1 f2 partA
    obtain ⟨hramp, hprofile⟩ := target_formed s w f
    obtain ⟨hcold, hdrop⟩ := deltaT_formed s w f
    refine ⟨hramp, hprofile, hcold, hdrop, rfl, rfl, fun h => ?_, scheduleChill_still f, scheduleChill_brk f⟩
    have hmoving := scheduleChill_moving f h
    simp only [scaleTrim_eq] at hmoving
    exact hmoving

end Sys2Proof.FinishingProofs

/-! Web Finishing: its events (Table 6-2). -/
namespace Sys2Proof.FinishingEventProofs

open Sys2Proof.Machine Sys2Proof.Statements Sys2Proof.Laws Sys2Proof.ZoneLoopProofs Sys2Proof.FinishingProofs

theorem windowNotice_eq (win : Window) (was out : Bool) (value bound : Int) : windowNotice win was out value bound =
    if out = was then [] else
      [.noticeRaised (if out then .outOfWindow win value bound else .windowRestored win value bound)] := by
  cases was <;> cases out <;> rfl

theorem moving_iff (m : Mode) : moving m = true ↔ m = .crawl ∨ m = .run := by cases m <;> simp [moving]

section
variable {s : State} {w : Fin 4}

theorem finishingEvent_idle (f : State → Finishing → Finishing × List Instr) (h : s.mode w = .idle) :
    finishingEvent w f s = s := if_pos h

theorem finishingEvent_active (f : State → Finishing → Finishing × List Instr) (h : s.mode w ≠ .idle) :
    finishingEvent w f s = sending { s with finishing := s.finishing.set w (f s (s.finishing.get w)).1 }
      (f s (s.finishing.get w)).2 := if_neg h

/-! ## The windows (R105 to R107) -/

/-- The bound of the dry window (R105). -/
def dryBound (s : State) (w : Fin 4) : Int := (s.damperProfile w).dryTarget - (s.damperProfile w).dryWindow

/-- The bound of the chill window (R106). -/
def chillBound (s : State) (w : Fin 4) : Int := (chillTarget s w).1 + (s.chillProfile w).chillWindow

theorem judgeDry_judged (f : Finishing) {m : Int} (hrun : s.mode w = .run) (hfresh : (s.record (dexitCh w)).fresh = true)
    (hmean : (s.record (dexitCh w)).mean = some m) :
    judgeDry s w f = ({ f with dryOut := decide (m < dryBound s w) },
      windowNotice (.dry w) f.dryOut (decide (m < dryBound s w)) m (dryBound s w)) := by
  simp only [judgeDry, hrun, hfresh, hmean, decide_true, Bool.and_self]
  rfl

theorem judgeDry_held (f : Finishing)
    (h : s.mode w ≠ .run ∨ (s.record (dexitCh w)).fresh = false ∨ (s.record (dexitCh w)).mean = none) :
    judgeDry s w f = (f, []) := by
  rcases h with h | h | h
  · simp only [judgeDry, decide_eq_false h, Bool.false_and]
    cases (s.record (dexitCh w)).mean <;> rfl
  · simp only [judgeDry, h, Bool.and_false]
    cases (s.record (dexitCh w)).mean <;> rfl
  · simp only [judgeDry, h]

theorem judgeChillExit_judged (f : Finishing) {m : Int} (hrun : s.mode w = .run)
    (hfresh : (s.record (cexitCh w)).fresh = true) (hmean : (s.record (cexitCh w)).mean = some m) :
    judgeChillExit s w f = ({ f with chillOut := decide (chillBound s w < m) },
      windowNotice (.chillExit w) f.chillOut (decide (chillBound s w < m)) m (chillBound s w)) := by
  simp only [judgeChillExit, hrun, hfresh, hmean, decide_true, Bool.and_self]
  rfl

theorem judgeChillExit_held (f : Finishing)
    (h : s.mode w ≠ .run ∨ (s.record (cexitCh w)).fresh = false ∨ (s.record (cexitCh w)).mean = none) :
    judgeChillExit s w f = (f, []) := by
  rcases h with h | h | h
  · simp only [judgeChillExit, decide_eq_false h, Bool.false_and]
    cases (s.record (cexitCh w)).mean <;> rfl
  · simp only [judgeChillExit, h, Bool.and_false]
    cases (s.record (cexitCh w)).mean <;> rfl
  · simp only [judgeChillExit, h]

/-- Neither alignment nor an update of the bank touches the dry window. -/
theorem updateDampers_dryOut (f : Finishing) : (updateDampers s w f).dryOut = f.dryOut := by
  simp only [updateDampers]
  split
  · rfl
  · split <;> rfl

/-! ## The trim of the chill part (R110, R112) -/

/-- The trim at a full update with the CEXIT mean `m`. -/
theorem fullChillTrim_updated (g : Finishing) {m : Int} (hmoves : s.mode w = .crawl ∨ s.mode w = .run)
    (hfresh : (s.record (cexitCh w)).fresh = true) (hmean : (s.record (cexitCh w)).mean = some m) :
    let e := max (-32768) (min (m - g.target) 32767)
    let acc := if (g.chillB = 10000 ∧ 0 < e) ∨ (g.chillB = (s.params w).chillMin ∧ e < 0) then g.iAcc
      else max (-(g.iLimit * 4096 : Int)) (min (g.iAcc + e * g.ki) (g.iLimit * 4096 : Int))
    fullChillTrim s w g =
      { g with lastE := e, lastP := e * g.kp / 16, iAcc := acc, lastTrim := e * g.kp / 16 + acc / 4096 } := by
  simp only [fullChillTrim, if_pos ((moving_iff _).mpr hmoves), hfresh, hmean, updateChillTrim, integrate, boundAcc_eq,
    integralTerm_eq, proportional_eq] <;> rfl

theorem fullChillTrim_dropped (g : Finishing) (hmoves : s.mode w = .crawl ∨ s.mode w = .run)
    (h : (s.record (cexitCh w)).fresh = false ∨ (s.record (cexitCh w)).mean = none) :
    fullChillTrim s w g = dropChillProportional g := by
  simp only [fullChillTrim, if_pos ((moving_iff _).mpr hmoves)]
  rcases h with h | h
  · simp only [h]
  · rw [h]
    cases (s.record (cexitCh w)).fresh <;> rfl

theorem fullChillTrim_held (g : Finishing) (hstill : ¬ (s.mode w = .crawl ∨ s.mode w = .run)) : fullChillTrim s w g = g :=
  if_neg (mt (moving_iff _).mp hstill)

theorem refreshChill_eq (view : State) (g : Finishing) (hview : ∃ t v, view = toldTo s t v ∨ view = s) :
    refreshChill view w g = scheduleChill s w
      (if (s.mode w = .crawl ∨ s.mode w = .run) ∧ (s.record (cexitCh w)).fresh = false then
        dropChillProportional (formChill view w g) else formChill view w g) := by
  have hcond : (moving (s.mode w) && !(s.record (cexitCh w)).fresh) = true ↔
      (s.mode w = .crawl ∨ s.mode w = .run) ∧ (s.record (cexitCh w)).fresh = false := by
    rw [Bool.and_eq_true, moving_iff, Bool.not_eq_true']
  obtain ⟨t, v, rfl | rfl⟩ := hview
  · exact congrArg (scheduleChill s w) (if_congr hcond rfl rfl)
  · exact congrArg (scheduleChill view w) (if_congr hcond rfl rfl)

end

/-! ## The commands -/

section
variable (w : Fin 4) {s : State} (hs : Released s)
include hs

theorem exec_dexitArrival : exec (.dexitArrival w) s = .next (finishingEvent w (takeDexit w) s) := by
  rw [exec, execDexitArrival, event_next _ s hs]

theorem exec_cexitArrival : exec (.cexitArrival w) s = .next (finishingEvent w (takeCexit w) s) := by
  rw [exec, execCexitArrival, event_next _ s hs]

theorem exec_cwretArrival : exec (.cwretArrival w) s = .next (finishingEvent w (takeCwret w) s) := by
  rw [exec, execCwretArrival, event_next _ s hs]

theorem exec_finishingEncArrival : exec (.finishingEncArrival w) s = .next (finishingEvent w (alignAndRefresh w) s) := by
  rw [exec, execFinishingEncArrival, event_next _ s hs]

theorem exec_dexitStale : exec (.dexitStale w) s = .next (finishingEvent w (alignAndRefresh w) s) := by
  rw [exec, execDexitStale, event_next _ s hs]

theorem exec_cexitStale : exec (.cexitStale w) s = .next (finishingEvent w (takeCexitStale w) s) := by
  rw [exec, execCexitStale, event_next _ s hs]

theorem exec_dampBaseRampSignal (v : Option Nat) : exec (.dampBaseRampSignal ⟨w, v⟩) s =
    .next (finishingEvent w (fun s => takeDampBase w (s.told (.dampBase w) v)) s) := by
  rw [exec, execDampBaseRampSignal, event_next _ s hs]

theorem exec_chillTargetRampSignal (v : Option Nat) : exec (.chillTargetRampSignal ⟨w, v⟩) s =
    .next (finishingEvent w (fun s => takeChillTarget w (s.told (.chillTarget w) v)) s) := by
  rw [exec, execChillTargetRampSignal, event_next _ s hs]

end

/-! ## The events, part by part -/

section
variable {s : State} {w : Fin 4}

/-- The bank of a DEXIT arrival (R103). -/
def dexitBank (s : State) (w : Fin 4) (f : Finishing) : Finishing :=
  if s.mode w = .run then updateDampers s w (alignDampers s w f) else alignDampers s w f

theorem dexitBank_dryOut (f : Finishing) : (dexitBank s w f).dryOut = f.dryOut := by
  rw [dexitBank]
  split_ifs
  · exact updateDampers_dryOut _
  · rfl

theorem takeDexit_eq {f g : Finishing} {cs : List Instr} (h : judgeDry s w (dexitBank s w f) = (g, cs)) :
    takeDexit w s f = (fullChill s w g, handDampers w (fullChill s w g) ++ cs ++ handChill w (fullChill s w g)) := by
  have hunfold : takeDexit w s f = (fullChill s w (judgeDry s w (dexitBank s w f)).1,
      handDampers w (fullChill s w (judgeDry s w (dexitBank s w f)).1) ++ (judgeDry s w (dexitBank s w f)).2 ++
        handChill w (fullChill s w (judgeDry s w (dexitBank s w f)).1)) := rfl
  rw [hunfold, h]

theorem takeCexit_eq {f g : Finishing} {cs : List Instr} (h : judgeChillExit s w f = (g, cs)) :
    takeCexit w s f = (fullChill s w g, cs ++ handChill w (fullChill s w g)) := by
  have hunfold : takeCexit w s f = (fullChill s w (judgeChillExit s w f).1,
      (judgeChillExit s w f).2 ++ handChill w (fullChill s w (judgeChillExit s w f).1)) := rfl
  rw [hunfold, h]

theorem takeCwret_stale (f : Finishing) (h : (s.record (cwretCh w)).fresh = false) : takeCwret w s f = (f, []) := by
  simp only [takeCwret, h, Bool.false_eq_true, if_false]

theorem takeCwret_fresh (f : Finishing) (h : (s.record (cwretCh w)).fresh = true) :
    let limit := (s.housing (housingOf w)).returnLimit
    let lanes := (s.record (cwretCh w)).lanes
    let one := judgeReturn w .a limit (lanes.get 0) f.returnAOut
    let two := judgeReturn w .b limit (lanes.get 1) f.returnBOut
    takeCwret w s f = ({ f with returnAOut := one.1, returnBOut := two.1 }, one.2 ++ two.2) := by
  simp only [takeCwret, h, if_true]

/-- An event that finds nothing to do leaves the state. -/
theorem finishingEvent_quiet (F : State → Finishing → Finishing × List Instr)
    (h : F s (s.finishing.get w) = (s.finishing.get w, [])) : finishingEvent w F s = s := by
  by_cases hidle : s.mode w = .idle
  · exact finishingEvent_idle F hidle
  · rw [finishingEvent_active F hidle, h]
    simp only [tab_set_get, sending, List.append_nil]

end

/-- Settles O42: each event by the part of the web it works on. -/
theorem finishingEvents : Obligations.FinishingEvents := by
  intro w s hs f dexit cexit cwret moves leaves dampers chill judged dropped updated full refreshedFrom refreshed aligned
  have hjudged : ∀ win was out value bound, windowNotice win was out value bound = judged win was out value bound :=
    windowNotice_eq
  have hfull : ∀ g, fullChill s w g = full g := by
    intro g
    refine congrArg (scheduleChill s w) ?_
    generalize formChill s w g = g1
    by_cases hmoves : moves
    · rw [show updated g1 = _ from if_pos hmoves]
      rcases hfresh : cexit.fresh with _ | _
      · exact fullChillTrim_dropped g1 hmoves (.inl hfresh)
      · rcases hmean : cexit.mean with _ | m
        · exact fullChillTrim_dropped g1 hmoves (.inr hmean)
        · exact fullChillTrim_updated g1 hmoves hfresh hmean
    · rw [show updated g1 = g1 from if_neg hmoves]
      exact fullChillTrim_held g1 hmoves
  refine ⟨fun hidle => ?_, fun hidle v => ⟨?_, ?_⟩, fun hactive => ?_⟩
  · simp only [List.forall_mem_cons, List.not_mem_nil, false_implies, implies_true, and_true]
    exact ⟨(exec_dexitArrival w hs).trans (congrArg _ (finishingEvent_idle _ hidle)),
      (exec_cexitArrival w hs).trans (congrArg _ (finishingEvent_idle _ hidle)),
      (exec_cwretArrival w hs).trans (congrArg _ (finishingEvent_idle _ hidle)),
      (exec_finishingEncArrival w hs).trans (congrArg _ (finishingEvent_idle _ hidle)),
      (exec_dexitStale w hs).trans (congrArg _ (finishingEvent_idle _ hidle)),
      (exec_cexitStale w hs).trans (congrArg _ (finishingEvent_idle _ hidle))⟩
  · exact (exec_dampBaseRampSignal w hs v).trans (congrArg _ (finishingEvent_idle _ hidle))
  · exact (exec_chillTargetRampSignal w hs v).trans (congrArg _ (finishingEvent_idle _ hidle))
  · have hleaves : ∀ {c F f' cs}, exec c s = .next (finishingEvent w F s) → F s f = (f', cs) → leaves c f' cs := by
      intro c F f' cs hexec hF
      refine hexec.trans (congrArg _ ((finishingEvent_active F hactive).trans ?_))
      rw [show F s (s.finishing.get w) = (f', cs) from hF]
    refine ⟨?_, ?_, ?_, ?_, hleaves (exec_cexitStale w hs) rfl, fun v => hleaves (exec_dampBaseRampSignal w hs v) rfl,
      fun v => ?_⟩
    · intro g bound
      have hg : dexitBank s w f = g := rfl
      refine ⟨fun m hrun hfresh hmean => ?_, fun h => ?_⟩
      · have hjudge := judgeDry_judged (dexitBank s w f) hrun hfresh hmean
        rw [dexitBank_dryOut, hjudged, hg] at hjudge
        have htaken := takeDexit_eq (f := f) hjudge
        rw [hfull] at htaken
        exact hleaves (exec_dexitArrival w hs) htaken
      · have htaken := takeDexit_eq (f := f) (judgeDry_held (dexitBank s w f) h)
        rw [hfull, List.append_nil, hg] at htaken
        exact hleaves (exec_dexitArrival w hs) htaken
    · intro bound
      refine ⟨fun m hrun hfresh hmean => ?_, fun h => ?_⟩
      · have hjudge := judgeChillExit_judged f hrun hfresh hmean
        rw [hjudged] at hjudge
        have htaken := takeCexit_eq hjudge
        rw [hfull] at htaken
        exact hleaves (exec_cexitArrival w hs) htaken
      · have htaken := takeCexit_eq (judgeChillExit_held f h)
        rw [hfull, List.nil_append] at htaken
        exact hleaves (exec_cexitArrival w hs) htaken
    · intro limit side told
      have hside : ∀ (c : Circuit) (lane : Option Int) (was : Bool),
          judgeReturn w c (s.housing (housingOf w)).returnLimit lane was = (side lane was, told c lane was) := by
        intro c lane was
        rcases lane with _ | x
        · rfl
        · exact congrArg (Prod.mk _) (hjudged ..)
      refine ⟨fun hfresh => ?_, fun hstale => ?_⟩
      · have htaken := takeCwret_fresh f hfresh
        simp only [hside] at htaken
        exact hleaves (exec_cwretArrival w hs) htaken
      · exact (exec_cwretArrival w hs).trans (congrArg _ (finishingEvent_quiet _ (takeCwret_stale f hstale)))
    · have hrefreshed : refreshChill s w aligned = refreshed aligned :=
        refreshChill_eq s aligned ⟨.dampBase w, none, .inr rfl⟩
      have htaken : alignAndRefresh w s f = (refreshed aligned, dampers (refreshed aligned) ++ chill (refreshed aligned)) := by
        rw [← hrefreshed]
        rfl
      simp only [List.forall_mem_cons, List.not_mem_nil, false_implies, implies_true, and_true]
      exact ⟨hleaves (exec_finishingEncArrival w hs) htaken, hleaves (exec_dexitStale w hs) htaken⟩
    · have hrefreshed : refreshChill (toldTo s (.chillTarget w) v) w f = refreshedFrom (toldTo s (.chillTarget w) v) f :=
        refreshChill_eq _ f ⟨.chillTarget w, v, .inl rfl⟩
      refine hleaves (exec_chillTargetRampSignal w hs v) ?_
      rw [← hrefreshed]
      rfl

end Sys2Proof.FinishingEventProofs

/-! The Solvent Monitor: its events, CLEAR_TRIP and the purge timer (R120 to R128). -/
namespace Sys2Proof.MonitorProofs

open Sys2Proof.Machine Sys2Proof.Statements Sys2Proof.Laws Sys2Proof.WriteProofs Sys2Proof.HousingProofs
open Sys2Proof.SubscriptionProofs Sys2Proof.ZoneLoopProofs Sys2Proof.MarkProofs

/-! ## The exhaust (R121) -/

/-- What the zones of a housing give off, weighted by the shares (R121). -/
def exhaustRate (s : State) (h : Fin 2) (z : Fin 4) : Nat :=
  (solventRate s (firstWeb h) z + solventRate s (secondWeb h) z) *
    (s.profile h ((s.profiles.get h).zones.get z)).share.get z

theorem solventTotal_eq (s : State) (h : Fin 2) : solventTotal s h =
    (exhaustRate s h 0 + exhaustRate s h 1 + exhaustRate s h 2 + exhaustRate s h 3) / 256 := by
  have hsum : ((List.finRange 4).map (exhaustRate s h)).sum =
      exhaustRate s h 0 + exhaustRate s h 1 + exhaustRate s h 2 + exhaustRate s h 3 := by
    simp [List.finRange_succ, Nat.add_assoc]
  exact congrArg (· / 256) hsum

theorem lelTermOf_eq (p : HousingParams) (lel : Option Nat) : lelTermOf p lel = match lel with
    | some v => (max 0 (((v : Int) - p.lelTarget) * p.kLel / 16)).toNat
    | none => 0 := by
  rcases lel with _ | v
  · rfl
  · simp only [lelTermOf]
    omega

/-! ## Steps and events -/

section
variable {s : State} {h : Fin 2}

theorem monitorEvent_dark (F : State → Monitor → Monitor × List Instr) (hdark : s.dark h = true) :
    monitorEvent h F s = s := if_pos hdark

theorem monitorEvent_lit (F : State → Monitor → Monitor × List Instr) (hlit : ¬ s.dark h = true) :
    monitorEvent h F s = sending { s with monitors := s.monitors.set h (F s (s.monitors.get h)).1 }
      (F s (s.monitors.get h)).2 := if_neg hlit

/-- An event that finds nothing to do leaves the state. -/
theorem monitorEvent_quiet (F : State → Monitor → Monitor × List Instr)
    (hF : F s (s.monitors.get h) = (s.monitors.get h, [])) : monitorEvent h F s = s := by
  by_cases hdark : s.dark h = true
  · exact monitorEvent_dark F hdark
  · rw [monitorEvent_lit F hdark, hF]
    simp only [tab_set_get, sending, List.append_nil]

theorem takeLel_some {v : Nat} (hlel : lelValue s h = some v) (m : Monitor) :
    let limited := limitStep h v (exhaustStep s h m).1
    takeLel h s m = stepIf (decide (m.params.lelTrip ≤ v)) (tripStep h .lelHigh (some v))
      (limited.1, (exhaustStep s h m).2 ++ limited.2) := by
  simp only [takeLel, hlel]
  rfl

theorem takeLel_none (hlel : lelValue s h = none) (m : Monitor) : takeLel h s m = exhaustStep s h m := by
  simp only [takeLel, hlel]

theorem stepIf_true (f : Monitor → Monitor × List Instr) (r : Monitor × List Instr) :
    stepIf true f r = ((f r.1).1, r.2 ++ (f r.1).2) := rfl

theorem stepIf_false (f : Monitor → Monitor × List Instr) (r : Monitor × List Instr) : stepIf false f r = r := rfl

theorem takeTemperature_high (c : TripCause) {trip : Nat} {x : Int} (hhigh : (trip : Int) ≤ x) (m : Monitor) :
    takeTemperature h c trip (some x) m = tripStep h c (some x) m := by
  simp only [takeTemperature, decide_eq_true hhigh, stepIf_true, List.nil_append]

theorem takeTemperature_cool (c : TripCause) {trip : Nat} {t : Option Int} (hcool : ∀ x, t = some x → x < (trip : Int))
    (m : Monitor) : takeTemperature h c trip t m = (m, []) := by
  rcases t with _ | x
  · rfl
  · have hnot : ¬ (trip : Int) ≤ x := Int.not_le.mpr (hcool x rfl)
    simp only [takeTemperature, decide_eq_false hnot, stepIf_false]

end

/-- A trip event, its cause reported when it is new (R123). -/
theorem tripStep_eq (h : Fin 2) (c : TripCause) (reading : Option Int) (m : Monitor) :
    let set := if m.latch = true then m.causes ||| causeBit c else causeBit c
    tripStep h c reading m = ({ m with latch := true, causes := set },
      (if m.latch = true ∧ m.causes &&& causeBit c ≠ 0 then [] else [.noticeRaised (.trip h set reading)]) ++
        (housingChannels h).map fun ch => .claim ch (.cause c) []) := by
  have hknown : (m.latch && decide (m.causes &&& causeBit c ≠ 0)) = true ↔ m.latch = true ∧ m.causes &&& causeBit c ≠ 0 := by
    rw [Bool.and_eq_true, decide_eq_true_eq]
  refine congrArg (Prod.mk _) (congrArg (· ++ _) (if_congr hknown rfl rfl))

section
variable (h : Fin 2) {s : State} (hs : Released s)
include hs

theorem exec_lelArrival : exec (.lelArrival h) s = .next (monitorEvent h (takeLel h) s) := by
  rw [exec, execLelArrival, event_next _ s hs]

theorem exec_monitorEncArrival : exec (.monitorEncArrival h) s = .next (monitorEvent h (takeMonitorEnc h) s) := by
  rw [exec, execMonitorEncArrival, event_next _ s hs]

theorem exec_zairTripCheck (z : Fin 4) : exec (.zairTripCheck h z) s = .next (monitorEvent h
    (fun s m => takeTemperature h (.zone z) m.params.zoneTrip (s.record (zairCh h z)).lane0 m) s) := by
  rw [exec, execZairTripCheck, event_next _ s hs]

theorem exec_exhtArrival : exec (.exhtArrival h) s = .next (monitorEvent h
    (fun s m => takeTemperature h .exhHigh m.params.exhTrip (s.record (exhtCh h)).lane0 m) s) := by
  rw [exec, execExhtArrival, event_next _ s hs]

theorem exec_lelStale : exec (.lelStale h) s = .next (monitorEvent h (fun _ m => tripStep h .lelStale none m) s) := by
  rw [exec, execLelStale, event_next _ s hs]

theorem exec_purgeClaimSignal : exec (.purgeClaimSignal h) s = .next (s.putMonitor h { s.monitors.get h with
    purge := some (after s.now (purgeMs (s.monitors.get h).params)) } []) := by
  rw [exec, execPurgeClaimSignal, event_next _ s hs]

theorem exec_purgeTimerExpiry : exec (.purgeTimerExpiry h) s = .next (if timerDue s.now (s.monitors.get h).purge then
    s.putMonitor h { s.monitors.get h with purge := none } [.dwellEnd h] else s) := by
  rw [exec, execPurgeTimerExpiry, event_next _ s hs]

end

/-- Settles O43: each event by the steps it takes; a dark housing takes none. -/
theorem solventMonitorEvents : Obligations.SolventMonitorEvents := by
  intro h s hs m p dark nine lel share rate total term exh m1 handed tripped limited leaves heated
  have hdark : dark ↔ s.dark h = true := (dark_iff_modes s h).symm
  have hexhaust : exhaustStep s h m = (m1, handed) := by
    have hformed : formExhaust s h = ⟨total, lel, term, exh⟩ := by
      simp only [formExhaust, solventTotal_eq, lelTermOf_eq]
      rfl
    simp only [exhaustStep, hformed]
    rfl
  have htrip : ∀ c reading x, tripStep h c reading x = tripped c reading x := tripStep_eq h
  have hlimit : ∀ v x, x.params = p → limitStep h v x = limited v x := by
    intro v x hx
    exact if_congr (by rw [hx]) rfl (if_congr (by rw [hx]) rfl rfl)
  have hleaves : ∀ {c F x cs}, ¬ dark → exec c s = .next (monitorEvent h F s) → F s m = (x, cs) → leaves c x cs := by
    intro c F x cs hlit hexec hF
    refine hexec.trans (congrArg _ ((monitorEvent_lit F (mt hdark.mpr hlit)).trans ?_))
    rw [show F s (s.monitors.get h) = (x, cs) from hF]
  have hdarkRuns : ∀ {c F}, dark → exec c s = .next (monitorEvent h F s) → Runs c s s := fun hd hexec =>
    hexec.trans (congrArg _ (monitorEvent_dark _ (hdark.mp hd)))
  have hheated : ∀ {c cause trip t F}, ¬ dark → exec c s = .next (monitorEvent h F s) →
      F s m = takeTemperature h cause trip t m → heated c cause trip t := by
    intro c cause trip t F hlit hexec hF
    refine ⟨fun x ht hhigh => hleaves hlit hexec (hF.trans ?_), fun x ht hcool => ?_, fun ht => ?_⟩
    · rw [ht, takeTemperature_high cause hhigh, htrip]
    · refine hexec.trans (congrArg _ (monitorEvent_quiet F (hF.trans (takeTemperature_cool cause ?_ m))))
      rintro y hy
      obtain rfl : x = y := Option.some.inj (ht.symm.trans hy)
      exact hcool
    · refine hexec.trans (congrArg _ (monitorEvent_quiet F (hF.trans (takeTemperature_cool cause ?_ m))))
      rintro y hy
      exact absurd (ht.symm.trans hy) (by simp)
  refine ⟨fun hd => ⟨?_, fun z => hdarkRuns hd (exec_zairTripCheck h hs z)⟩, fun hlit => ?_⟩
  · simp only [List.forall_mem_cons, List.not_mem_nil, false_implies, implies_true, and_true]
    exact ⟨hdarkRuns hd (exec_lelArrival h hs), hdarkRuns hd (exec_monitorEncArrival h hs),
      hdarkRuns hd (exec_exhtArrival h hs), hdarkRuns hd (exec_lelStale h hs)⟩
  · have htaken : ∀ v, lel = some v → takeLel h s m = stepIf (decide (p.lelTrip ≤ v)) (tripStep h .lelHigh (some v))
        ((limited v m1).1, handed ++ (limited v m1).2) := by
      intro v hv
      have htake := takeLel_some (s := s) (h := h) hv m
      rw [hexhaust] at htake
      rw [← hlimit v m1 rfl]
      exact htake
    refine ⟨fun v hv hhigh => hleaves hlit (exec_lelArrival h hs) ?_, fun v hv hlow => hleaves hlit (exec_lelArrival h hs) ?_,
      fun hnone => hleaves hlit (exec_lelArrival h hs) ((takeLel_none hnone m).trans hexhaust),
      fun hfresh => hleaves hlit (exec_monitorEncArrival h hs) ?_, fun hstale => hleaves hlit (exec_monitorEncArrival h hs) ?_,
      hleaves hlit (exec_lelStale h hs) (htrip ..), hheated hlit (exec_exhtArrival h hs) rfl,
      fun z => hheated hlit (exec_zairTripCheck h hs z) rfl⟩
    · rw [htaken v hv, decide_eq_true hhigh, stepIf_true, htrip]
    · rw [htaken v hv, decide_eq_false (Nat.not_le.mpr hlow), stepIf_false]
    · rw [takeMonitorEnc, hfresh, hexhaust]
      rfl
    · rw [takeMonitorEnc, hstale, hexhaust, Bool.not_false, stepIf_true, htrip]

/-! ## CLEAR_TRIP (R125) -/

/-- The conditions of a CLEAR_TRIP, in the order they are checked. -/
def clearConds (s : State) (h : Fin 2) : List Prop :=
  let m := s.monitors.get h
  let p := m.params
  let below := fun (ch : Fin 32) (trip : Nat) => ∀ x, (s.record ch).lanes.get 0 = some x → x < (trip : Int)
  [m.latch = true, (s.record (lelCh h)).fresh = true,
    ∃ x, (s.record (lelCh h)).lanes.get 0 = some x ∧ max 0 (min x 1000) < p.lelLimit,
    ∀ z, below (zairCh h z) p.zoneTrip, below (exhtCh h) p.exhTrip]

theorem coolEnough_iff (trip : Nat) (r : InputRecord) :
    coolEnough trip r = true ↔ ∀ x, r.lanes.get 0 = some x → x < (trip : Int) := by
  rw [coolEnough, InputRecord.lane0]
  rcases r.lanes.get 0 with _ | x <;> simp

theorem lelBelow_iff (s : State) (h : Fin 2) (limit : Nat) : (lelValue s h).any (fun v => decide (v < limit)) = true ↔
    ∃ x, (s.record (lelCh h)).lanes.get 0 = some x ∧ max 0 (min x 1000) < (limit : Int) := by
  rw [lelValue, InputRecord.lane0]
  rcases (s.record (lelCh h)).lanes.get 0 with _ | x
  · simp
  · simp only [Option.map_some, Option.any_some, decide_eq_true_eq, Option.some.injEq, exists_eq_left', clampInt]
    omega

/-- The first failing condition, from whether each holds. -/
def firstFailing (c1 c2 c3 c4 c5 : Bool) : Option Nat :=
  if !c1 then some 1 else if !c2 then some 2 else if !c3 then some 3 else if !c4 then some 4 else if !c5 then some 5
  else none

theorem clearFailure_eq (s : State) (h : Fin 2) : ∃ c1 c2 c3 c4 c5 : Bool,
    clearFailure s h = firstFailing c1 c2 c3 c4 c5 ∧
      clearConds s h = [c1 = true, c2 = true, c3 = true, c4 = true, c5 = true] := by
  let p := (s.monitors.get h).params
  refine ⟨(s.monitors.get h).latch, (s.record (lelCh h)).fresh, (lelValue s h).any fun v => decide (v < p.lelLimit),
    (List.finRange 4).all fun z => coolEnough p.zoneTrip (s.record (zairCh h z)),
    coolEnough p.exhTrip (s.record (exhtCh h)), rfl, ?_⟩
  have hzones : ((List.finRange 4).all fun z => coolEnough p.zoneTrip (s.record (zairCh h z))) = true ↔
      ∀ z, ∀ x, (s.record (zairCh h z)).lanes.get 0 = some x → x < (p.zoneTrip : Int) := by
    simp [List.all_eq_true, coolEnough_iff]
  rw [hzones, lelBelow_iff, coolEnough_iff]
  rfl

theorem clearFailure_none {s : State} {h : Fin 2} (hall : ∀ q ∈ clearConds s h, q) : clearFailure s h = none := by
  obtain ⟨c1, c2, c3, c4, c5, hfailure, hconds⟩ := clearFailure_eq s h
  rw [hconds] at hall
  simp only [List.forall_mem_cons, List.not_mem_nil, false_implies, implies_true, and_true] at hall
  obtain ⟨h1, h2, h3, h4, h5⟩ := hall
  rw [hfailure, h1, h2, h3, h4, h5]
  rfl

theorem clearFailure_some {s : State} {h : Fin 2} {i : Nat} (hi : i < 5) (hfails : ¬ (clearConds s h).getD i True)
    (hbefore : ∀ j, j < i → (clearConds s h).getD j True) : clearFailure s h = some (i + 1) := by
  obtain ⟨c1, c2, c3, c4, c5, hfailure, hconds⟩ := clearFailure_eq s h
  rw [hconds] at hfails hbefore
  rw [hfailure]
  have h0 : 0 < i → c1 = true := hbefore 0
  have h1 : 1 < i → c2 = true := hbefore 1
  have h2 : 2 < i → c3 = true := hbefore 2
  have h3 : 3 < i → c4 = true := hbefore 3
  interval_cases i <;> simp at hfails h0 h1 h2 h3 <;> simp [firstFailing, *]

theorem passed_clearFailure (s : State) (h : Fin 2) : clearFailure (passed s) h = clearFailure s h := by
  simp only [clearFailure, lelValue, State.record, passed_monitors, passed_inputs] <;> rfl

theorem putMonitor_passed (s : State) (h : Fin 2) (m : Monitor) (cs : List Instr) :
    (passed s).putMonitor h m cs = sending { passed s with monitors := s.monitors.set h m } cs := by
  rw [State.putMonitor, passed_monitors]
  rfl

/-- Settles O44: the conditions in order; the purge timer started and taken when due. -/
theorem tripClearedAndPurged : Obligations.TripClearedAndPurged := by
  refine ⟨fun h tag extra s hs => ?_, fun h s hs => ⟨?_, fun t ht hdue => ?_, fun hnot => ?_⟩⟩
  · intro c m p below conds released
    have howner : clearTripHousing h extra (passed s) = match clearFailure s h with
        | some n => refuseWith .state [byteOf n] (passed s)
        | none => done (sending { passed s with monitors := s.monitors.set h { m with latch := false, causes := 0 } }
            (released ++ [.noticeRaised (.tripCleared h m.causes)])) := by
      simp only [clearTripHousing, passed_clearFailure, putMonitor_passed, passed_monitors]
      rcases clearFailure s h with _ | n <;> rfl
    refine ⟨fun hall => ?_, fun i hi hfails hbefore => ?_⟩
    · rw [clearFailure_none hall] at howner
      exact answered_of_index (mk := Instr.clearTrip) (fun _ _ => rfl) tag h (by decide) extra hs howner (passed_node s)
    · rw [clearFailure_some hi hfails hbefore] at howner
      exact answered_of_index (mk := Instr.clearTrip) (fun _ _ => rfl) tag h (by decide) extra hs howner (passed_node s)
  · refine (exec_purgeClaimSignal h hs).trans (congrArg _ ?_)
    rw [State.putMonitor, List.append_nil]
    rfl
  · exact (exec_purgeTimerExpiry h hs).trans (congrArg _ (if_pos (AuthorityProofs.timerDue_some ht hdue)))
  · exact (exec_purgeTimerExpiry h hs).trans (congrArg _ (if_neg (AuthorityProofs.not_timerDue hnot)))

end Sys2Proof.MonitorProofs

/-! RESTART (R183): each block by its column. -/
namespace Sys2Proof.RestartProofs

open Sys2Proof.Machine Sys2Proof.Statements Sys2Proof.Laws Sys2Proof.WriteProofs Sys2Proof.HousingProofs
open Sys2Proof.LoopProofs Sys2Proof.ProfileProofs Sys2Proof.SubscriptionProofs Sys2Proof.RampInvariant

@[simp] theorem passed_pending (s : State) : (passed s).pending = s.pending := by
  rw [passed_eq_boundary, boundary_pending]

@[simp] theorem passed_ringIn (s : State) : (passed s).ringIn = s.ringIn := by
  rw [passed_eq_boundary, boundary_ringIn]

/-- The 24 targets in the order of their codes. -/
def targetsByCode : List RampTarget :=
  [.zoneSp 0 0, .zoneSp 0 1, .zoneSp 0 2, .zoneSp 0 3, .zoneSp 1 0, .zoneSp 1 1, .zoneSp 1 2, .zoneSp 1 3,
    .fan 0 0, .fan 0 1, .fan 0 2, .fan 0 3, .fan 1 0, .fan 1 1, .fan 1 2, .fan 1 3,
    .chillTarget 0, .chillTarget 1, .chillTarget 2, .chillTarget 3, .dampBase 0, .dampBase 1, .dampBase 2, .dampBase 3]

theorem allTargets_eq : allTargets = targetsByCode := by decide +kernel

theorem targetIx_covers (i : Fin 24) : ∃ t ∈ targetsByCode, targetIx t = i := by
  revert i
  decide

/-- Every target released leaves no owner and no value. -/
theorem releaseTargets_all (o : Tab Ownership 24) : releaseTargets o targetsByCode = Tab.replicate 24 ⟨none, none⟩ := by
  refine tab_get_ext fun i => ?_
  obtain ⟨t, ht, rfl⟩ := targetIx_covers i
  rw [tab_get_replicate, releaseTargets_get, if_pos ht]

theorem restartAllowed_iff (s : State) :
    restartAllowed s = true ↔ (∀ w, s.mode w = .idle) ∧ ∀ h, (s.monitors.get h).latch = false := by
  rw [restartAllowed, Bool.and_eq_true, List.all_eq_true, List.all_eq_true]
  simp only [IntakeProofs.mem_items_iff, forall_exists_index, forall_apply_eq_imp_iff, decide_eq_true_eq, Bool.not_eq_true']
  rfl

theorem exec_restart (rq : Request) (s : State) : exec (.restart rq) s = request 14 rq restartAnswer s := rfl

section
variable (s : State)

theorem restarted_signals : (restarted s).signals =
    (targetsByCode.filter fun u => (s.ramp.owners.get (targetIx u)).value.isSome).map
      (readerSignal (restarted s).ramp.owners) := by
  have hunfold : (restarted s).signals = releaseSignals s.ramp.owners allTargets := rfl
  rw [hunfold, releaseSignals, allTargets_eq, releaseTargets_all]
  rfl

theorem restarted_track (w : Fin 4) : (restarted s).track w = (s.track w).restarted := tab_get_ofFn _ _

theorem restarted_webs (w : Fin 4) : (restarted s).webs.get w = (s.webs.get w).restarted := tab_get_ofFn _ _

theorem restarted_inputs (ch : Fin 32) : (restarted s).inputs.get ch = (s.inputs.get ch).restarted := tab_get_ofFn _ _

theorem restarted_jobs (h : Fin 2) : (restarted s).tracker.jobs.get h = none := tab_get_replicate _ _

theorem restarted_profiles (h : Fin 2) : (restarted s).profiles.get h = (s.profiles.get h).released := tab_get_ofFn _ _

theorem restarted_loops (i : Fin 8) : (restarted s).loops.get i = (s.loops.get i).restarted := tab_get_ofFn _ _

theorem restarted_finishing (w : Fin 4) : (restarted s).finishing.get w = (s.finishing.get w).restarted := tab_get_ofFn _ _

theorem restarted_monitors (h : Fin 2) : (restarted s).monitors.get h = (s.monitors.get h).restarted := tab_get_ofFn _ _

theorem restarted_outputs (ch : Fin 30) : (restarted s).outputs.get ch = (s.outputs.get ch).restarted ch :=
  tab_get_ofFn _ _

theorem restarted_owners (i : Fin 24) : (restarted s).ramp.owners.get i = ⟨none, none⟩ := tab_get_replicate _ _

theorem restarted_slots (j : Fin 8) : (restarted s).ramp.slots.get j = (s.ramp.slots.get j).restarted := tab_get_ofFn _ _

end

/-- A web's tracking after RESTART (Table 1-6). -/
theorem trackRestarted_fields (t : TrackWeb) :
    t.restarted.stations = t.stations ∧ t.restarted.mask = t.mask ∧ t.restarted.stationsSet = t.stationsSet ∧
      t.restarted.bankA = t.bankA ∧ t.restarted.bankB = t.bankB ∧ t.restarted.path = t.path ∧ t.restarted.queue = [] ∧
      t.restarted.encRef = none ∧ t.restarted.seqCounter = 0 ∧ t.restarted.wash = 0 ∧ t.restarted.cursorRun = 0 ∧
      (∀ bank, t.activeBank = some bank → t.restarted.cursorLeft = ((t.bank bank).runs.get 0).length) ∧
      (t.activeBank = none → t.restarted.cursorLeft = 0) := by
  rcases hactive : t.activeBank with _ | bank <;> simp [TrackWeb.restarted, TrackWeb.cursorToStart, hactive]

theorem reset_loops (i : Fin 8) : State.reset.loops.get i = ZoneLoop.reset := tab_get_replicate _ _

theorem reset_finishing (w : Fin 4) : State.reset.finishing.get w = Finishing.reset := tab_get_replicate _ _

theorem reset_monitors (h : Fin 2) : State.reset.monitors.get h = Monitor.reset := tab_get_replicate _ _

theorem reset_outputs (ch : Fin 30) : State.reset.outputs.get ch = OutputChannel.reset ch := tab_get_ofFn _ _

/-- Settles O56: the two conditions, and the state left block by block. -/
theorem restarted : Obligations.Restarted := by
  intro tag s hs c accepted targets
  have hallowed : restartAllowed (passed s) = true ↔ accepted := by
    rw [restartAllowed_iff]
    simp only [passed_mode, passed_monitors]
    rfl
  refine ⟨fun hnot => DecoderProofs.refused_of_owner (rq := ⟨tag, []⟩) (exec_restart _ s) hs
      (if_neg (mt hallowed.mp hnot)), fun haccepted => ?_⟩
  refine ⟨Machine.restarted (passed s), answered_of_owner (rq := ⟨tag, []⟩) (exec_restart _ s) hs
    (if_pos (hallowed.mpr haccepted)) (passed_node s), passed_pending s, passed_ringIn s, passed_now s, rfl, ?_,
    fun w => ?_, fun w => ?_, fun ch => ?_, fun h => ⟨restarted_jobs _ h, ?_⟩, fun i => ?_, fun w => ?_, fun h => ?_,
    fun ch => ?_, show (passed s).ramp.memory = s.ramp.memory from congrArg RampEngine.memory (passed_ramp s),
    restarted_owners _, fun j => ?_, ?_⟩
  · rw [restarted_signals, passed_ramp]
    rfl
  · rw [restarted_track, passed_track]
    exact trackRestarted_fields _
  · rw [restarted_webs, passed_webs]
    rfl
  · rw [restarted_inputs, passed_inputs]
    rfl
  · rw [restarted_profiles, passed_profiles]
    rfl
  · rw [restarted_loops, passed_loops, reset_loops]
    rfl
  · rw [restarted_finishing, passed_finishing, reset_finishing]
    rfl
  · rw [restarted_monitors, passed_monitors, reset_monitors]
    rfl
  · rw [restarted_outputs, passed_outputs, reset_outputs]
    rfl
  · rw [restarted_slots, passed_ramp]
    rfl
  · rw [show (Machine.restarted (passed s)).emission = (passed s).emission.restarted from rfl, passed_emission]
    rfl

end Sys2Proof.RestartProofs

/-! The image of a ramp descriptor (R150, R181). -/
namespace Sys2Proof.DescriptorImageProofs

open Sys2Proof.Machine Sys2Proof.Statements Sys2Proof.RingProofs

theorem targetIx_val (t : RampTarget) : (targetIx t).val = targetCode t := by cases t <;> rfl

theorem fieldWords_view {α : Type} {c f : α → Nat} (h : ∀ x, c x = f x) (o : Option α) :
    fieldWords c o = optionView 1 (fun x => [f x]) o := by
  rcases o with _ | x
  · rfl
  · simp only [fieldWords, optionView, h]

theorem rampModeCode_eq (m : RampMode) : rampModeCode m = code [.one, .two, .three] m := by cases m <;> rfl

theorem transferCode_eq (x : Transfer) : transferCode x = code [.step, .line] x := by cases x <;> rfl

theorem tickCode_eq (x : Tick) : tickCode x = code [.ms10, .ms100, .s1, .s10] x := by cases x <;> rfl

/-- The four words of a trigger, as the view gives them. -/
def triggerView : Trigger → List Nat
  | .console => [0, 0, 0, 0]
  | .on (.mode w m) => [1, w.val, code modes m, 0]
  | .on (.marker w k st) => [2, w.val, code markers k, st.val]
  | .on (.chain j) => [3, j.val, 0, 0]

theorem triggerCode_eq (t : Trigger) : triggerCode t = triggerView t := by
  rcases t with _ | (⟨w, m⟩ | ⟨w, k, st⟩ | j)
  · rfl
  · rw [triggerCode, triggerView, code_modes]
  · rw [triggerCode, triggerView, code_markers]
  · rfl

theorem triggerWords_eq (o : Option Trigger) : triggerWords o = optionView 4 triggerView o := by
  rcases o with _ | t
  · rfl
  · rw [triggerWords, triggerCode_eq]
    rfl

/-- The eight words of a target list: the codes, filled up with 65535. -/
theorem listedWords_eq (ts : List RampTarget) :
    ((List.range 8).map fun i => (ts[i]?.map fun t => (targetIx t).val).getD 65535) =
      ((ts.map targetCode) ++ List.replicate 8 65535).take 8 := by
  refine List.ext_getElem (by simp) fun i hi hi' => ?_
  have hi8 : i < 8 := by simpa using hi
  rw [List.getElem_map, List.getElem_range, List.getElem_take]
  by_cases hin : i < ts.length
  · rw [List.getElem_append_left (by simpa using hin), List.getElem_map, List.getElem?_eq_getElem hin]
    exact targetIx_val _
  · rw [List.getElem_append_right (by simpa using hin), List.getElem_replicate,
      List.getElem?_eq_none (Nat.le_of_not_lt hin)]
    rfl

theorem targetWords_eq (o : Option (List RampTarget)) : targetWords o =
    flag o.isSome :: (((o.getD []).map targetCode) ++ List.replicate 8 65535).take 8 := by
  rw [targetWords, listedWords_eq]
  rfl

theorem words_eq_view (d : RampDescriptor) : d.words = descriptorView d := by
  have hid : ∀ n : Nat, id n = n := fun _ => rfl
  have hoff : ∀ k : Int, toWord k = word k := fun _ => rfl
  have hflag : ∀ x : Bool, boolWord x = flag x := fun _ => rfl
  rw [RampDescriptor.words, fieldWords_view hid d.base, fieldWords_view rampModeCode_eq, fieldWords_view transferCode_eq,
    targetWords_eq, fieldWords_view hid d.n, fieldWords_view hid d.l, fieldWords_view hid d.bk, fieldWords_view hoff d.off1,
    fieldWords_view hoff d.off2, fieldWords_view hid d.reload, fieldWords_view tickCode_eq, triggerWords_eq,
    fieldWords_view fun x => (code_ends x).symm, fieldWords_view hflag]
  rfl

theorem imageOf_descriptor (s : State) (j : Fin 8) :
    imageOf s 10 j.val = some (descriptorView (s.ramp.slots.get j).desc) := by
  rw [← words_eq_view]
  simp [imageOf, imageAt, asFin]

end Sys2Proof.DescriptorImageProofs

/-! The WRITE of a ramp descriptor (R151). -/
namespace Sys2Proof.DescriptorWriteProofs

open Sys2Proof.Machine Sys2Proof.Statements Sys2Proof.Laws Sys2Proof.WriteProofs Sys2Proof.SubscriptionProofs
open Sys2Proof.RingProofs Sys2Proof.RampProofs Sys2Proof.DescriptorImageProofs

/-! ## Spans and fields -/

theorem holds_iff (sp : Span) (i k : Nat) : sp.holds i k = true ↔ sp.start ≤ i ∧ i + k ≤ sp.start + sp.vals.length := by
  simp [Span.holds]

/-- The span carries the `k` words from `i` on whole, when it touches them. -/
def WholeField (sp : Span) (i k : Nat) : Prop :=
  sp.start < i + k → i < sp.start + sp.vals.length → sp.start ≤ i ∧ i + k ≤ sp.start + sp.vals.length

theorem WholeField.holds_iff_carries {sp : Span} {i k : Nat} (h : WholeField sp i k) (hk : 0 < k) :
    sp.holds i k = true ↔ Carries sp i := by
  rw [holds_iff]
  exact ⟨fun hin => ⟨hin.1, by omega⟩, fun hc => h (by omega) hc.2⟩

theorem wholeField_iff (sp : Span) (i k : Nat) : (!sp.touches i k || sp.holds i k) = true ↔ WholeField sp i k := by
  rw [Bool.or_eq_true, Bool.not_eq_true', ← Bool.not_eq_true, touches_iff, holds_iff, WholeField]
  tauto

/-- The span is the eight value words of the target list. -/
def Lists (sp : Span) : Prop := sp.start = 7 ∧ sp.vals.length = 8

theorem holds_list_iff {sp : Span} (hfit : SpanFits 38 sp) : sp.holds 7 8 = true ↔ Lists sp := by
  obtain ⟨-, hmost, -⟩ := hfit
  rw [holds_iff, Lists]
  omega

/-- The first words and lengths of the fields but the target list. -/
def plainFields : List (Nat × Nat) :=
  [(0, 2), (2, 2), (4, 2), (15, 2), (17, 2), (19, 2), (21, 2), (23, 2), (25, 2), (27, 2), (29, 5), (34, 2), (36, 2)]

/-- Every field the span touches is carried whole. -/
def Whole (sp : Span) : Prop :=
  (sp.start < 15 → 6 < sp.start + sp.vals.length → Lists sp) ∧ ∀ f ∈ plainFields, WholeField sp f.1 f.2

theorem fieldsWhole_iff {sp : Span} (hfit : SpanFits 38 sp) : fieldsWhole sp = true ↔ Whole sp := by
  have hlist : (!sp.touches 6 9 || sp.holds 7 8) = true ↔
      (sp.start < 15 → 6 < sp.start + sp.vals.length → Lists sp) := by
    rw [Bool.or_eq_true, Bool.not_eq_true', ← Bool.not_eq_true, touches_iff, holds_list_iff hfit]
    tauto
  rw [fieldsWhole, Bool.and_eq_true, hlist, List.all_eq_true]
  simp only [wholeField_iff]
  rfl

/-! ## One field -/

/-- A field after the write, from whether it is carried, its presence word and the value parsed. -/
def carry {α : Type} (held : Bool) (presence : Nat) (parsed old : Option α) : Option (Option α) :=
  if held then (if presence = 0 then some none else if presence = 1 then parsed.map some else none) else some old

theorem carriedField_eq {α : Type} (sp : Span) (i : Nat) (parse : Nat → Option α) (old : Option α) :
    carriedField sp i parse old = carry (sp.holds i 2) (sp.val i) (parse (sp.val (i + 1))) old := rfl

theorem carriedTrigger_eq (sp : Span) (old : Option Trigger) : carriedTrigger sp old =
    carry (sp.holds 29 5) (sp.val 29) (parseTrigger (sp.val 30) (sp.val 31) (sp.val 32) (sp.val 33)) old := rfl

/-- The field at word `i`: it stands when not carried, is absent on presence 0, and holds a value on presence 1. -/
def FieldTaken {α : Type} (sp : Span) (i : Nat) (old new : Option α) (value : α → Prop) : Prop :=
  (¬ Carries sp i → new = old) ∧ (Carries sp i → sp.val i = 0 → new = none) ∧
    (Carries sp i → sp.val i = 1 → ∃ y, new = some y ∧ value y)

section
variable {α : Type} {sp : Span} {i : Nat} {held : Bool} {parsed old new : Option α} (hheld : held = true ↔ Carries sp i)
include hheld

theorem carry_ne_none_iff {P : Prop} (hparsed : parsed ≠ none ↔ P) :
    carry held (sp.val i) parsed old ≠ none ↔ (Carries sp i → sp.val i = 0 ∨ sp.val i = 1 ∧ P) := by
  rw [← hheld, ← hparsed, carry]
  cases held
  · simp
  · rcases parsed with _ | y
    · by_cases h0 : sp.val i = 0 <;> simp [h0]
    · by_cases h0 : sp.val i = 0
      · simp [h0]
      · by_cases h1 : sp.val i = 1 <;> simp [h0, h1]

theorem carry_taken {value : α → Prop} (hvalue : ∀ y, parsed = some y → value y)
    (h : carry held (sp.val i) parsed old = some new) : FieldTaken sp i old new value := by
  rw [carry] at h
  refine ⟨fun hnot => ?_, fun hc h0 => ?_, fun hc h1 => ?_⟩
  · rw [if_neg (mt hheld.mp hnot)] at h
    exact (Option.some.inj h).symm
  · rw [if_pos (hheld.mpr hc), if_pos h0] at h
    exact (Option.some.inj h).symm
  · rw [if_pos (hheld.mpr hc), if_neg (by omega), if_pos h1] at h
    rcases parsed with _ | y
    · exact absurd h (by simp)
    · exact ⟨y, (Option.some.inj h).symm, hvalue y rfl⟩

end

/-! ## The values (Table 9-2) -/

theorem parseUpTo_iff (hi v : Nat) : parseUpTo hi v ≠ none ↔ v ≤ hi := by simp [parseUpTo]

theorem parseUpTo_value {hi v y : Nat} (h : parseUpTo hi v = some y) : y = v := by
  rw [parseUpTo] at h
  split_ifs at h
  exact (Option.some.inj h).symm

theorem rampModeOfCode_iff (v : Nat) : rampModeOfCode v ≠ none ↔ v ≤ 2 := by
  rcases v with _ | _ | _ | v <;> simp [rampModeOfCode]

theorem rampModeOfCode_value {v : Nat} {y : RampMode} (h : rampModeOfCode v = some y) :
    code [.one, .two, .three] y = v := by
  rcases v with _ | _ | _ | v <;> simp only [rampModeOfCode, Option.some.injEq, reduceCtorEq] at h <;> subst h <;> rfl

theorem transferOfCode_iff (v : Nat) : transferOfCode v ≠ none ↔ v ≤ 1 := by
  rcases v with _ | _ | v <;> simp [transferOfCode]

theorem transferOfCode_value {v : Nat} {y : Transfer} (h : transferOfCode v = some y) : code [.step, .line] y = v := by
  rcases v with _ | _ | v <;> simp only [transferOfCode, Option.some.injEq, reduceCtorEq] at h <;> subst h <;> rfl

theorem tickOfCode_iff (v : Nat) : tickOfCode v ≠ none ↔ v ≤ 3 := by
  rcases v with _ | _ | _ | _ | v <;> simp [tickOfCode]

theorem tickOfCode_value {v : Nat} {y : Tick} (h : tickOfCode v = some y) :
    code [.ms10, .ms100, .s1, .s10] y = v := by
  rcases v with _ | _ | _ | _ | v <;> simp only [tickOfCode, Option.some.injEq, reduceCtorEq] at h <;> subst h <;> rfl

theorem endOfCode_iff (v : Nat) : endOfCode v ≠ none ↔ v ≤ 2 := by
  rcases v with _ | _ | _ | v <;> simp [endOfCode]

theorem endOfCode_value {v : Nat} {y : EndAction} (h : endOfCode v = some y) :
    code [.release, .hold, .repeatPass] y = v := by
  rcases v with _ | _ | _ | v <;> simp only [endOfCode, Option.some.injEq, reduceCtorEq] at h <;> subst h <;> rfl

theorem parseBool_iff (v : Nat) : parseBool v ≠ none ↔ v ≤ 1 := by
  rcases v with _ | _ | v <;> simp [parseBool]

theorem parseBool_value {v : Nat} {y : Bool} (h : parseBool v = some y) : flag y = v := by
  rcases v with _ | _ | v
  · obtain rfl : y = false := (Option.some.inj h).symm
    rfl
  · obtain rfl : y = true := (Option.some.inj h).symm
    rfl
  · simp [parseBool] at h

theorem parseOffset_iff {v : Nat} (hv : v < 65536) : parseOffset v ≠ none ↔ v ≤ 1023 ∨ 64512 ≤ v := by
  have hsigned : signedWord v = if v < 32768 then (v : Int) else v - 65536 := by
    rw [signedWord, Nat.mod_eq_of_lt hv]
  rw [parseOffset, hsigned]
  split_ifs with h32 hrange <;> simp <;> omega

theorem parseOffset_value {v : Nat} (hv : v < 65536) {k : Int} (h : parseOffset v = some k) :
    -1024 ≤ k ∧ k ≤ 1023 ∧ word k = v := by
  rw [parseOffset] at h
  split_ifs at h with hrange
  obtain rfl : signedWord v = k := Option.some.inj h
  exact ⟨hrange.1, hrange.2, toWord_signedWord hv⟩

theorem asFin_iff (n v : Nat) : (∃ x, asFin n v = some x) ↔ v < n := by
  rw [asFin]
  split_ifs with h <;> simp [h]

theorem asFin_value {n v : Nat} {x : Fin n} (h : asFin n v = some x) : v = x.val := by
  rw [asFin] at h
  split_ifs at h
  rw [← Option.some.inj h]

theorem modeOfCode_iff (v : Nat) : (∃ m, modeOfCode v = some m) ↔ v ≤ 4 := by
  rcases v with _ | _ | _ | _ | _ | v <;> simp [modeOfCode]

theorem modeOfCode_value {v : Nat} {m : Mode} (h : modeOfCode v = some m) : v = code modes m := by
  rw [code_modes]
  rcases v with _ | _ | _ | _ | _ | v <;> simp only [modeOfCode, Option.some.injEq, reduceCtorEq] at h <;> subst h <;> rfl

theorem markerOfCode_iff (v : Nat) : (∃ k, markerOfCode v = some k) ↔ v ≤ 9 := by
  refine ⟨fun ⟨k, hk⟩ => ?_, fun h => (MarkProofs.markerOfCode_some h).imp fun _ hk => hk.1⟩
  by_contra hnot
  rw [MarkProofs.markerOfCode_none (Nat.lt_of_not_le hnot)] at hk
  exact absurd hk (by simp)

theorem markerOfCode_value {v : Nat} {k : MarkerKind} (h : markerOfCode v = some k) : v = code markers k := by
  rw [code_markers]
  rw [markerOfCode] at h
  split_ifs at h with h0 h1 h2
  · rw [← Option.some.inj h, h0]
    rfl
  · rw [← Option.some.inj h, h1]
    rfl
  · rw [← Option.some.inj h, h2]
    rfl
  · rcases hn : asFin 7 (v - 3) with _ | n
    · simp [hn] at h
    · have hv := asFin_value hn
      rw [hn] at h
      rw [← Option.some.inj h]
      show v = 3 + n.val
      omega

/-- The four words of a trigger that a write may carry. -/
def TriggerFits (kind who what st : Nat) : Prop :=
  kind = 0 ∨ kind = 1 ∧ who ≤ 3 ∧ what ≤ 4 ∨ kind = 2 ∧ who ≤ 3 ∧ what ≤ 9 ∧ st ≤ 6 ∨ kind = 3 ∧ who ≤ 7

/-- The trigger that the four words name. -/
def TriggerNamed (kind who what st : Nat) : Trigger → Prop
  | .console => kind = 0
  | .on (.mode w m) => kind = 1 ∧ who = w.val ∧ what = code modes m
  | .on (.marker w k i) => kind = 2 ∧ who = w.val ∧ what = code markers k ∧ st = i.val
  | .on (.chain k) => kind = 3 ∧ who = k.val

theorem parseTrigger_value {kind who what st : Nat} {t : Trigger} (h : parseTrigger kind who what st = some t) :
    TriggerNamed kind who what st t := by
  rw [parseTrigger] at h
  split_ifs at h with h0 h1 h2 h3
  · rw [← Option.some.inj h]
    exact h0
  · rcases hw : asFin 4 who with _ | w <;> rcases hm : modeOfCode what with _ | m <;> simp only [hw, hm, reduceCtorEq] at h
    rw [← Option.some.inj h]
    exact ⟨h1, asFin_value hw, modeOfCode_value hm⟩
  · rcases hw : asFin 4 who with _ | w <;> rcases hk : markerOfCode what with _ | k <;> rcases hi : asFin 7 st with _ | i <;>
      simp only [hw, hk, hi, reduceCtorEq] at h
    rw [← Option.some.inj h]
    exact ⟨h2, asFin_value hw, markerOfCode_value hk, asFin_value hi⟩
  · rcases hw : asFin 8 who with _ | k
    · simp [hw] at h
    · rw [hw] at h
      rw [← Option.some.inj h]
      exact ⟨h3, asFin_value hw⟩

theorem parseTrigger_iff (kind who what st : Nat) : parseTrigger kind who what st ≠ none ↔ TriggerFits kind who what st := by
  rw [Option.ne_none_iff_exists']
  constructor
  · rintro ⟨t, ht⟩
    have hnamed := parseTrigger_value ht
    have hmode : ∀ m : Mode, code modes m ≤ 4 := by intro m; rw [code_modes]; cases m <;> decide
    have hkind : ∀ k : MarkerKind, code markers k ≤ 9 := by
      intro k
      rw [code_markers]
      rcases k with _ | _ | _ | n
      · decide
      · decide
      · decide
      · show 3 + n.val ≤ 9
        omega
    rcases t with _ | (⟨w, m⟩ | ⟨w, k, i⟩ | k)
    · exact .inl hnamed
    · obtain ⟨h1, hw, hm⟩ := hnamed
      exact .inr (.inl ⟨h1, by omega, hm.trans_le (hmode m)⟩)
    · obtain ⟨h2, hw, hk, hi⟩ := hnamed
      exact .inr (.inr (.inl ⟨h2, by omega, hk.trans_le (hkind k), by omega⟩))
    · obtain ⟨h3, hk⟩ := hnamed
      exact .inr (.inr (.inr ⟨h3, by omega⟩))
  · rintro (rfl | ⟨rfl, hw, hm⟩ | ⟨rfl, hw, hk, hi⟩ | ⟨rfl, hk⟩)
    · exact ⟨_, rfl⟩
    · obtain ⟨w, hw⟩ := (asFin_iff 4 who).mpr (by omega)
      obtain ⟨m, hm⟩ := (modeOfCode_iff what).mpr hm
      exact ⟨.on (.mode w m), by simp [parseTrigger, hw, hm]⟩
    · obtain ⟨w, hw⟩ := (asFin_iff 4 who).mpr (by omega)
      obtain ⟨k, hk⟩ := (markerOfCode_iff what).mpr hk
      obtain ⟨i, hi⟩ := (asFin_iff 7 st).mpr (by omega)
      exact ⟨.on (.marker w k i), by simp [parseTrigger, hw, hk, hi]⟩
    · obtain ⟨k, hk⟩ := (asFin_iff 8 who).mpr (by omega)
      exact ⟨.on (.chain k), by simp [parseTrigger, hk]⟩

/-! ## The target list -/

theorem targetOfCode_some {c : Nat} (h : c < 24) : ∃ t, targetOfCode c = some t ∧ targetCode t = c := by
  have hall : ∀ c : Fin 24, ∃ t, targetOfCode c.val = some t ∧ targetCode t = c.val := by
    intro c
    rcases hc : targetOfCode c.val with _ | t
    · revert hc
      revert c
      decide
    · refine ⟨t, rfl, ?_⟩
      have : ∀ c : Fin 24, (targetOfCode c.val).all (fun t => decide (targetCode t = c.val)) = true := by decide
      have := this c
      rw [hc] at this
      simpa using this
  exact hall ⟨c, h⟩

theorem targetOfCode_none {c : Nat} (h : 24 ≤ c) : targetOfCode c = none := by
  rw [targetOfCode, if_neg (by omega), if_neg (by omega), if_neg (by omega), if_neg (by omega)]

/-- The words of a target list before the first 65535. -/
def listedCodes (vs : List Nat) : List Nat := vs.takeWhile (· ≠ 65535)

theorem parseTargets_spec (vs : List Nat) :
    ((∀ c ∈ listedCodes vs, c < 24) → ∃ ts, parseTargets vs = some ts ∧ ts.map targetCode = listedCodes vs) ∧
      ((∃ c ∈ listedCodes vs, 24 ≤ c) → parseTargets vs = none) := by
  induction vs with
  | nil => exact ⟨fun _ => ⟨[], rfl, rfl⟩, fun ⟨c, hc, _⟩ => absurd hc (by simp [listedCodes])⟩
  | cons v vs ih =>
    obtain ⟨hfits, hfails⟩ := ih
    by_cases hend : v = 65535
    · subst hend
      exact ⟨fun _ => ⟨[], by simp [parseTargets], by simp [listedCodes]⟩, fun ⟨c, hc, _⟩ => absurd hc (by simp [listedCodes])⟩
    · have hlisted : listedCodes (v :: vs) = v :: listedCodes vs := by simp [listedCodes, hend]
      rw [hlisted]
      constructor
      · intro hall
        obtain ⟨hv, hrest⟩ := List.forall_mem_cons.mp hall
        obtain ⟨t, ht, hcode⟩ := targetOfCode_some hv
        obtain ⟨ts, hts, hcodes⟩ := hfits hrest
        exact ⟨t :: ts, by simp [parseTargets, hend, ht, hts], by rw [List.map_cons, hcode, hcodes]⟩
      · rintro ⟨c, hc, hhigh⟩
        rcases List.mem_cons.mp hc with rfl | hc
        · simp [parseTargets, hend, targetOfCode_none hhigh]
        · have hnone := hfails ⟨c, hc, hhigh⟩
          rcases htarget : targetOfCode v with _ | t <;> simp [parseTargets, hend, htarget, hnone]

theorem parseTargetList_iff (vs : List Nat) :
    parseTargetList vs ≠ none ↔ listedCodes vs ≠ [] ∧ ∀ c ∈ listedCodes vs, c < 24 := by
  obtain ⟨hfits, hfails⟩ := parseTargets_spec vs
  by_cases hall : ∀ c ∈ listedCodes vs, c < 24
  · obtain ⟨ts, hts, hcodes⟩ := hfits hall
    rw [parseTargetList, hts, ← hcodes]
    rcases ts with _ | ⟨t, ts⟩
    · simp
    · refine ⟨fun _ => ⟨by simp, by rw [hcodes]; exact hall⟩, fun _ => by simp⟩
  · have hnone := hfails (by push Not at hall; exact hall)
    rw [parseTargetList, hnone]
    simp only [Option.filter_none, ne_eq, not_true_eq_false, false_iff]
    exact fun h => hall h.2

theorem parseTargetList_value {vs : List Nat} {ts : List RampTarget} (h : parseTargetList vs = some ts) :
    ts.map targetCode = listedCodes vs := by
  have hne : parseTargetList vs ≠ none := by rw [h]; simp
  obtain ⟨ts', hts', hcodes⟩ := (parseTargets_spec vs).1 ((parseTargetList_iff vs).mp hne).2
  rw [parseTargetList, hts', Option.filter_some] at h
  split_ifs at h
  rw [← Option.some.inj h]
  exact hcodes

end Sys2Proof.DescriptorWriteProofs

/-! The WRITE of a ramp descriptor: the carried descriptor and its judgement (R151). -/
namespace Sys2Proof.DescriptorJudgeProofs

open Sys2Proof.Machine Sys2Proof.Statements Sys2Proof.Laws Sys2Proof.WriteProofs Sys2Proof.SubscriptionProofs
open Sys2Proof.RampProofs Sys2Proof.DescriptorImageProofs Sys2Proof.DescriptorWriteProofs

/-! ## The descriptor a span carries -/

/-- `d` holds, field by field, what the span leaves of the descriptor `old`. -/
structure CarriedAs (sp : Span) (old d : RampDescriptor) : Prop where
  base : carriedField sp 0 (parseUpTo 1023) old.base = some d.base
  mode : carriedField sp 2 rampModeOfCode old.mode = some d.mode
  transfer : carriedField sp 4 transferOfCode old.transfer = some d.transfer
  targets : carriedTargets sp old.targets = some d.targets
  n : carriedField sp 15 (parseUpTo 7) old.n = some d.n
  l : carriedField sp 17 (parseUpTo 4095) old.l = some d.l
  bk : carriedField sp 19 (parseUpTo 255) old.bk = some d.bk
  off1 : carriedField sp 21 parseOffset old.off1 = some d.off1
  off2 : carriedField sp 23 parseOffset old.off2 = some d.off2
  reload : carriedField sp 25 (parseUpTo 65535) old.reload = some d.reload
  tick : carriedField sp 27 tickOfCode old.tick = some d.tick
  trigger : carriedTrigger sp old.trigger = some d.trigger
  endAction : carriedField sp 34 endOfCode old.endAction = some d.endAction
  rearm : carriedField sp 36 parseBool old.rearm = some d.rearm

theorem carriedDescriptor_iff (sp : Span) (old d : RampDescriptor) :
    carriedDescriptor sp old = some d ↔ CarriedAs sp old d := by
  constructor
  · intro h
    unfold carriedDescriptor at h
    split at h
    · split at h
      · cases h
        constructor <;> assumption
      · exact absurd h (by simp)
    · exact absurd h (by simp)
  · rintro ⟨h1, h2, h3, h4, h5, h6, h7, h8, h9, h10, h11, h12, h13, h14⟩
    simp only [carriedDescriptor, h1, h2, h3, h4, h5, h6, h7, h8, h9, h10, h11, h12, h13, h14]

/-- Every field the span carries is in its range. -/
def FieldsRead (sp : Span) (old : RampDescriptor) : Prop :=
  carriedField sp 0 (parseUpTo 1023) old.base ≠ none ∧ carriedField sp 2 rampModeOfCode old.mode ≠ none ∧
    carriedField sp 4 transferOfCode old.transfer ≠ none ∧ carriedField sp 15 (parseUpTo 7) old.n ≠ none ∧
    carriedField sp 17 (parseUpTo 4095) old.l ≠ none ∧ carriedField sp 19 (parseUpTo 255) old.bk ≠ none ∧
    carriedField sp 21 parseOffset old.off1 ≠ none ∧ carriedField sp 23 parseOffset old.off2 ≠ none ∧
    carriedField sp 25 (parseUpTo 65535) old.reload ≠ none ∧ carriedField sp 27 tickOfCode old.tick ≠ none ∧
    carriedTrigger sp old.trigger ≠ none ∧ carriedField sp 34 endOfCode old.endAction ≠ none ∧
    carriedField sp 36 parseBool old.rearm ≠ none ∧ carriedTargets sp old.targets ≠ none

theorem fieldsRead_of_carried {sp : Span} {old d : RampDescriptor} (h : CarriedAs sp old d) : FieldsRead sp old := by
  obtain ⟨h1, h2, h3, h4, h5, h6, h7, h8, h9, h10, h11, h12, h13, h14⟩ := h
  refine ⟨?_, ?_, ?_, ?_, ?_, ?_, ?_, ?_, ?_, ?_, ?_, ?_, ?_, ?_⟩ <;> simp only [*, ne_eq, reduceCtorEq, not_false_eq_true]

theorem carried_of_fieldsRead {sp : Span} {old : RampDescriptor} (h : FieldsRead sp old) : ∃ d, CarriedAs sp old d := by
  simp only [FieldsRead, Option.ne_none_iff_exists'] at h
  obtain ⟨⟨base, h1⟩, ⟨mode, h2⟩, ⟨transfer, h3⟩, ⟨n, h4⟩, ⟨l, h5⟩, ⟨bk, h6⟩, ⟨off1, h7⟩, ⟨off2, h8⟩, ⟨reload, h9⟩,
    ⟨tick, h10⟩, ⟨trigger, h11⟩, ⟨endAction, h12⟩, ⟨rearm, h13⟩, ⟨targets, h14⟩⟩ := h
  exact ⟨⟨base, mode, transfer, targets, n, l, bk, off1, off2, reload, tick, trigger, endAction, rearm⟩,
    ⟨h1, h2, h3, h14, h4, h5, h6, h7, h8, h9, h10, h11, h12, h13⟩⟩

theorem carriedDescriptor_none {sp : Span} {old : RampDescriptor} (h : ¬ FieldsRead sp old) :
    carriedDescriptor sp old = none := by
  rcases hd : carriedDescriptor sp old with _ | d
  · rfl
  · exact absurd (fieldsRead_of_carried ((carriedDescriptor_iff sp old d).mp hd)) h

/-! ## The fields in range -/

/-- The word the span gives the list's codes from. -/
def listWords (sp : Span) : List Nat := (List.range 8).map fun i => sp.val (7 + i)

/-- The range each field's words must be in. -/
def fieldRanges (sp : Span) : List (Nat × Prop) :=
  [(0, sp.val 1 ≤ 1023), (2, sp.val 3 ≤ 2), (4, sp.val 5 ≤ 1), (15, sp.val 16 ≤ 7), (17, sp.val 18 ≤ 4095),
    (19, sp.val 20 ≤ 255), (21, sp.val 22 ≤ 1023 ∨ 64512 ≤ sp.val 22), (23, sp.val 24 ≤ 1023 ∨ 64512 ≤ sp.val 24),
    (25, sp.val 26 ≤ 65535), (27, sp.val 28 ≤ 3),
    (29, sp.val 30 = 0 ∨ sp.val 30 = 1 ∧ sp.val 31 ≤ 3 ∧ sp.val 32 ≤ 4 ∨
      sp.val 30 = 2 ∧ sp.val 31 ≤ 3 ∧ sp.val 32 ≤ 9 ∧ sp.val 33 ≤ 6 ∨ sp.val 30 = 3 ∧ sp.val 31 ≤ 7),
    (34, sp.val 35 ≤ 2), (36, sp.val 37 ≤ 1)]

/-- The carried words are in range, the list's codes among them. -/
def DescriptorInRange (sp : Span) : Prop :=
  (∀ p ∈ fieldRanges sp, Carries sp p.1 → sp.val p.1 = 0 ∨ sp.val p.1 = 1 ∧ p.2) ∧
    (Lists sp → listedCodes (listWords sp) ≠ [] ∧ ∀ c ∈ listedCodes (listWords sp), c < 24)

theorem holds_field_iff {sp : Span} (hwhole : Whole sp) {f : Nat × Nat} (hf : f ∈ plainFields) (hpos : 0 < f.2) :
    sp.holds f.1 f.2 = true ↔ Carries sp f.1 := (hwhole.2 f hf).holds_iff_carries hpos

theorem carriedTargets_iff {sp : Span} (hfit : SpanFits 38 sp) (old : Option (List RampTarget)) :
    carriedTargets sp old ≠ none ↔
      (Lists sp → listedCodes (listWords sp) ≠ [] ∧ ∀ c ∈ listedCodes (listWords sp), c < 24) := by
  rw [carriedTargets]
  by_cases hlists : Lists sp
  · rw [if_pos ((holds_list_iff hfit).mpr hlists), ← parseTargetList_iff (listWords sp)]
    simp [hlists, listWords]
  · rw [if_neg (mt (holds_list_iff hfit).mp hlists)]
    simp [hlists]

theorem fieldsRead_iff {sp : Span} (hfit : SpanFits 38 sp) (hwhole : Whole sp) (old : RampDescriptor) :
    FieldsRead sp old ↔ DescriptorInRange sp := by
  have hval : ∀ i, sp.val i < 65536 := fun i => vals_getD_lt hfit (i - sp.start)
  have hheld : ∀ f ∈ plainFields, 0 < f.2 → (sp.holds f.1 f.2 = true ↔ Carries sp f.1) :=
    fun f hf hpos => holds_field_iff hwhole hf hpos
  simp only [plainFields, List.forall_mem_cons, List.not_mem_nil, false_implies, implies_true, and_true, Nat.zero_lt_succ,
    true_implies] at hheld
  obtain ⟨h0, h2, h4, h15, h17, h19, h21, h23, h25, h27, h29, h34, h36⟩ := hheld
  simp only [FieldsRead, DescriptorInRange, fieldRanges, List.forall_mem_cons, List.not_mem_nil, false_implies, implies_true,
    and_true, carriedField_eq, carriedTrigger_eq, carriedTargets_iff hfit, carry_ne_none_iff h0 (parseUpTo_iff ..),
    carry_ne_none_iff h2 (rampModeOfCode_iff _), carry_ne_none_iff h4 (transferOfCode_iff _),
    carry_ne_none_iff h15 (parseUpTo_iff ..), carry_ne_none_iff h17 (parseUpTo_iff ..),
    carry_ne_none_iff h19 (parseUpTo_iff ..), carry_ne_none_iff h21 (parseOffset_iff (hval _)),
    carry_ne_none_iff h23 (parseOffset_iff (hval _)), carry_ne_none_iff h25 (parseUpTo_iff ..),
    carry_ne_none_iff h27 (tickOfCode_iff _), carry_ne_none_iff h29 (parseTrigger_iff ..),
    carry_ne_none_iff h34 (endOfCode_iff _), carry_ne_none_iff h36 (parseBool_iff _), TriggerFits, and_assoc]

/-- The fields of the carried descriptor, one by one. -/
theorem CarriedAs.taken {sp : Span} (hfit : SpanFits 38 sp) (hwhole : Whole sp) {old d : RampDescriptor}
    (h : CarriedAs sp old d) :
    FieldTaken sp 0 old.base d.base (· = sp.val 1) ∧
      FieldTaken sp 2 old.mode d.mode (code [.one, .two, .three] · = sp.val 3) ∧
      FieldTaken sp 4 old.transfer d.transfer (code [.step, .line] · = sp.val 5) ∧
      (¬ Lists sp → d.targets = old.targets) ∧
      (Lists sp → ∃ ts, d.targets = some ts ∧ ts.map targetCode = listedCodes (listWords sp)) ∧
      FieldTaken sp 15 old.n d.n (· = sp.val 16) ∧ FieldTaken sp 17 old.l d.l (· = sp.val 18) ∧
      FieldTaken sp 19 old.bk d.bk (· = sp.val 20) ∧
      FieldTaken sp 21 old.off1 d.off1 (fun k => -1024 ≤ k ∧ k ≤ 1023 ∧ word k = sp.val 22) ∧
      FieldTaken sp 23 old.off2 d.off2 (fun k => -1024 ≤ k ∧ k ≤ 1023 ∧ word k = sp.val 24) ∧
      FieldTaken sp 25 old.reload d.reload (· = sp.val 26) ∧
      FieldTaken sp 27 old.tick d.tick (code [.ms10, .ms100, .s1, .s10] · = sp.val 28) ∧
      FieldTaken sp 29 old.trigger d.trigger (TriggerNamed (sp.val 30) (sp.val 31) (sp.val 32) (sp.val 33)) ∧
      FieldTaken sp 34 old.endAction d.endAction (code [.release, .hold, .repeatPass] · = sp.val 35) ∧
      FieldTaken sp 36 old.rearm d.rearm (flag · = sp.val 37) := by
  have hval : ∀ i, sp.val i < 65536 := fun i => vals_getD_lt hfit (i - sp.start)
  have hheld : ∀ f ∈ plainFields, 0 < f.2 → (sp.holds f.1 f.2 = true ↔ Carries sp f.1) :=
    fun f hf hpos => holds_field_iff hwhole hf hpos
  simp only [plainFields, List.forall_mem_cons, List.not_mem_nil, false_implies, implies_true, and_true, Nat.zero_lt_succ,
    true_implies] at hheld
  obtain ⟨h0, h2, h4, h15, h17, h19, h21, h23, h25, h27, h29, h34, h36⟩ := hheld
  have htargets := h.targets
  rw [carriedTargets] at htargets
  refine ⟨carry_taken h0 (fun _ => parseUpTo_value) h.base, carry_taken h2 (fun _ => rampModeOfCode_value) h.mode,
    carry_taken h4 (fun _ => transferOfCode_value) h.transfer, fun hnot => ?_, fun hlists => ?_,
    carry_taken h15 (fun _ => parseUpTo_value) h.n, carry_taken h17 (fun _ => parseUpTo_value) h.l,
    carry_taken h19 (fun _ => parseUpTo_value) h.bk, carry_taken h21 (fun _ => parseOffset_value (hval _)) h.off1,
    carry_taken h23 (fun _ => parseOffset_value (hval _)) h.off2, carry_taken h25 (fun _ => parseUpTo_value) h.reload,
    carry_taken h27 (fun _ => tickOfCode_value) h.tick, carry_taken h29 (fun _ => parseTrigger_value) h.trigger,
    carry_taken h34 (fun _ => endOfCode_value) h.endAction, carry_taken h36 (fun _ => parseBool_value) h.rearm⟩
  · rw [if_neg (mt (holds_list_iff hfit).mp hnot)] at htargets
    exact (Option.some.inj htargets).symm
  · rw [if_pos ((holds_list_iff hfit).mpr hlists)] at htargets
    obtain ⟨ts, hts, hsome⟩ := Option.map_eq_some_iff.mp htargets
    exact ⟨ts, hsome.symm, parseTargetList_value hts⟩

/-! ## The judgement as a whole -/

/-- The fields missing, in the order of Table 9-2. -/
def missingFields (d : RampDescriptor) : List Prop :=
  let two := d.mode = some .two ∨ d.mode = some .three
  let three := d.mode = some .three
  [d.base = none, d.mode = none, d.transfer = none, d.targets = none, d.n = none, two ∧ d.l = none, three ∧ d.bk = none,
    two ∧ d.off1 = none, three ∧ d.off2 = none, d.reload = none, d.tick = none, d.trigger = none, d.endAction = none,
    d.rearm = none]

theorem missingFields_eq (d : RampDescriptor) : missingFields d = (missingFlags d).map (· = true) := by
  simp [missingFields, missingFlags]

theorem missingFlags_complete {d : RampDescriptor} (h : ∀ p ∈ missingFields d, ¬ p) :
    (missingFlags d).findIdx? id = none := by
  rw [List.findIdx?_eq_none_iff]
  intro flag hflag
  rw [missingFields_eq] at h
  simpa using h (flag = true) (List.mem_map_of_mem hflag)

theorem missingFlags_first {d : RampDescriptor} (h : ¬ ∀ p ∈ missingFields d, ¬ p) :
    ∃ i, i < 14 ∧ (missingFields d).getD i False ∧ (missingFlags d).findIdx? id = some i := by
  rcases hfirst : (missingFlags d).findIdx? id with _ | i
  · refine absurd (fun p hp => ?_) h
    rw [missingFields_eq, List.mem_map] at hp
    obtain ⟨flag, hflag, rfl⟩ := hp
    simpa using List.findIdx?_eq_none_iff.mp hfirst flag hflag
  · obtain ⟨hi, htrue, -⟩ := List.findIdx?_eq_some_iff_getElem.mp hfirst
    have hlength : (missingFlags d).length = 14 := rfl
    refine ⟨i, by omega, ?_, rfl⟩
    rw [missingFields_eq, List.getD_eq_getElem _ _ (by simpa using hi), List.getElem_map]
    exact htrue

/-- The slot of `j` with descriptor `d` in state `st`. -/
def putDescriptor (s : State) (j : Fin 8) (d : RampDescriptor) (st : SlotState) : State :=
  { passed s with ramp := { s.ramp with slots := s.ramp.slots.set j { s.ramp.slots.get j with desc := d, state := st } } }

theorem judgeDescriptor_passed (j : Fin 8) (d : RampDescriptor) (s : State) : judgeDescriptor j d (passed s) =
    match descriptorFault j d with
    | none => done (putDescriptor s j d .loaded)
    | some reason => refuseWith .check reason (putDescriptor s j d .empty) := by
  simp only [judgeDescriptor, passed_ramp, putSlot_passed]
  rcases descriptorFault j d with _ | reason <;> rfl

section
variable {j : Fin 8} {d : RampDescriptor}

theorem descriptorFault_missing {i : Nat} (h : (missingFlags d).findIdx? id = some i) :
    descriptorFault j d = some [0, BitVec.ofNat 8 i] := by
  simp only [descriptorFault, h]
  rfl

variable (h : ∀ p ∈ missingFields d, ¬ p)
include h

theorem descriptorFault_complete : descriptorFault j d = (inconsistency j d).map fun c => [1, byteOf c] := by
  simp only [descriptorFault, missingFlags_complete h]

theorem descriptorFault_count (hcount : ¬ d.n.getD 0 + 1 = (d.targets.getD []).length) :
    descriptorFault j d = some [1, 0] := by
  rw [descriptorFault_complete h, inconsistency, if_pos hcount]
  rfl

variable (hcount : d.n.getD 0 + 1 = (d.targets.getD []).length)
include hcount

theorem descriptorFault_twice (htwice : ¬ (d.targets.getD []).Nodup) : descriptorFault j d = some [1, 1] := by
  rw [descriptorFault_complete h, inconsistency, if_neg (not_not.mpr hcount), if_pos (by simpa using htwice)]
  rfl

variable (hnodup : (d.targets.getD []).Nodup)
include hnodup

theorem descriptorFault_chain (hchain : d.trigger = some (.on (.chain j))) : descriptorFault j d = some [1, 2] := by
  rw [descriptorFault_complete h, inconsistency, if_neg (not_not.mpr hcount), if_neg (by simpa using hnodup),
    if_pos hchain]
  rfl

theorem descriptorFault_none (hchain : d.trigger ≠ some (.on (.chain j))) : descriptorFault j d = none := by
  rw [descriptorFault_complete h, inconsistency, if_neg (not_not.mpr hcount), if_neg (by simpa using hnodup),
    if_neg hchain]
  rfl

end

theorem answered_of_writeRampDescriptor {s t : State} (tag : Byte) (j : Fin 8) {sp : Span} {st : Status} {data : List Byte}
    (hs : InService s) (hfit : SpanFits 38 sp) (howner : writeRampDescriptor j sp (passed s) = ⟨st, false, data, t⟩)
    (hnode : t.ring.node = s.ring.node) :
    Answered (.writeRampDescriptor ⟨tag, spanArgs j.val sp⟩) s tag 2 st false data t :=
  answered_of_write (mk := Instr.writeRampDescriptor) (fun _ _ => rfl) tag j hs (by decide) hfit (by decide) howner hnode

section
variable {s : State} {j : Fin 8} {sp : Span}

theorem writeRampDescriptor_cut (hcut : ¬ fieldsWhole sp = true) :
    writeRampDescriptor j sp (passed s) = refuse .check (passed s) := by
  simp [writeRampDescriptor, hcut]

theorem writeRampDescriptor_whole (hwhole : fieldsWhole sp = true) : writeRampDescriptor j sp (passed s) =
    if (s.ramp.slots.get j).state ≠ .empty ∧ (s.ramp.slots.get j).state ≠ .loaded then refuse .busy (passed s)
    else match carriedDescriptor sp (s.ramp.slots.get j).desc with
      | none => refuse .range (passed s)
      | some d => judgeDescriptor j d (passed s) := by
  simp only [writeRampDescriptor, hwhole, Bool.not_true, Bool.false_eq_true, if_false, passed_ramp] <;> rfl

end

/-- Settles O24: the checks in order, then the descriptor carried and its judgement. -/
theorem rampDescriptorWritten : Obligations.RampDescriptorWritten := by
  intro s tag j sp hs hfit c x v put stop fields lists whole listed values inRange taken
  have hwhole : whole ↔ fieldsWhole sp = true := (fieldsWhole_iff hfit).symm
  have hanswer : ∀ {st : Status} {data : List Byte} {t : State},
      writeRampDescriptor j sp (passed s) = ⟨st, false, data, t⟩ → t.ring.node = s.ring.node →
      Answered c s tag 2 st false data t := fun howner hnode =>
    answered_of_writeRampDescriptor tag j hs hfit howner hnode
  have hnode := passed_node s
  refine ⟨imageOf_descriptor s j, fun hcut => hanswer (writeRampDescriptor_cut (mt hwhole.mpr hcut)) hnode,
    fun hw hempty hloaded => hanswer ((writeRampDescriptor_whole (hwhole.mp hw)).trans (if_pos ⟨hempty, hloaded⟩)) hnode,
    fun hw hstate hout => ?_, fun hw hstate hin => ?_⟩
  all_goals
    have howner : writeRampDescriptor j sp (passed s) = _ := (writeRampDescriptor_whole (hwhole.mp hw)).trans
      (if_neg fun hbusy => hstate.elim hbusy.1 hbusy.2)
  · have hnone := carriedDescriptor_none (mt (fieldsRead_iff hfit hw x.desc).mp hout)
    rw [hnone] at howner
    exact hanswer howner hnode
  · obtain ⟨d, hd⟩ := carried_of_fieldsRead ((fieldsRead_iff hfit hw x.desc).mpr hin)
    rw [(carriedDescriptor_iff _ _ _).mpr hd] at howner
    have howner : writeRampDescriptor j sp (passed s) = _ := howner.trans (judgeDescriptor_passed j d s)
    obtain ⟨t1, t2, t3, t4, t5, t6, t7, t8, t9, t10, t11, t12, t13, t14, t15⟩ := hd.taken hfit hw
    refine ⟨d, t1, t2, t3, t4, t5, t6, t7, t8, t9, t10, t11, t12, t13, t14, t15, fun hc hn hu hf => ?_, fun hc hn => ?_,
      fun hc hn hu => ?_, fun hc hn hu hf => ?_, fun hc => ?_⟩
    · rw [descriptorFault_none hc hn hu hf] at howner
      exact hanswer howner hnode
    · rw [descriptorFault_count hc hn] at howner
      exact hanswer howner hnode
    · rw [descriptorFault_twice hc hn hu] at howner
      exact hanswer howner hnode
    · rw [descriptorFault_chain hc hn hu (not_not.mp hf)] at howner
      exact hanswer howner hnode
    · obtain ⟨i, hi, hmissing, hfirst⟩ := missingFlags_first hc
      rw [descriptorFault_missing hfirst] at howner
      exact ⟨i, hi, hmissing, hanswer howner hnode⟩

end Sys2Proof.DescriptorJudgeProofs

/-! The field images of the objects that can be written, against Table 11-7 (R181). -/
namespace Sys2Proof.ConfigurationImageProofs

open Sys2Proof.Machine Sys2Proof.Statements Sys2Proof.RingProofs Sys2Proof.TrackWriteProofs Sys2Proof.ProfileProofs

/-! ## Codes -/

@[simp] theorem code_trims (x : Trim) : code trims x = trimCode x := by cases x <;> rfl

@[simp] theorem code_levels (x : Level) : code levels x = levelCode x := by cases x <;> rfl

@[simp] theorem code_origins (x : Source) : code origins x = loopSourceCode x := by cases x <;> rfl

@[simp] theorem code_valueSources (x : ValueSource) :
    code [.computed, .stored, .park, .held] x = valueSourceCode x := by cases x <;> rfl

@[simp] theorem code_covStates (x : CovState) : code [.invalid, .valid, .active] x = covStateCode x := by
  cases x <;> rfl

@[simp] theorem code_profStates (x : ProfState) : code [.invalid, .valid, .inUse] x = profStateCode x := by
  cases x <;> rfl

@[simp] theorem code_slotStates (x : SlotState) :
    code [.empty, .loaded, .armed, .running, .pausing, .paused, .holding] x = slotStateCode x := by cases x <;> rfl

@[simp] theorem code_leads (x : LeadWeb) : code [.first, .second] x = leadCode x := by cases x <;> rfl

@[simp] theorem code_covBanks (x : CovBank) : code [.a, .b] x = covBankCode x := by cases x <;> rfl

/-! ## Optional values -/

theorem optionView_words (x : Option Nat) : optionView 1 (fun v => [v]) x = optionWords x := by cases x <;> rfl

theorem optionView_words_map {α : Type} (c : α → Nat) (x : Option α) :
    optionView 1 (fun v => [c v]) x = optionWords (x.map c) := by cases x <;> rfl

@[simp] theorem timerView_eq (t : Option PartTime) : timerView t = optionTime t := by cases t <;> rfl

/-! ## The index of an object -/

theorem asFin_val {n : Nat} (i : Fin n) : asFin n i.val = some i := dif_pos i.isLt

theorem imageAt_val {n : Nat} (i : Fin n) (f : Fin n → List Nat) : imageAt n i.val f = some (f i) := by
  rw [imageAt, asFin_val]
  rfl

theorem imageAt_of_le {n index : Nat} (h : n ≤ index) (f : Fin n → List Nat) : imageAt n index f = none := by
  rw [imageAt, asFin, dif_neg (by omega)]
  rfl

/-- An index beyond Table 11-7 has no image. -/
theorem imageOf_beyond (s : State) : ∀ p ∈ [(0, 32), (1, 30), (2, 4), (3, 8), (4, 4), (5, 12), (6, 4), (7, 2), (8, 30),
    (9, 0), (10, 8), (11, 4), (12, 4), (13, 32), (14, 30), (15, 2), (16, 2), (17, 9)], ∀ index, p.2 ≤ index →
      imageOf s p.1 index = none := by
  intro p hp index hle
  simp only [List.mem_cons, List.not_mem_nil, or_false] at hp
  rcases hp with rfl | rfl | rfl | rfl | rfl | rfl | rfl | rfl | rfl | rfl | rfl | rfl | rfl | rfl | rfl | rfl | rfl | rfl
  iterate 9 exact imageAt_of_le hle _
  · rfl
  all_goals exact imageAt_of_le hle _

/-- Nor has an object beyond the table. -/
theorem imageOf_unknown (s : State) {object : Nat} (index : Nat) (h : 17 < object) : imageOf s object index = none := by
  unfold imageOf
  repeat rw [if_neg (by omega)]

/-! ## Inputs, bindings, stations, coverage -/

theorem imageOf_subscription (s : State) (ch : Fin 32) :
    imageOf s 0 ch.val = some (s.inputs.get ch).sub.words := imageAt_val ch _

theorem imageOf_binding (s : State) (ch : Fin 30) :
    imageOf s 1 ch.val = some (s.outputs.get ch).binding.words := imageAt_val ch _

theorem imageOf_stations (s : State) (w : Fin 4) : imageOf s 2 w.val = some (stationWords (s.track w)) :=
  imageAt_val w _

theorem coverageIndex_val (w : Fin 4) (bank : CovBank) :
    (coverageIndex w bank).val = 2 * w.val + code [.a, .b] bank := by cases bank <;> rfl

theorem imageOf_coverage (s : State) (w : Fin 4) (bank : CovBank) :
    imageOf s 3 (2 * w.val + code [.a, .b] bank) = some ((s.track w).bank bank).words := by
  rw [← coverageIndex_val]
  refine (imageAt_val (coverageIndex w bank) _).trans ?_
  rw [coverageWeb_coverageIndex, coverageBankOf_coverageIndex]

/-- A run's three words: its marker as 0, or its code and one more (R6). -/
def runView (r : CoverageRun) : List Nat :=
  [r.length, r.load, match r.marker with | none => 0 | some k => k.val + 1]

theorem runWords_eq (r : CoverageRun) : r.words = runView r := by
  rcases r with ⟨length, load, _ | k⟩ <;> rfl

theorem coverageWords_eq (x : CoverageBank) :
    x.words = [x.repeatLength, x.runCount] ++ x.runs.items.flatMap runView := by
  rw [CoverageBank.words, funext runWords_eq]

theorem profileIndex_val (h : Fin 2) (bank : Bank) : (profileIndex h bank).val = 2 * h.val + code [.p, .q] bank := by
  cases bank <;> rfl

theorem imageOf_profile (s : State) (h : Fin 2) (bank : Bank) :
    imageOf s 4 (2 * h.val + code [.p, .q] bank) = some ((s.profiles.get h).bank bank).fields.words := by
  rw [← profileIndex_val]
  refine (imageAt_val (profileIndex h bank) _).trans ?_
  rw [profileHousingOf_profileIndex, profileBankOf_profileIndex]

/-! ## Parameters and protection -/

/-- The fields of WEB_PARAM (R29). -/
def webParamView (p : WebParams) : List Nat :=
  [p.width, p.grammage, p.vMove, p.vRun, p.hysteresis, p.maxJump, p.washLoad, p.washLength, code trims p.trimStandby,
    code trims p.trimCrawl, code trims p.trimRun, p.chillMin]

theorem webParamWords_eq (p : WebParams) : p.words = webParamView p := by
  simp only [WebParams.words, webParamView, code_trims]

/-- The fields of HOUSING_PARAM (R118). -/
def housingParamView (p : HousingParams) : List Nat :=
  [p.lelTarget, p.lelClear, p.lelLimit, p.lelTrip, p.zoneTrip, p.exhTrip, p.purgeDwell, p.eBase, p.kExh, p.kLel,
    p.tLead, p.returnLimit, code [.first, .second] p.lead]

theorem housingParamWords_eq (p : HousingParams) : p.words = housingParamView p := by
  simp only [HousingParams.words, housingParamView, code_leads]

theorem imageOf_protection (s : State) (ch : Fin 30) : imageOf s 8 ch.val =
    some ((s.outputs.get ch).protection.items.flatMap (optionView 1 fun v => [v])) := by
  rw [funext optionView_words]
  exact imageAt_val ch _

end Sys2Proof.ConfigurationImageProofs

/-! The field images of the STATUS objects other than STATUS_CHANNEL, against their chapters' lists (R181). -/
namespace Sys2Proof.StatusImageProofs

open Sys2Proof.Machine Sys2Proof.Statements Sys2Proof.RingProofs Sys2Proof.ConfigurationImageProofs

theorem freshView_eq (s : State) (ch : Fin 32) : freshView s ch = freshWord s ch := rfl

theorem darkView_eq (s : State) (h : Fin 2) : darkView s h = boolWord (s.dark h) := by
  by_cases hdark : Dark s h
  · rw [darkView, if_pos hdark, (ZoneLoopProofs.dark_iff_modes s h).2 hdark]
    rfl
  · have hnot : s.dark h = false := by
      rw [← Bool.not_eq_true]
      exact fun hd => hdark ((ZoneLoopProofs.dark_iff_modes s h).1 hd)
    rw [darkView, if_neg hdark, hnot]
    rfl

/-! ## STATUS_WEB (R43) -/

theorem planView_eq (p : Option Plan) : optionView 2 (fun x : Plan => [x.target, x.rate]) p = planWords p := by
  cases p <;> rfl

/-- A web governs when it is enabled and leads, or its counterpart is IDLE (R42). -/
abbrev Governs (s : State) (w : Fin 4) : Prop :=
  (s.webs.get w).mode ≠ .idle ∧ (s.leadWeb (housingOf w) = w ∨ s.mode (otherWeb w) = .idle)

theorem leadWeb_cases (s : State) (w : Fin 4) :
    s.leadWeb (housingOf w) = w ∨ s.leadWeb (housingOf w) = otherWeb w := by
  unfold State.leadWeb
  cases (s.housing (housingOf w)).lead <;> revert w <;> decide

theorem governing_iff (s : State) (w : Fin 4) : s.governing (housingOf w) = some w ↔ Governs s w := by
  have hback : otherWeb (otherWeb w) = w := by revert w; decide
  have hother : otherWeb w ≠ w := by revert w; decide
  change _ ↔ s.mode w ≠ .idle ∧ (s.leadWeb (housingOf w) = w ∨ s.mode (otherWeb w) = .idle)
  unfold State.governing
  rcases leadWeb_cases s w with hlead | hlead
  · rw [hlead]
    by_cases hidle : s.mode w = .idle <;> simp [hidle, hother]
  · rw [hlead, hback]
    by_cases hidle : s.mode (otherWeb w) = .idle <;> simp [hidle, hother]

theorem webView_eq (s : State) (w : Fin 4) : webView s w = statusWeb s w := by
  have hgoverns : (if Governs s w then 1 else 0) = boolWord (decide (s.governing (housingOf w) = some w)) := by
    simp only [boolWord, decide_eq_true_eq, governing_iff]
  rw [statusWeb, ← hgoverns, ← darkView_eq, ← planView_eq, ← code_modes]
  rfl

/-! ## STATUS_QUEUE (R26) -/

/-- A marker's three words. -/
def markerView (m : Marker) : List Nat := [code markers m.kind, code [.request, .program] m.source, m.next]

theorem segmentWords_eq (x : Segment) : segmentWords x =
    [x.seq.toNat] ++ wide x.head.toNat ++ [x.length, x.load] ++ optionView 3 markerView x.marker := by
  rcases x with ⟨seq, head, length, load, _ | m⟩
  · rfl
  · simp only [segmentWords, optionView, markerView, code_markers, code_sources]
    rfl

/-- The place of a bank in the view: behind its presence word, bank A first (R26). -/
theorem activeBankWords_eq (t : TrackWeb) : optionWords (t.activeBank.map covBankCode) =
    if t.bankA.state = .active then [1, 0] else if t.bankB.state = .active then [1, 1] else [0, 0] := by
  unfold TrackWeb.activeBank
  split
  · rfl
  · split <;> rfl

theorem jobWord_eq {α : Type} (x : Option α) [Decidable (x = none)] : boolWord x.isSome = if x = none then 0 else 1 := by
  cases x <;> simp [boolWord]

theorem refWord_eq {α : Type} (x : Option α) [Decidable (x = none)] : boolWord x.isNone = if x = none then 1 else 0 := by
  cases x <;> simp [boolWord]

/-- One of the 64 record places of the view. -/
def placeView (q : List Segment) (p : Nat) : List Nat :=
  match q[p]? with
  | some x => [x.seq.toNat] ++ wide x.head.toNat ++ [x.length, x.load] ++ optionView 3 markerView x.marker
  | none => List.replicate 9 0

theorem placeWords_eq (q : List Segment) (p : Nat) : placeWords q p = placeView q p := by
  unfold placeWords placeView
  cases q[p]? with
  | none => rfl
  | some x => exact segmentWords_eq x

theorem queueView_eq (s : State) (w : Fin 4) : queueView s w = statusQueue s w := by
  rw [statusQueue, activeBankWords_eq, jobWord_eq, refWord_eq, funext (placeWords_eq _), ← code_covStates, ← code_covStates]
  rfl

/-! ## STATUS_INPUT (R59) -/

/-- The present mask as a number: bit `i` for lane `i`. -/
theorem presentMask_toNat (lanes : Tab (Option Int) 8) : (presentMask lanes).toNat =
    ((List.finRange 8).map fun i => if lanes.get i = none then 0 else 2 ^ i.val).sum := by
  have hword (x : Option Int) (n : Nat) : (if x = none then 0 else n) = if x.isSome then n else 0 := by
    cases x <;> rfl
  simp only [hword]
  have hall : ∀ p : Fin 8 → Bool, ((List.finRange 8).foldl
      (fun m i => if p i then m ||| BitVec.ofNat 8 (2 ^ i.val) else m) (0 : BitVec 8)).toNat =
      ((List.finRange 8).map fun i => if p i then 2 ^ i.val else 0).sum := by decide +kernel
  exact hall fun i => (lanes.get i).isSome

theorem inputView_eq (s : State) (ch : Fin 32) : inputView s ch = statusInput s ch := by
  rw [statusInput, presentMask_toNat, FinishingProofs.items_eq_map_get, List.map_map]
  rfl

/-! ## STATUS_PROFILE (R78) and STATUS_HOUSING (R129) -/

/-- A bank's word. -/
def bankView (b : Bank) : List Nat := [code [Bank.p, .q] b]

theorem optionBank_eq (b : Option Bank) : optionBank b = optionView 1 bankView b := by
  rcases b with _ | b
  · rfl
  · simp only [optionBank, Option.map_some, optionWords, optionView, bankView, code_banks]

theorem switchWords_eq (b : Option Bank) :
    switchWords b = optionView 2 (fun incoming : Bank => bankView (otherBank incoming) ++ bankView incoming) b := by
  rcases b with _ | b
  · rfl
  · simp only [switchWords, optionView, bankView, code_banks]
    rfl

/-- The indicators in the order of their subject numbers (R174). -/
theorem indicatorWords_eq (p : ProfileHousing) : indicatorWords p =
    [p.zones.get 0, p.zones.get 1, p.zones.get 2, p.zones.get 3, p.dampers.get 0, p.chills.get 0, p.dampers.get 1,
      p.chills.get 1].flatMap (optionView 1 bankView) := by
  have hzones : (List.finRange 4).map p.zones.get = [p.zones.get 0, p.zones.get 1, p.zones.get 2, p.zones.get 3] := rfl
  rw [indicatorWords, FinishingProofs.items_eq_map_get, hzones, funext optionBank_eq]
  simp

theorem profileView_eq (s : State) (h : Fin 2) : profileView s h = statusProfile s h := by
  rw [statusProfile, indicatorWords_eq, switchWords_eq, ← darkView_eq, ← code_profStates, ← code_profStates]
  rfl

theorem exhaustView_eq (x : ExhaustRecord) : exhaustView x = exhaustWords x := by
  rw [exhaustView, optionView_words]
  rfl

/-- The words of the part time remaining to the purge. -/
def purgeLeft (s : State) (h : Fin 2) : List Nat :=
  match (s.monitors.get h).purge with
  | some t => wide (t - s.now).toNat
  | none => [0, 0]

theorem purgeLeft_eq (s : State) (h : Fin 2) : timeWords (remaining s.now (s.monitors.get h).purge) = purgeLeft s h := by
  have hzero : timeWords 0 = [0, 0] := by decide
  unfold purgeLeft
  cases (s.monitors.get h).purge with
  | none => exact hzero
  | some t => rfl

theorem housingView_eq (s : State) (h : Fin 2) : housingView s h = statusHousing s h := by
  rw [statusHousing, purgeLeft_eq, ← exhaustView_eq, ← darkView_eq, ← timerView_eq]
  rfl

/-! ## STATUS_PROGRAM (R164) -/

theorem take_three_append {x : List Nat} (hx : x.length = 3) (r : List Nat) (n : Nat) :
    (x ++ r).take (3 * (n + 1)) = x ++ r.take (3 * n) := by
  have hthree : 3 * (n + 1) - 3 = 3 * n := by omega
  rw [List.take_append, hx, hthree, List.take_of_length_le (by omega)]

/-- Places of three words: those of a list, filled up to `n` places. -/
theorem filledPlaces_eq {α : Type} {f : α → List Nat} {e : List Nat} (hf : ∀ x, (f x).length = 3) (he : e.length = 3)
    (n : Nat) (l : List α) : (List.range n).flatMap (fun k => (l[k]?.map f).getD e) =
      (l.flatMap f ++ (List.replicate n e).flatten).take (3 * n) := by
  induction n generalizing l with
  | zero => simp
  | succ n ih =>
    rw [List.range_succ_eq_map, List.flatMap_cons, List.flatMap_map]
    cases l with
    | nil =>
      rw [List.flatMap_nil, List.nil_append, List.replicate_succ, List.flatten_cons, take_three_append he]
      exact congrArg (e ++ ·) (ih [])
    | cons x l =>
      have hmore : (List.replicate (n + 1) e).flatten = (List.replicate n e).flatten ++ e := by
        rw [List.replicate_succ', List.flatten_append, List.flatten_singleton]
      have hlong : 3 * n ≤ (l.flatMap f ++ (List.replicate n e).flatten).length := by
        simp only [List.length_append, List.length_flatten, List.map_replicate, he, List.sum_replicate, smul_eq_mul]
        omega
      rw [List.flatMap_cons, List.append_assoc, take_three_append (hf x), hmore, ← List.append_assoc,
        List.take_append_of_le_length hlong]
      exact congrArg (f x ++ ·) (ih l)

/-- The targets a slot owns, in the order of their codes. -/
def ownedTargets (s : State) (j : Fin 8) : List (Fin 24) :=
  (List.finRange 24).filter fun i => decide ((s.ramp.owners.get i).owner = some j)

/-- The place of an owned target: its code and its ramp value. -/
def ownedPlace (s : State) (i : Fin 24) : List Nat := i.val :: optionView 1 (fun v => [v]) (s.ramp.owners.get i).value

theorem ownedPlace_length (s : State) (i : Fin 24) : (ownedPlace s i).length = 3 := by
  unfold ownedPlace
  cases (s.ramp.owners.get i).value <;> rfl

theorem ownedWords_eq (s : State) (j : Fin 8) : ownedWords s j =
    ((ownedTargets s j).flatMap (ownedPlace s) ++ (List.replicate 8 [65535, 0, 0]).flatten).take 24 := by
  refine Eq.trans ?_ (filledPlaces_eq (ownedPlace_length s) rfl 8 (ownedTargets s j))
  refine congrArg (List.flatMap · (List.range 8)) (funext fun k => ?_)
  change (match (ownedTargets s j)[k]? with
    | some i => i.val :: optionWords (s.ramp.owners.get i).value
    | none => [65535, 0, 0]) = _
  cases (ownedTargets s j)[k]? with
  | none => rfl
  | some i => exact congrArg (i.val :: ·) (optionView_words _).symm

theorem programView_eq (s : State) (j : Fin 8) : programView s j = statusSlot s j := by
  rw [statusSlot, ownedWords_eq, ← code_slotStates, ← timerView_eq, ← timerView_eq]
  rfl

theorem ownersView_eq (s : State) : ownersView s = statusOwners s := by
  have hentry : (fun e : Ownership => optionWords (e.owner.map Fin.val) ++ optionWords e.value) = fun e =>
      optionView 1 (fun j : Fin 8 => [j.val]) e.owner ++ optionView 1 (fun v => [v]) e.value := by
    funext e
    rw [optionView_words_map, optionView_words]
  rw [statusOwners, hentry]
  rfl

theorem imageOf_slot (s : State) (j : Fin 8) : imageOf s 17 j.val = some (programView s j) := by
  rw [programView_eq]
  refine (imageAt_val (Fin.castLE (by decide : 8 ≤ 9) j) _).trans ?_
  exact congrArg some (dif_pos j.isLt)

theorem imageOf_owners (s : State) : imageOf s 17 8 = some (ownersView s) := by
  rw [ownersView_eq]
  rfl

end Sys2Proof.StatusImageProofs

/-! The field image of STATUS_CHANNEL (R146, with R98, R115, R129) against its list (R181). -/
namespace Sys2Proof.ChannelImageProofs

open Sys2Proof.Machine Sys2Proof.Statements Sys2Proof.RingProofs Sys2Proof.ConfigurationImageProofs
open Sys2Proof.StatusImageProofs

/-! ## The roles of the channels (Table 8-1) -/

@[simp] theorem outRole_heatOut (h : Fin 2) (z : Fin 4) : outRole (heatOut h z) = .heat h z := by
  revert h z; decide

@[simp] theorem outRole_fanOut (h : Fin 2) (z : Fin 4) : outRole (fanOut h z) = .fan h z := by revert h z; decide

@[simp] theorem outRole_exhOut (h : Fin 2) : outRole (exhOut h) = .exh h := by revert h; decide

@[simp] theorem outRole_dampOut (w : Fin 4) : outRole (dampOut w) = .damp w := by revert w; decide

@[simp] theorem outRole_chillAOut (w : Fin 4) : outRole (chillAOut w) = .chillA w := by revert w; decide

@[simp] theorem outRole_chillBOut (w : Fin 4) : outRole (chillBOut w) = .chillB w := by revert w; decide

/-- A housing channel's dwell end is the purge of its housing. -/
theorem dwellEndOf_housing (s : State) {ch : Fin 30} {h : Fin 2} (hch : ch ∈ housingChannels h) :
    dwellEndOf s ch = (s.monitors.get h).purge := by
  have hrole : isHousingChannel ch = true ∧ channelHousing ch = h := by revert ch h; decide
  rw [dwellEndOf, if_pos hrole.1, hrole.2]

/-- A web channel's dwell end is its own. -/
theorem dwellEndOf_web (s : State) {ch : Fin 30} (hch : 18 ≤ ch.val) : dwellEndOf s ch = (s.outputs.get ch).dwell := by
  rw [dwellEndOf, isHousingChannel, decide_eq_false (by omega)]
  rfl

/-! ## The stack -/

/-- The fields of Table 8-3, as the view gives them. -/
def fieldsView (k : Nat) (l : Level) (holders : Nat) (src : ValueSource) (v : Lanes) (claim dwell : Option PartTime)
    (pending : Bool) : List Nat :=
  [code levels l, holders, code [.computed, .stored, .park, .held] src] ++ laneWords k v ++ timerView claim ++
    timerView dwell ++ [flag pending]

theorem entryFields_eq (k : Nat) (l : Level) (holders : Nat) (src : ValueSource) (v : Lanes)
    (claim dwell : Option PartTime) (pending : Bool) :
    entryFields k l holders src v claim dwell pending = fieldsView k l holders src v claim dwell pending := by
  simp only [entryFields, fieldsView, code_levels, code_valueSources, timerView_eq]
  rfl

/-- An entry behind its presence word. -/
def entryView (s : State) (ch : Fin 30) (i : Fin 4) (l : Level) (dwell : Option PartTime) : List Nat :=
  optionView (10 + laneCount ch) (fun e : Entry =>
    fieldsView (laneCount ch) l e.holders.toNat e.source e.value (some e.claimTime) dwell e.releasePending)
    ((s.outputs.get ch).entries.get i)

theorem entryWords_eq (s : State) (ch : Fin 30) (i : Fin 4) :
    entryWords s ch i = entryView s ch i (levelAt i) (if 2 ≤ i.val then dwellEndOf s ch else none) := by
  unfold entryWords entryView
  cases (s.outputs.get ch).entries.get i with
  | none => rfl
  | some e => exact congrArg (1 :: ·) (entryFields_eq ..)

/-- The four entries of a channel's stack. -/
theorem entriesWords_eq (s : State) (ch : Fin 30) : (List.finRange 4).flatMap (entryWords s ch) =
    entryView s ch 0 .operator none ++ entryView s ch 1 .limit none ++ entryView s ch 2 .brk (dwellEndOf s ch) ++
      entryView s ch 3 .trip (dwellEndOf s ch) := by
  have hfour : List.finRange 4 = [0, 1, 2, 3] := rfl
  rw [hfour, funext (entryWords_eq s ch)]
  simp [levelAt]

/-! ## The view of a channel -/

/-- The lanes of a value last sent behind their presence word. -/
theorem sentWords_eq (k : Nat) (x : Option Lanes) : optionLanes k x = optionView k (laneWords k) x := by cases x <;> rfl

theorem channelView_eq (s : State) (ch : Fin 30) (role : List Nat) : channelView s ch (dwellEndOf s ch) role =
    authorityWords s ch ++ role ++ emissionWords s ch := by
  rw [authorityWords, emissionWords, entriesWords_eq, entryFields_eq, sentWords_eq, ← code_levels, ← timerView_eq,
    ← timerView_eq]
  simp only [← List.append_assoc]
  rfl

theorem imageOf_channel (s : State) (ch : Fin 30) {block : List Nat} (hblock : blockWords s ch = block) :
    imageOf s 14 ch.val = some (channelView s ch (dwellEndOf s ch) (roleWords s ch) ++ block) := by
  rw [channelView_eq, ← hblock]
  exact imageAt_val ch (statusChannel s)

/-! ## What the blocks add -/

theorem loopView_eq (s : State) (h : Fin 2) (z : Fin 4) : loopView s h z = zoneWords s h z := by
  rw [zoneWords, ← code_origins, ← code_trims, ← darkView_eq]
  rfl

theorem barView_eq (s : State) (w : Fin 4) : barView s w = webInputs s w := by
  rw [webInputs, ← code_modes]
  rfl

theorem damperView_eq (s : State) (w : Fin 4) : damperView s w = damperWords s w := by
  rw [damperWords, ← barView_eq]
  simp only [boolWord, decide_eq_true_eq]
  rfl

theorem chillView_eq (s : State) (w : Fin 4) : chillView s w = chillWords s w := by
  rw [chillWords, ← barView_eq, ← code_origins, ← code_trims]
  rfl

/-! ## The nine channels of a housing, and those of a web -/

theorem imageOf_heat (s : State) (h : Fin 2) (z : Fin 4) : imageOf s 14 (heatOut h z).val =
    some (channelView s (heatOut h z) (s.monitors.get h).purge
      (optionView 1 (fun v => [v]) (s.outputs.get (heatOut h z)).returnHold) ++ loopView s h z) := by
  rw [← dwellEndOf_housing s (ch := heatOut h z) (by revert h z; decide), optionView_words, loopView_eq]
  refine (imageOf_channel s _ rfl).trans ?_
  rw [roleWords, blockWords, outRole_heatOut]

theorem imageOf_fan (s : State) (h : Fin 2) (z : Fin 4) : imageOf s 14 (fanOut h z).val =
    some (channelView s (fanOut h z) (s.monitors.get h).purge [] ++ loopView s h z) := by
  rw [← dwellEndOf_housing s (ch := fanOut h z) (by revert h z; decide), loopView_eq]
  refine (imageOf_channel s _ rfl).trans ?_
  rw [roleWords, blockWords, outRole_fanOut]

theorem imageOf_exh (s : State) (h : Fin 2) : imageOf s 14 (exhOut h).val =
    some (channelView s (exhOut h) (s.monitors.get h).purge [] ++ exhaustView (s.monitors.get h).exhaust) := by
  rw [← dwellEndOf_housing s (ch := exhOut h) (by revert h; decide), exhaustView_eq]
  refine (imageOf_channel s _ rfl).trans ?_
  rw [roleWords, blockWords, outRole_exhOut]

/-- A web channel's image: its own dwell end twice, and its block's state. -/
def WebImage (s : State) (ch : Fin 30) (block : List Nat) : Prop := imageOf s 14 ch.val = some
  (channelView s ch (s.outputs.get ch).dwell (timerView (s.outputs.get ch).dwell) ++ block)

theorem webImage_of_role (s : State) {ch : Fin 30} (hch : 18 ≤ ch.val) {block : List Nat}
    (hrole : roleWords s ch = optionTime (s.outputs.get ch).dwell) (hblock : blockWords s ch = block) :
    WebImage s ch block := by
  refine (imageOf_channel s ch hblock).trans ?_
  rw [dwellEndOf_web s hch, hrole, timerView_eq]

theorem imageOf_damp (s : State) (w : Fin 4) : WebImage s (dampOut w) (damperView s w) := by
  refine webImage_of_role s (by revert w; decide) ?_ ?_
  · rw [roleWords, outRole_dampOut]
  · rw [blockWords, outRole_dampOut, damperView_eq]

theorem imageOf_chillA (s : State) (w : Fin 4) : WebImage s (chillAOut w) (chillView s w) := by
  refine webImage_of_role s (by revert w; decide) ?_ ?_
  · rw [roleWords, outRole_chillAOut]
  · rw [blockWords, outRole_chillAOut, chillView_eq]

theorem imageOf_chillB (s : State) (w : Fin 4) : WebImage s (chillBOut w) (chillView s w) := by
  refine webImage_of_role s (by revert w; decide) ?_ ?_
  · rw [roleWords, outRole_chillBOut]
  · rw [blockWords, outRole_chillBOut, chillView_eq]

end Sys2Proof.ChannelImageProofs

/-! READ, and WRITE of the objects that cannot be written (R180, R181). -/
namespace Sys2Proof.ReadProofs

open Sys2Proof.Machine Sys2Proof.Statements Sys2Proof.Laws Sys2Proof.WriteProofs Sys2Proof.DecoderProofs
open Sys2Proof.ConfigurationImageProofs Sys2Proof.StatusImageProofs Sys2Proof.ChannelImageProofs

/-! ## READ -/

theorem readImage_inside {image : List Nat} {off count : Nat} (hone : 1 ≤ count) (hmost : count ≤ 16)
    (hin : off + count ≤ 2 * image.length) :
    readImage image off count = some (((bytesOfWords image).drop off).take count) := by
  rw [readImage, if_neg (by omega)]

theorem readImage_outside {image : List Nat} {off count : Nat}
    (h : count = 0 ∨ 16 < count ∨ 2 * image.length < off + count) : readImage image off count = none := by
  rw [readImage, if_pos h]

theorem readObject_short {args : List Byte} (h : args.length < 5) (s : State) : readObject args s = refuse .range s := by
  rw [readObject, if_pos h]

/-- The bytes of an object other than the ramp memory that a READ asks for. -/
def readBytes (s : State) (object index off count : Nat) : Option (List Byte) :=
  (imageOf s object index).bind fun image => readImage image off count

/-- The answer that carries them, and RANGE where there are none. -/
def readAnswer (s : State) : Option (List Byte) → Answer
  | some bs => ⟨.done, false, bs, s⟩
  | none => refuse .range s

section
variable {object index hi lo count : Byte} {extra : List Byte} {s : State}

theorem readObject_image (hobject : object.toNat ≠ 9) :
    readObject (object :: index :: hi :: lo :: count :: extra) s =
      readAnswer s (readBytes s object.toNat index.toNat (hi.toNat * 256 + lo.toNat) count.toNat) := by
  have hlong : ¬ (object :: index :: hi :: lo :: count :: extra).length < 5 := by
    simp only [List.length_cons]
    omega
  refine (if_neg hlong).trans ((if_neg hobject).trans ?_)
  change (match readBytes s object.toNat index.toNat (hi.toNat * 256 + lo.toNat) count.toNat with
    | some bs => (⟨.done, false, bs, s⟩ : Answer)
    | none => refuse .range s) = _
  cases readBytes s object.toNat index.toNat (hi.toNat * 256 + lo.toNat) count.toNat <;> rfl

theorem readBytes_passed (s : State) (object index off count : Nat) :
    readBytes (passed s) object index off count = readBytes s object index off count := by
  rw [readBytes, imageOf_passed, readBytes]

/-- READ of an object other than the ramp memory. -/
theorem read_image (tag : Byte) (hs : InService s) (hobject : object.toNat ≠ 9) :
    (∀ image, imageOf s object.toNat index.toNat = some image →
      (1 ≤ count.toNat → count.toNat ≤ 16 → hi.toNat * 256 + lo.toNat + count.toNat ≤ 2 * image.length →
        Answered (.read ⟨tag, object :: index :: hi :: lo :: count :: extra⟩) s tag 1 .done false
          (((bytesOfWords image).drop (hi.toNat * 256 + lo.toNat)).take count.toNat) (passed s)) ∧
      (count = 0 ∨ 16 < count.toNat ∨ 2 * image.length < hi.toNat * 256 + lo.toNat + count.toNat →
        Refused (.read ⟨tag, object :: index :: hi :: lo :: count :: extra⟩) s tag 1 .range [])) ∧
    (imageOf s object.toNat index.toNat = none →
      Refused (.read ⟨tag, object :: index :: hi :: lo :: count :: extra⟩) s tag 1 .range []) := by
  have hrefused (hnone : readBytes s object.toNat index.toNat (hi.toNat * 256 + lo.toNat) count.toNat = none) :
      Refused (.read ⟨tag, object :: index :: hi :: lo :: count :: extra⟩) s tag 1 .range [] := by
    refine refused_of_owner (rq := ⟨tag, object :: index :: hi :: lo :: count :: extra⟩) (code := 1) rfl hs ?_
    rw [readObject_image hobject, readBytes_passed, hnone]
    rfl
  refine ⟨fun image himage => ⟨fun hone hmost hin => ?_, fun hout => hrefused ?_⟩, fun hnone => hrefused ?_⟩
  · refine answered_of_owner (rq := ⟨tag, object :: index :: hi :: lo :: count :: extra⟩) (code := 1) rfl hs
      ?_ (passed_node s)
    rw [readObject_image hobject, readBytes_passed, readBytes, himage, Option.bind_some, readImage_inside hone hmost hin]
    rfl
  · rw [readBytes, himage, Option.bind_some]
    refine readImage_outside (hout.imp_left fun hzero => ?_)
    rw [hzero]
    rfl
  · rw [readBytes, hnone]
    rfl

theorem rampSpan_inside {k : Byte} (hone : 1 ≤ k.toNat) (hmost : k.toNat ≤ 8)
    (hin : hi.toNat * 256 + lo.toNat + k.toNat ≤ 1024) :
    rampSpan (hi :: lo :: k :: extra) = some (hi.toNat * 256 + lo.toNat, k.toNat) := by
  refine if_neg ?_
  rintro (h | h | h | h)
  · simp only [List.length_cons] at h
    omega
  · have hzero : k.toNat = 0 := h
    omega
  · have hmany : 8 < k.toNat := h
    omega
  · have hbeyond : 1024 < hi.toNat * 256 + lo.toNat + k.toNat := h
    omega

theorem rampSpan_outside {k : Byte} (hout : k = 0 ∨ 8 < k.toNat ∨ 1024 < hi.toNat * 256 + lo.toNat + k.toNat) :
    rampSpan (hi :: lo :: k :: extra) = none := by
  refine if_pos (.inr (hout.imp_left fun hzero => ?_))
  rw [hzero]
  rfl

theorem readRampMemory_inside {args : List Byte} {start k : Nat} (h : rampSpan args = some (start, k)) :
    readRampMemory 0 args s = ⟨.done, false,
      (List.range k).flatMap fun i => wordBytes (RampMemory.read s.ramp.memory (start + i)).toNat, s⟩ := by
  simp only [readRampMemory, h]

theorem readRampMemory_outside {args : List Byte} (h : rampSpan args = none) (n : Nat) :
    readRampMemory n args s = refuse .range s := by
  simp only [readRampMemory, h]

theorem readRampMemory_foreign {n : Nat} (h : n ≠ 0) (args : List Byte) :
    readRampMemory n args s = refuse .range s := by
  unfold readRampMemory
  split
  · exact absurd rfl h
  · rfl

/-- READ of the ramp memory (R148). -/
theorem read_rampMemory {k : Byte} (tag : Byte) (hs : InService s) :
    (1 ≤ k.toNat → k.toNat ≤ 8 → hi.toNat * 256 + lo.toNat + k.toNat ≤ 1024 →
      Answered (.read ⟨tag, 9 :: 0 :: hi :: lo :: k :: extra⟩) s tag 1 .done false
        ((List.range k.toNat).flatMap fun i =>
          wordBytes (RampMemory.read s.ramp.memory (hi.toNat * 256 + lo.toNat + i)).toNat) (passed s)) ∧
    (k = 0 ∨ 8 < k.toNat ∨ 1024 < hi.toNat * 256 + lo.toNat + k.toNat →
      Refused (.read ⟨tag, 9 :: 0 :: hi :: lo :: k :: extra⟩) s tag 1 .range []) := by
  have hread (t : State) : readObject (9 :: 0 :: hi :: lo :: k :: extra) t =
      readRampMemory 0 (hi :: lo :: k :: extra) t :=
    if_neg (by
      simp only [List.length_cons]
      omega)
  refine ⟨fun hone hmost hin => ?_, fun hout => ?_⟩
  · refine answered_of_owner (rq := ⟨tag, 9 :: 0 :: hi :: lo :: k :: extra⟩) (code := 1) rfl hs ?_
      (passed_node s)
    rw [hread, readRampMemory_inside (rampSpan_inside hone hmost hin), SubscriptionProofs.passed_ramp]
  · refine refused_of_owner (rq := ⟨tag, 9 :: 0 :: hi :: lo :: k :: extra⟩) (code := 1) rfl hs ?_
    exact (hread _).trans (readRampMemory_outside (rampSpan_outside hout) _)

theorem read_short {short : List Byte} (tag : Byte) (hs : InService s) (hshort : short.length < 5) :
    Refused (.read ⟨tag, short⟩) s tag 1 .range [] :=
  refused_of_owner (rq := ⟨tag, short⟩) (code := 1) rfl hs (readObject_short hshort _)

/-- There is one ramp memory only. -/
theorem read_foreignMemory {args : List Byte} (tag : Byte) (hs : InService s) (hindex : index ≠ 0) :
    Refused (.read ⟨tag, 9 :: index :: args⟩) s tag 1 .range [] := by
  have hnat : index.toNat ≠ 0 := fun h => hindex (BitVec.eq_of_toNat_eq h)
  refine refused_of_owner (rq := ⟨tag, 9 :: index :: args⟩) (code := 1) rfl hs ?_
  by_cases hshort : (9 :: index :: args : List Byte).length < 5
  · exact readObject_short hshort _
  · exact (if_neg hshort).trans (readRampMemory_foreign hnat args)

/-! ## WRITE -/

theorem writeAny_status (h : 11 ≤ object.toNat) (args : List Byte) (s : State) :
    writeAny object.toNat args s = writeStatus object.toNat args s := by
  unfold writeAny
  repeat rw [if_neg (by omega)]

theorem writeStatus_none {args : List Byte} (h : imageOf s object.toNat index.toNat = none) :
    writeStatus object.toNat (index :: args) s = refuse .range s := by
  simp only [writeStatus, h]

theorem writeStatus_error {args : List Byte} {image : List Nat} {st : Status}
    (h : imageOf s object.toNat index.toNat = some image) (hspan : readSpan image.length args = .error st) :
    writeStatus object.toNat (index :: args) s = refuse st s := by
  simp only [writeStatus, h, hspan]

theorem writeStatus_ok {args : List Byte} {image : List Nat} {sp : Span}
    (h : imageOf s object.toNat index.toNat = some image) (hspan : readSpan image.length args = .ok sp) :
    writeStatus object.toNat (index :: args) s = refuse .check s := by
  simp only [writeStatus, h, hspan]

/-- A span within the image is either whole words or refused with CHECK. -/
theorem readSpan_inside {words : Nat} {data : List Byte} (hone : 1 ≤ count.toNat) (hmost : count.toNat ≤ 16)
    (hdata : count.toNat ≤ data.length) (hin : hi.toNat * 256 + lo.toNat + count.toNat ≤ 2 * words) :
    readSpan words (hi :: lo :: count :: data) = .error .check ∨
      ∃ sp, readSpan words (hi :: lo :: count :: data) = .ok sp := by
  by_cases hodd : (hi.toNat * 256 + lo.toNat) % 2 = 1 ∨ count.toNat % 2 = 1
  · exact .inl (readSpan_check hone hmost hdata hin hodd)
  · have hoff : wordAt (hi :: lo :: count :: data) 0 = hi.toNat * 256 + lo.toNat := rfl
    have hcount : byteAt (hi :: lo :: count :: data) 2 = count.toNat := rfl
    unfold readSpan
    simp only [hoff, hcount, List.length_cons]
    rw [if_neg (by omega), if_neg hodd]
    exact .inr ⟨_, rfl⟩

/-- WRITE of an object that cannot be written. -/
theorem write_status {data : List Byte} (tag : Byte) (hs : InService s) (hobject : 11 ≤ object.toNat) :
    (∀ image, imageOf s object.toNat index.toNat = some image →
      (1 ≤ count.toNat → count.toNat ≤ 16 → count.toNat ≤ data.length →
        hi.toNat * 256 + lo.toNat + count.toNat ≤ 2 * image.length →
        Refused (.write ⟨tag, object :: index :: hi :: lo :: count :: data⟩) s tag 2 .check []) ∧
      (count = 0 ∨ 16 < count.toNat ∨ data.length < count.toNat ∨
          2 * image.length < hi.toNat * 256 + lo.toNat + count.toNat →
        Refused (.write ⟨tag, object :: index :: hi :: lo :: count :: data⟩) s tag 2 .range [])) ∧
    (imageOf s object.toNat index.toNat = none →
      Refused (.write ⟨tag, object :: index :: hi :: lo :: count :: data⟩) s tag 2 .range []) := by
  have hrefused {st : Status}
      (h : writeStatus object.toNat (index :: hi :: lo :: count :: data) (passed s) = refuse st (passed s)) :
      Refused (.write ⟨tag, object :: index :: hi :: lo :: count :: data⟩) s tag 2 st [] :=
    refused_of_owner (rq := ⟨tag, object :: index :: hi :: lo :: count :: data⟩) (code := 2) rfl hs
      ((writeAny_status hobject _ _).trans h)
  have himages (image : Option (List Nat)) (h : imageOf s object.toNat index.toNat = image) :
      imageOf (passed s) object.toNat index.toNat = image := (imageOf_passed s _ _).trans h
  refine ⟨fun image himage => ⟨fun hone hmost hdata hin => hrefused ?_, fun hout => hrefused ?_⟩,
    fun hnone => hrefused (writeStatus_none (himages _ hnone))⟩
  · rcases readSpan_inside hone hmost hdata hin with hspan | ⟨sp, hspan⟩
    · exact writeStatus_error (himages _ himage) hspan
    · exact writeStatus_ok (himages _ himage) hspan
  · exact writeStatus_error (himages _ himage) (readSpan_range hout)

theorem readSpan_short {words : Nat} {args : List Byte} (h : args.length < 4) : readSpan words args = .error .range := by
  refine if_pos ?_
  rcases Nat.lt_or_ge args.length 3 with hthree | hthree
  · exact .inl hthree
  · rcases Nat.eq_zero_or_pos (byteAt args 2) with hzero | hpos
    · exact .inr (.inl hzero)
    · exact .inr (.inr (.inr (.inl (by omega))))

theorem writeObject_short {n words : Nat} {owner : Fin n → Span → State → Answer} {args : List Byte}
    (h : args.length < 4) (s : State) : writeObject n words owner args s = refuse .range s := by
  cases args with
  | nil => rfl
  | cons index rest =>
    rcases Nat.lt_or_ge index.toNat n with hin | hout
    · rw [writeObject, indexed_cons _ _ _ _ _ hin]
      simp only [readSpan_short (Nat.lt_of_succ_lt h)]
    · exact indexed_out n _ index rest s hout

theorem writeMemory_short {args : List Byte} (h : args.length < 4) (s : State) :
    indexed 1 writeRampMemory args s = refuse .range s := by
  cases args with
  | nil => rfl
  | cons index rest =>
    rcases Nat.lt_or_ge index.toNat 1 with hin | hout
    · have hspan : rampSpan rest = none := if_pos (.inl (Nat.lt_of_succ_lt_succ h))
      rw [indexed_cons _ _ _ _ _ hin, writeRampMemory, hspan]
    · exact indexed_out 1 _ index rest s hout

theorem writeStatus_short {args : List Byte} (h : args.length < 4) (object : Nat) (s : State) :
    writeStatus object args s = refuse .range s := by
  cases args with
  | nil => rfl
  | cons index rest =>
    unfold writeStatus
    simp only [readSpan_short (Nat.lt_of_succ_lt h)]
    split <;> rfl

/-- Missing arguments are refused whatever the object. -/
theorem writeAny_short {args : List Byte} (h : args.length < 4) (object : Nat) (s : State) :
    writeAny object args s = refuse .range s := by
  unfold writeAny
  simp only [writeObject_short h, writeMemory_short h, writeStatus_short h, ite_self]

theorem write_short {short : List Byte} (tag : Byte) (hs : InService s) (hshort : short.length < 5) :
    Refused (.write ⟨tag, short⟩) s tag 2 .range [] := by
  refine refused_of_owner (rq := ⟨tag, short⟩) (code := 2) rfl hs ?_
  cases short with
  | nil => rfl
  | cons object rest => exact writeAny_short (Nat.lt_of_succ_lt_succ hshort) object.toNat (passed s)

end

/-- Settles O13: the images object by object, and READ and WRITE from the image. -/
theorem imagesReadAndStatusProtected : Obligations.ImagesReadAndStatusProtected := by
  refine ⟨fun s => ⟨?_, ?_, ?_, ?_, ?_, ?_, ?_, ?_, ?_, ?_, ?_, ?_, ?_, ?_, ?_, ?_, ?_, ?_, ?_, ?_⟩,
    fun s tag hs => ⟨?_, ?_, ?_, ?_, ?_, ?_⟩⟩
  · exact imageOf_subscription s
  · exact imageOf_binding s
  · exact imageOf_stations s
  · exact fun w bank => (imageOf_coverage s w bank).trans (congrArg some (coverageWords_eq _))
  · exact imageOf_profile s
  · exact LoopProofs.imageOf_zone s
  · exact LoopProofs.imageOf_circuit s
  · exact fun w => (imageOf_webParam s w).trans (congrArg some (webParamWords_eq _))
  · exact fun h => (HousingProofs.imageOf_housingParam s h).trans (congrArg some (housingParamWords_eq _))
  · exact imageOf_protection s
  · exact DescriptorImageProofs.imageOf_descriptor s
  · exact fun w => ⟨(imageAt_val w _).trans (congrArg some (webView_eq s w).symm),
      (imageAt_val w _).trans (congrArg some (queueView_eq s w).symm)⟩
  · exact fun ch => (imageAt_val ch _).trans (congrArg some (inputView_eq s ch).symm)
  · exact fun h z => ⟨imageOf_heat s h z, imageOf_fan s h z, imageOf_exh s h⟩
  · exact fun w => ⟨imageOf_damp s w, imageOf_chillA s w, imageOf_chillB s w⟩
  · exact fun h => ⟨(imageAt_val h _).trans (congrArg some (profileView_eq s h).symm),
      (imageAt_val h _).trans (congrArg some (housingView_eq s h).symm)⟩
  · exact imageOf_slot s
  · exact imageOf_owners s
  · exact imageOf_beyond s
  · exact fun object index => imageOf_unknown s index
  · exact fun object index hi lo count extra hobject => read_image tag hs hobject
  · exact fun short => read_short tag hs
  · exact fun hi lo k extra => read_rampMemory tag hs
  · exact fun index args => read_foreignMemory tag hs
  · exact fun object index hi lo count data hobject => write_status tag hs hobject
  · exact fun short => write_short tag hs

end Sys2Proof.ReadProofs
